-- ==== Sys2Proof/Word.lean ====
section
/-! DEFINITION. The index and byte types of the part (section 5 of 00_scope.md: lines 0-7, drives 0-3, two buffers
per line). -/
namespace Sys2Proof

/-- A byte of a frame, of a sector or of the buffer memory. -/
abbrev Byte := BitVec 8
/-- A desk line, 0-7. -/
abbrev Line := Fin 8
/-- A drive, and the sequencer, region and volume context of the same number, 0-3. -/
abbrev DriveId := Fin 4
/-- A request buffer of a line unit, 0 or 1 (R175). -/
abbrev BufId := Fin 2

end Sys2Proof
end

