-- ==== Sys2Proof/Config.lean ====
section
/-! DEFINITION. What the spec leaves open as a value: constants without a body, so that no proof can use a choice of
the model's (DESIGN CHOICE, safe: log 6, 19, 55). -/
namespace Sys2Proof

/-- The four mark kinds (R3). -/
inductive MarkKind where
  | index | id | data | retired
  deriving DecidableEq, Repr

/-- The two recordings (R2). -/
inductive Recording where
  | fm | mfm
  deriving DecidableEq, Repr

/-- The byte value of a mark. The spec gives none (R3 and its Note): a free value (DESIGN CHOICE, safe: log 6). -/
opaque Config.markByte : MarkKind → Byte

/-- The missing-clock pattern of a mark: bit i set where the clock transition of data bit i is still written. R3 gives no
pattern: a free value (DESIGN CHOICE, safe: log 6). -/
opaque Config.markClocks : Recording → MarkKind → Byte

/-- The data bit that the first MFM cell written under a gate follows (R2 counts on from a bit the gate did not write): a
free value (DESIGN CHOICE, safe: log 55). -/
opaque Config.bitBeforeGate : Bool

/-- The filler byte of a gap (R4 calls it filler and gives no value): a free value (DESIGN CHOICE, safe: log 6). -/
opaque Config.fillerByte : Recording → Byte

/-- The largest spt of MFM with size code 0, if it is a profile at all. Table 1-1 does not list it and no rule refuses
it: a free value (DESIGN CHOICE, safe: log 19). -/
opaque Config.mfm128MaxSpt : Option Nat

/-- Gap 3 of MFM with size code 0 (not in Table 1-3): a free value (DESIGN CHOICE, safe: log 19). -/
opaque Config.mfm128Gap3 : Nat

end Sys2Proof
end

