-- ==== Sys2Proof/Syntax.lean ====
section
/-! DEFINITION. The commands: one constructor per row of spec/opcode_table.json, with the operands the row's rule
reads. A request command names the line and the buffer whose request its owner takes; the request's own operands are
the body bytes in that buffer (R174, Table 11-2). A drive or line event names its drive or line. A command whose rule
reads a duration carries it in microseconds (DESIGN CHOICE, safe: log 3). -/
namespace Sys2Proof

/-- An ID field as it comes from the head (R4, R9): the zero data bytes that stand just before its ID mark (R3), the four
contents bytes and the two check bytes. The mark's own byte is that of its kind (DEDUCED, unsafe: log 32). -/
structure IdField where
  sync     : Nat
  cylinder : Byte
  head     : Byte
  sectorId : Byte
  sizeCode : Byte
  check    : BitVec 16
  deriving DecidableEq, Repr

/-- Which of the two marks opened a data field (R3, R7). -/
inductive DataMark where
  | data | retired
  deriving DecidableEq, Repr

/-- A data field as it comes from the head (R7, R9): the zero data bytes that stand just before its mark (R3), the mark
kind, whose byte is the mark's own (DEDUCED, unsafe: log 32), the data and the two check bytes. `whole` is false when the
next index pulse cut it short. -/
structure DataField where
  sync  : Nat
  mark  : DataMark
  bytes : List Byte
  check : BitVec 16
  whole : Bool
  deriving DecidableEq, Repr

/-- The mark kind of a data mark (R3). -/
def DataMark.kind : DataMark → MarkKind
  | .data => .data
  | .retired => .retired

/-- The drive cable levels that SENSE_LEVEL_CHANGE reports (R19; READY has rows of its own). -/
inductive SenseLine where
  | trackZero | writeProtect | twoSided | driveFault
  deriving DecidableEq, Repr

/-- The level inputs of one drive cable (R19), true when asserted. -/
structure DriveLevels where
  ready        : Bool
  trackZero    : Bool
  writeProtect : Bool
  twoSided     : Bool
  driveFault   : Bool
  deriving DecidableEq, Repr

/-- Where the supply stands against the two levels of R64. -/
inductive SupplyLevel where
  | belowInhibit | between | restored
  deriving DecidableEq, Repr

/-- The four line rates (R169). -/
inductive Rate where
  | b9600 | b19200 | b38400 | b76800
  deriving DecidableEq, Repr

/-- The straps (R186). `lowCurrentHigh` is the polarity strap: the level at which LOW-CURRENT is asserted. -/
structure Straps where
  drivesPresent  : Vector Bool 4
  rate0          : Rate
  lowCurrentHigh : Bool
  deriving DecidableEq, Repr

/-- Every level input of the part, as it reads when power comes on. -/
structure Inputs where
  straps      : Straps
  drives      : Vector DriveLevels 4
  linePresent : Vector Bool 8
  supply      : SupplyLevel
  deriving DecidableEq, Repr

/-- The rows of spec/opcode_table.json, in the table's order. -/
inductive Instr where
  | volumeStatus (l : Line) (b : BufId)
  | eject (l : Line) (b : BufId)
  | prepareVolume (l : Line) (b : BufId)
  | lookup (l : Line) (b : BufId)
  | listStories (l : Line) (b : BufId)
  | createStory (l : Line) (b : BufId)
  | readBlock (l : Line) (b : BufId)
  | writeBlock (l : Line) (b : BufId)
  | fileStory (l : Line) (b : BufId)
  | moveStory (l : Line) (b : BufId)
  | spike (l : Line) (b : BufId)
  | revive (l : Line) (b : BufId)
  | purge (l : Line) (b : BufId)
  | readClock (l : Line) (b : BufId)
  | setClock (l : Line) (b : BufId)
  | openStory (l : Line) (b : BufId)
  | release (l : Line) (b : BufId)
  | breakClaim (l : Line) (b : BufId)
  | watchSet (l : Line) (b : BufId)
  | watchStatus (l : Line) (b : BufId)
  | watchClear (l : Line) (b : BufId)
  /-- `elapsedUs`: the time since the silence timer of the named line was last started (R183). -/
  | lineStatus (l : Line) (b : BufId) (elapsedUs : Nat)
  | configure (l : Line) (b : BufId)
  | driveStatus (l : Line) (b : BufId)
  | statistics (l : Line) (b : BufId)
  | clearDrive (l : Line) (b : BufId)
  | sweep (l : Line) (b : BufId)
  | rawRead (l : Line) (b : BufId)
  | restart (l : Line) (b : BufId)
  /-- A character at the receiver of a line; `framingError` when its stop bit was sampled low (R169). -/
  | characterReceived (l : Line) (c : Byte) (framingError : Bool)
  | frameTimerExpiry (l : Line)
  | frameComplete (l : Line)
  | replyFrameSent (l : Line)
  | rateChangeEffect (l : Line)
  | linePresentFalls (l : Line)
  | linePresentRises (l : Line)
  | silenceTimerExpiry (l : Line)
  | readyRises (d : DriveId)
  | readyDrops (d : DriveId)
  /-- `elapsedUs`: the time since the last pulse time of the index timing record (R22). -/
  | indexPulse (d : DriveId) (elapsedUs : Nat)
  | indexPeriodTimeout (d : DriveId)
  | speedReached (d : DriveId)
  | speedFault (d : DriveId)
  | noIndexTimeout (d : DriveId)
  | driveFaultAsserted (d : DriveId)
  | senseLevelChange (d : DriveId) (which : SenseLine) (level : Bool)
  | recalStepEnd (d : DriveId)
  | recalSettleEnd (d : DriveId)
  | moveStepEnd (d : DriveId)
  | settleTimerEnd (d : DriveId)
  | headLoadTimerEnd (d : DriveId)
  | unloadDelayReached (d : DriveId)
  /-- `elapsedUs`: the time since the last pulse time (R26), from which the rotational position is taken. -/
  | selection (d : DriveId) (elapsedUs : Nat)
  | channelGrant
  | idFieldAccepted (f : IdField)
  | dataWindowExpired
  | dataFieldRead (f : DataField)
  | dataFieldWritten
  | attemptEnd
  | volumeDrainComplete (d : DriveId)
  /-- `gateUs`: the time since the open write gate opened, which tells what a format is writing (R4, R64 item 2); read
  only while a format's gate is open. Given without a time, the command comes as the gate opens. -/
  | supplyBelowInhibit (gateUs : Nat := 0)
  | supplyAtRestore
  | supplyBelowRestore
  | restoreTimerExpiry
  | longInhibitTimerExpiry
  | clockSecond
  | powerOn (i : Inputs)
  /-- `lowCurrentHigh`: the polarity strap, which the LOW-CURRENT outputs follow directly during the reset (R189). -/
  | externalResetAsserted (lowCurrentHigh : Bool)
  | externalResetReleased (straps : Straps)
  /-- `failed`: for each region, whether some byte did not return every pattern (R108). -/
  | selfTestComplete (failed : Vector Bool 4)
  | partRunning
  /-- `gateUs`: as for SUPPLY_BELOW_INHIBIT (R191). -/
  | drainTimerExpiry (gateUs : Nat := 0)
  | drainEnd (straps : Straps)
  | formatFieldFinished
  deriving DecidableEq, Repr

end Sys2Proof
end

