-- ==== Sys2Proof/Decode.lean ====
section
/-! DEFINITION. No row of spec/opcode_table.json gives bits, so no word spells a command. (The bytes of a request frame
are read by the line unit, R171-R174, and are modelled in Machine/Operands.lean and Machine/Ops.lean.) -/
namespace Sys2Proof

/-- The command a word of `nbits` bits spells: none, for the table gives no row any bits. -/
def decodeTableWord (_nbits _w : Nat) : Option Instr := none

end Sys2Proof
end

