-- ==== Sys2Proof/Machine/Types.lean ====
section
/-! DEFINITION. The pieces of the state, block by block (Table 0-1 of 00_scope.md), each as plain data. -/
namespace Sys2Proof.Machine

/-! ### Desk lines (Chapter 9) -/

/-- Table 9-2. -/
inductive PortState where
  | absent | idle | active
  deriving DecidableEq, Repr

/-- The four line classes (section 9.4), in the order of their codes. -/
inductive LineClass where
  | reporter | copy | slot | console
  deriving DecidableEq, Repr

/-- The stage of a held request (R175). -/
inductive Stage where
  | inProgress | complete | sending
  deriving DecidableEq, Repr

/-- REFUSED reasons, in the order of Table 11-3. -/
inductive Reason where
  | noVolume | notReady | readOnly | writeProtected | foreign | unmounting | claimed | notClaimed | duplicate | indexFull
  | volumeFull | extentsFull | outOfRange | noStory | wrongState | tableFull | watchFull | notPermitted | badRequest
  deriving DecidableEq, Repr

/-- FAILED causes, in the order of Table 11-3. -/
inductive Cause where
  | readCheck | notFound | writeCheck | seekFault | driveFault | removed | indexFault | powerLow | trimmed
  deriving DecidableEq, Repr

/-- BUSY causes, in the order of Table 11-3. -/
inductive BusyCause where
  | starting | noBuffer | queueFull | sweepPending
  deriving DecidableEq, Repr

/-- LINE-FAULT kinds, in the order of Table 11-3. -/
inductive LineFaultKind where
  | length | framing | timeout | check
  deriving DecidableEq, Repr

/-- A reply as its owner hands it over (R176): the result body of DONE follows the two-byte header (R196). -/
inductive Reply where
  | done (clamped recovered : Bool) (result : List Byte)
  | refused (r : Reason) (holder : Option Line)
  | failed (c : Cause)
  | busy (c : BusyCause)
  | lineFault (k : LineFaultKind)
  deriving DecidableEq, Repr

/-- A HELD request buffer (R175). `cls` is the class its line had when the request was examined, by which its owner goes on
whatever the new class (R174 item 3, R182 item 2). `taken` is the model's own: the owner has begun on the request (DESIGN CHOICE, safe:
log 9). `oldRate` stands for R182 item 1: the request is a CONFIGURE that has changed the rate of its own line, and its
DONE reply is sent at the old rate. -/
structure Held where
  tag    : Byte
  code   : Byte
  body   : List Byte
  stage  : Stage
  taken  : Bool
  orphan : Bool
  reply  : Option Reply
  cls    : LineClass
  oldRate : Bool := false
  deriving DecidableEq, Repr

/-- The receive area (R172): the bytes are those after the start code. `judged` says that the held frame has had its
first judging (R173). -/
inductive RxArea where
  | hunt
  | receiving (bytes : List Byte)
  | held (bytes : List Byte) (judged : Bool)
  deriving DecidableEq, Repr

/-- A place in the reply order (R177). -/
inductive ReplySlot where
  | buf (b : BufId)
  | pendingPlace
  deriving DecidableEq, Repr

/-- A reply without a buffer (R177): its tag, the request code of its header (R196) and the reply. -/
structure PendingReply where
  tag   : Byte
  code  : Byte
  reply : Reply
  deriving DecidableEq, Repr

/-- The silence timer (R179): RUNNING carries the limit, in seconds, that it was started from. -/
inductive SilenceTimer where
  | stopped
  | running (limitS : Nat)
  deriving DecidableEq, Repr

/-- One desk line unit. `tx` is the reply frame on the line, that of the head of `order`. -/
structure LineUnit where
  present       : Bool
  rx            : RxArea
  bufs          : Vector (Option Held) 2
  order         : List ReplySlot
  pendingReply  : Option PendingReply
  tx            : Option (List Byte)
  silence       : SilenceTimer
  rate          : Rate
  framesTaken   : Nat
  checkErrors   : Nat
  abandoned     : Nat
  resetDue      : Bool
  deriving DecidableEq, Repr

/-! ### Drives (Chapters 2 and 4) -/

/-- Table 2-2, in the order of their codes (R195). -/
inductive DriveCondition where
  | offline | empty | speedCheck | ready | faulted
  deriving DecidableEq, Repr

/-- Section 2.2, in the order of their codes. -/
inductive FaultCause where
  | noCause | noIndex | speed | driveFault | trackZero
  deriving DecidableEq, Repr

/-- The index timing record (R22). `pulseSeen` says that the last pulse time is present; the time itself is the
outside's (DESIGN CHOICE, safe: log 3). -/
structure IndexTiming where
  pulseSeen  : Bool
  lastPeriod : Option Nat
  run        : Nat
  miss       : Nat
  deriving DecidableEq, Repr

/-- Table 2-3, in the order of their codes. -/
inductive PosState where
  | unknown | recalibrating | resting | moving | settling | onTrack
  deriving DecidableEq, Repr

/-- The positioner (section 2.4). A timer holds the time, in microseconds, it was started with (R32). -/
structure Positioner where
  state       : PosState
  cylinder    : Option Nat
  headLoaded  : Bool
  target      : Option Nat
  remaining   : Nat
  unload      : Nat
  inward      : Bool
  stepTimer   : Option Nat
  settleTimer : Option Nat
  loadTimer   : Option Nat
  deriving DecidableEq, Repr

/-- A profile to read with: recording, size code and sectors per track (R6, R55). -/
structure ReadProfile where
  recording : Recording
  sizeCode  : Nat
  spt       : Nat
  deriving DecidableEq, Repr

/-- Table 4-2. -/
inductive ReqState where
  | queued | selected | inService | recalWait
  deriving DecidableEq, Repr

/-- Who placed a request (R71). -/
inductive Origin where
  | desk (l : Line)
  | volume
  deriving DecidableEq, Repr

/-- Where the write-back of an extending WRITE BLOCK stands while its data WRITE is in the queue (R139). -/
inductive WriteBack where
  | waiting | answered | faulted
  deriving DecidableEq, Repr

/-- The WRITE steps of a preparation (R125). -/
inductive PrepStep where
  | label
  | index (sector : Nat)
  deriving DecidableEq, Repr

/-- Table 4-1: the request kinds with their buffer references. -/
inductive ReqKind where
  | fill (frame : Nat)
  | indexLoad
  | labelRead
  | directRead (b : BufId)
  | rawRead (b : BufId)
  | write (b : BufId) (ext : Option WriteBack)
  | prepWrite (st : PrepStep)
  | indexWrite (sector : Nat)
  | formatTrack
  | sweep (b : BufId)
  deriving DecidableEq, Repr

/-- A request record (R72). `profile` is the profile it reads with (DEDUCED, unsafe: log 7); `granted` says that the
channel has been
granted to it at least once (R104). -/
structure Request where
  origin   : Origin
  kind     : ReqKind
  cylinder : Nat
  head     : Nat
  sectorId : Option Nat
  slot     : Option Nat
  profile  : ReadProfile
  arrival  : Nat
  lines    : List Line
  wanted   : List Nat
  passed   : Nat
  state    : ReqState
  granted  : Bool
  deriving DecidableEq, Repr

/-- One drive sequencer. The counts are those of R90. -/
structure DriveSeq where
  levels       : DriveLevels
  condition    : DriveCondition
  cause        : FaultCause
  index        : IndexTiming
  noIndexTimer : Bool
  pos          : Positioner
  reportDue    : Bool
  reportHeld   : Bool
  queue        : List Request
  patternStep  : Nat
  selections   : Nat
  bypasses     : Nat
  opens        : Nat
  refused      : Nat
  deriving DecidableEq, Repr

/-! ### The read/write channel (Chapter 3) -/

/-- Table 3-2. -/
inductive ChanState where
  | idle | search | read | write | writeCheck | format
  deriving DecidableEq, Repr

/-- The ladder steps (R46), in the order of their codes. -/
inductive LadderStep where
  | initial | one | two | three
  deriving DecidableEq, Repr

/-- The strobes (R46), in the order of their codes. -/
inductive Strobe where
  | early | normal | late
  deriving DecidableEq, Repr

/-- The zones (R10), in the order of their codes. -/
inductive Zone where
  | outer | inner
  deriving DecidableEq, Repr

/-- What a fill has recorded of a sector ID (R52). -/
inductive SectorNote where
  | unrecorded | good | bad | absent
  deriving DecidableEq, Repr

/-- A margin record (R60). -/
structure Margin where
  preferred  : Strobe
  leanEarly  : Nat
  leanNormal : Nat
  leanLate   : Nat
  deriving DecidableEq, Repr

/-- The operation record (R46) with what the rules of Chapter 3 keep beside it. -/
structure OpRecord where
  step       : LadderStep
  strobe     : Strobe
  zone       : Zone
  wrong      : Nat
  pulses     : Nat
  writes     : Nat
  /-- A fill: the condition of sector IDs 1..spt (R52). -/
  notes      : List SectorNote
  /-- A fill: the wanted sectors still failing (R53). -/
  failing    : List Nat
  /-- A fill: the first pass is running (R52). -/
  inPass     : Bool
  /-- A fill: the sector ID that began the pass (R52). -/
  passStart  : Option Nat
  /-- The sector whose data field the channel looks for or reads (R5). -/
  awaiting   : Option Nat
  /-- The first ID field naming the one sector sought has been acted on in this attempt (R47). -/
  acted      : Bool
  /-- The ID field of the one sector sought was accepted in some attempt (R51). -/
  seen       : Bool
  /-- The sectors given the note RECOVERED (R51). -/
  recovered  : List Nat
  /-- The strobes whose lean count this operation has raised (R61). -/
  learned    : List Strobe
  /-- The margin records this operation has taught, as they were before (R68 item 4, DEDUCED, unsafe: log 15). -/
  undo       : List (Zone × Margin)
  /-- The preferred strobe when step 2 began (R49, DEDUCED, unsafe: log 16). -/
  basePref   : Strobe
  /-- An INDEX-WRITE: the copy of the sector image (R58). -/
  image      : Option (List Byte)
  /-- The write check of a format: the sector IDs of the accepted ID fields, and those read good (R59). -/
  checkSeen  : List Nat
  checkGood  : List Nat
  checkBad   : Bool
  /-- A sweep: the strobe of the running revolution and those still to come, the sectors read good in the revolution,
  and the counts of the revolutions made (R63). -/
  sweepRun   : Option Strobe
  sweepLeft  : List Strobe
  sweepGood  : List Nat
  sweepCount : List (Strobe × Nat)
  deriving DecidableEq, Repr

/-- One item the channel lays down under an open gate (R4, R7). -/
inductive TrackItem where
  /-- A byte under the normal clock rule. -/
  | byte (b : Byte)
  /-- A mark byte, written with missing clocks (R3). -/
  | mark (k : MarkKind)
  deriving DecidableEq, Repr

/-- An open write gate: the zone and the precompensation amount fixed at its opening (R10), the recording, what is laid
down, and whether filler follows it until the next index pulse (R4 item 3). -/
structure Gate where
  zone      : Zone
  precomp   : Nat
  recording : Recording
  items     : List TrackItem
  trailing  : Bool
  deriving DecidableEq, Repr

/-- The read/write channel. The counts are those of R69. -/
structure Channel where
  state        : ChanState
  granted      : Option DriveId
  last         : DriveId
  asking       : Vector Bool 4
  ops          : Vector (Option OpRecord) 4
  gate         : Option Gate
  outer        : Vector Margin 4
  inner        : Vector Margin 4
  sweepFlag    : Vector Bool 4
  supply       : SupplyLevel
  inhibit      : Bool
  longInhibit  : Bool
  restoreTimer : Bool
  longTimer    : Bool
  recovered    : Nat
  failed       : Nat
  rewrites     : Nat
  checksFailed : Nat
  seekFaults   : Nat
  inhibits     : Nat
  deriving DecidableEq, Repr

/-! ### The track cache (Chapter 5) -/

/-- Region states (R93), in the order of their codes. -/
inductive RegionState where
  | shut | opened | closing
  deriving DecidableEq, Repr

/-- The condition of a sector in a VALID frame (R94). -/
inductive SectorCond where
  | good | bad | absent
  deriving DecidableEq, Repr

/-- A reader waiting on a FILLING frame (R94). -/
structure Reader where
  line   : Line
  buf    : BufId
  sector : Nat
  deriving DecidableEq, Repr

/-- A cache frame (Table 5-2). -/
inductive Frame where
  | empty
  | filling (cylinder head : Nat) (readers : List Reader)
  | valid (cylinder head fillNumber : Nat) (conds : List SectorCond)
  deriving DecidableEq, Repr

/-- One region; F is the length of the frame table. The counts are those of R109. -/
structure Region where
  state   : RegionState
  frames  : List Frame
  failed  : Bool
  hits    : Nat
  fills   : Nat
  directs : Nat
  evicts  : Nat
  deriving DecidableEq, Repr

/-! ### Volumes and the story index (Chapters 6 and 7) -/

/-- Volume states (R111), in the order of their codes. -/
inductive VolState where
  | noVolume | mounting | mounted | readOnly | foreign | draining | released | preparing
  deriving DecidableEq, Repr

/-- Foreign causes (R111). -/
inductive ForeignCause where
  | unreadable | unsupported | incomplete
  deriving DecidableEq, Repr

/-- The profile record (R111): the figures quantization gives; K, capacity, U, sector bytes and total granules are
functions of it (Geometry.lean). -/
structure Profile where
  recording    : Recording
  sizeCode     : Nat
  spt          : Nat
  sides        : Nat
  interleave   : Nat
  skew         : Nat
  granule      : Nat
  indexSectors : Nat
  deriving DecidableEq, Repr

/-- What is kept of a label (R111): name, serial, prepared stamp. -/
structure LabelInfo where
  name   : List Byte
  serial : Nat
  day    : Nat
  minute : Nat
  deriving DecidableEq, Repr

/-- The label record as decoded (Table 1-5), every figure as recorded. -/
structure LabelRecord where
  info         : LabelInfo
  recording    : Nat
  sizeCode     : Nat
  spt          : Nat
  sides        : Nat
  interleave   : Nat
  skew         : Nat
  indexSectors : Nat
  granule      : Nat
  deriving DecidableEq, Repr

/-- Entry states (R129), in the order of their codes. -/
inductive EntryState where
  | free | live | retired | damaged
  deriving DecidableEq, Repr

/-- An extent: first granule and count (R15). -/
structure Extent where
  first : Nat
  count : Nat
  deriving DecidableEq, Repr

/-- An index entry (Table 7-1). `decoded` is false for a DAMAGED entry of an unreadable sector (R116). -/
structure Entry where
  state    : EntryState
  slug     : List Byte
  basket   : Nat
  priority : Nat
  length   : Nat
  extents  : List Extent
  day      : Nat
  minute   : Nat
  version  : Nat
  author   : Nat
  decoded  : Bool
  deriving DecidableEq, Repr

/-- Index sector states (Table 7-3). -/
inductive SectorState where
  | clean | dirty | queued | writing | writingDirty
  deriving DecidableEq, Repr

/-- What a write-back waiter waits with (R148, R139): a change, or an extending WRITE BLOCK with the outcome of its data
WRITE (absent while that WRITE is in the queue, else whether it recovered). -/
inductive WaiterKind where
  | change
  | extending (written : Option Bool)
  deriving DecidableEq, Repr

/-- A write-back waiter (R148) with what its reply needs: the handle and the CLAMPED note. -/
structure Waiter where
  sector  : Nat
  line    : Line
  buf     : BufId
  covered : Bool
  handle  : Nat
  clamped : Bool
  kind    : WaiterKind
  deriving DecidableEq, Repr

/-- The pending volume request (R111). -/
inductive PendingVolume where
  | eject (l : Line) (b : BufId)
  | prepare (l : Line) (b : BufId) (clamped : Bool)
  deriving DecidableEq, Repr

/-- One volume context. `areas` below: the label area and the index staging area, by sector. -/
structure Volume where
  state              : VolState
  profile            : Option Profile
  limited            : Bool
  interleaveIgnored  : Bool
  wpReason           : Bool
  inconsistent       : Bool
  indexFault         : Bool
  foreign            : Option ForeignCause
  label              : Option LabelInfo
  wpAtDecode         : Bool
  entries            : Vector Entry 256
  sectors            : List SectorState
  waiters            : List Waiter
  free               : List Nat
  heldGranule        : Option Nat
  dirtyRemoval       : Bool
  pendingReq         : Option PendingVolume
  newLabel           : Option LabelInfo
  tracksFormatted    : Nat
  labelArea          : List (Nat × List Byte)
  staging            : List (Nat × List Byte)
  deriving DecidableEq, Repr

/-! ### Claims and watches (Chapter 8) -/

/-- A claim record (R154). -/
structure Claim where
  drive   : DriveId
  serial  : Nat
  handle  : Nat
  holder  : Line
  arrival : Nat
  deriving DecidableEq, Repr

/-- Event kinds (Table 8-3), in the order of their bits. -/
inductive EventKind where
  | created | filed | movedIn | spiked | claimFreed
  deriving DecidableEq, Repr

/-- A watch's last event (R162). -/
structure LastEvent where
  kind   : EventKind
  drive  : DriveId
  handle : Nat
  deriving DecidableEq, Repr

/-- A watch's target (R162). -/
inductive WatchTarget where
  | baskets (set : BitVec 16)
  | story (handle : Nat)
  deriving DecidableEq, Repr

/-- The fields of an armed watch (R162); drive ANY is `none`. -/
structure WatchSpec where
  drive  : Option DriveId
  target : WatchTarget
  events : BitVec 5
  signal : Bool
  deriving DecidableEq, Repr

/-- A watch record (Table 8-4). -/
inductive Watch where
  | unused
  | armed (w : WatchSpec)
  | raised (w : WatchSpec) (last : LastEvent)
  deriving DecidableEq, Repr

/-- The claim and watch unit. `broken` is each line's claim-broken flag with its drive and handle (R162). -/
structure ClaimUnit where
  claims  : List Claim
  counter : Nat
  watches : Vector (Vector Watch 4) 8
  broken  : Vector (Option (DriveId × Nat)) 8
  deriving DecidableEq, Repr

/-! ### Configuration and the part (Chapters 7 and 10) -/

/-- The configuration record (Table 10-1). -/
structure ConfigRecord where
  drivesInUse : BitVec 4
  rates       : Vector Rate 8
  classes     : Vector LineClass 8
  silence     : Nat
  stepPeriod  : Nat
  settle      : Nat
  headLoad    : Nat
  unloadDelay : Nat
  innerStart  : Nat
  precomp     : Nat
  strobeMin   : Strobe
  strobeMax   : Strobe
  writeCheck  : Bool
  bypass      : Nat
  period      : Nat
  masks       : Vector (BitVec 16) 8
  deriving DecidableEq, Repr

/-- Table 10-2. -/
inductive PartState where
  | startUp | running | draining
  deriving DecidableEq, Repr

/-- The state of the part (R189-R191). -/
structure Part where
  state      : PartState
  extReset   : Bool
  selfTest   : Bool
  drainTimer : Bool
  drainOver  : Bool
  restarts   : List (Line × BufId)
  straps     : Straps
  deriving DecidableEq, Repr

/-- The clock (R131). -/
structure Clock where
  day    : Nat
  minute : Nat
  second : Nat
  deriving DecidableEq, Repr

end Sys2Proof.Machine
end

