-- ==== Sys2Proof/Machine/Bytes.lean ====
section
/-! DEFINITION. Bytes of records and frames (section 5 of 00_scope.md: most significant byte first) and the one-byte
codes of enumerations (R195, Table 11-3). -/
namespace Sys2Proof.Machine

/-- The low eight bits of a number as a byte. -/
def toByte (n : Nat) : Byte := BitVec.ofNat 8 n

/-- A two-byte quantity, high byte first. -/
def be2 (n : Nat) : List Byte := [toByte (n / 256), toByte n]

/-- A three-byte quantity, high byte first. -/
def be3 (n : Nat) : List Byte := [toByte (n / 65536), toByte (n / 256), toByte n]

/-- Byte `i` of a record as a number (0 beyond its end). -/
def byteAt (bs : List Byte) (i : Nat) : Nat := (bs.getD i 0).toNat

/-- The two-byte quantity at byte `i`. -/
def nat2 (bs : List Byte) (i : Nat) : Nat := byteAt bs i * 256 + byteAt bs (i + 1)

/-- The three-byte quantity at byte `i`. -/
def nat3 (bs : List Byte) (i : Nat) : Nat := byteAt bs i * 65536 + byteAt bs (i + 1) * 256 + byteAt bs (i + 2)

/-- A flag byte of a request: clear when 0, set otherwise (R195). -/
def flagAt (bs : List Byte) (i : Nat) : Bool := byteAt bs i != 0

/-- `n` bytes from byte `i`. -/
def slice (bs : List Byte) (i n : Nat) : List Byte := (bs.drop i).take n

/-- `bs` cut or filled with `fill` to exactly `n` bytes. -/
def padTo (n : Nat) (fill : Byte) (bs : List Byte) : List Byte := bs.take n ++ List.replicate (n - bs.length) fill

/-- An absent field of `n` bytes in a reply (R195). -/
def absentField (n : Nat) : List Byte := List.replicate n 0xFF#8

/-- A field of one byte that may be absent. -/
def optByte : Option Nat → List Byte
  | some n => [toByte n]
  | none => absentField 1

/-- A field of two bytes that may be absent. -/
def optBe2 : Option Nat → List Byte
  | some n => be2 n
  | none => absentField 2

/-- A flag as a byte 0 or 1. -/
def boolByte (b : Bool) : Byte := if b then 1#8 else 0#8

/-- Bits, bit 0 first, as a byte. -/
def bitsByte (bs : List Bool) : Byte := bs.foldr (fun b acc => acc + acc + boolByte b) 0#8

/-- A statistics count after one more event: it stops at 65 535 (section 5 of 00_scope.md, Statistics). -/
def bump (n : Nat) : Nat := min 65535 (n + 1)

/-- The next number of a counter that returns to 0 after 65 535 (R72, R154). -/
def nextNumber (n : Nat) : Nat := (n + 1) % 65536

/-! ### Codes -/

def Reason.code : Reason → Nat
  | .noVolume => 1 | .notReady => 2 | .readOnly => 3 | .writeProtected => 4 | .foreign => 5 | .unmounting => 6
  | .claimed => 7 | .notClaimed => 8 | .duplicate => 9 | .indexFull => 10 | .volumeFull => 11 | .extentsFull => 12
  | .outOfRange => 13 | .noStory => 14 | .wrongState => 15 | .tableFull => 16 | .watchFull => 17
  | .notPermitted => 18 | .badRequest => 19

def Cause.code : Cause → Nat
  | .readCheck => 1 | .notFound => 2 | .writeCheck => 3 | .seekFault => 4 | .driveFault => 5 | .removed => 6
  | .indexFault => 7 | .powerLow => 8 | .trimmed => 9

def BusyCause.code : BusyCause → Nat
  | .starting => 1 | .noBuffer => 2 | .queueFull => 3 | .sweepPending => 4

def LineFaultKind.code : LineFaultKind → Nat
  | .length => 1 | .framing => 2 | .timeout => 3 | .check => 4

def DriveCondition.code : DriveCondition → Nat
  | .offline => 0 | .empty => 1 | .speedCheck => 2 | .ready => 3 | .faulted => 4

def FaultCause.code : FaultCause → Nat
  | .noCause => 0 | .noIndex => 1 | .speed => 2 | .driveFault => 3 | .trackZero => 4

def PosState.code : PosState → Nat
  | .unknown => 0 | .recalibrating => 1 | .resting => 2 | .moving => 3 | .settling => 4 | .onTrack => 5

def VolState.code : VolState → Nat
  | .noVolume => 0 | .mounting => 1 | .mounted => 2 | .readOnly => 3 | .foreign => 4 | .draining => 5
  | .released => 6 | .preparing => 7

/-- Table 11-8. -/
def ForeignCause.code : ForeignCause → Nat
  | .unreadable => 1 | .unsupported => 2 | .incomplete => 3

/-- Recordings have codes of their own, 1 and 2 (R195). -/
def recordingCode : Recording → Nat
  | .fm => 1 | .mfm => 2

/-- The recording a code names, if any (R196, R197). -/
def recordingOf : Nat → Option Recording
  | 1 => some .fm
  | 2 => some .mfm
  | _ => none

def EntryState.code : EntryState → Nat
  | .free => 0 | .live => 1 | .retired => 2 | .damaged => 3

def PortState.code : PortState → Nat
  | .absent => 0 | .idle => 1 | .active => 2

def LineClass.code : LineClass → Nat
  | .reporter => 0 | .copy => 1 | .slot => 2 | .console => 3

/-- The class a code names, if any (R188). -/
def lineClassOf : Nat → Option LineClass
  | 0 => some .reporter
  | 1 => some .copy
  | 2 => some .slot
  | 3 => some .console
  | _ => none

def Stage.code : Stage → Nat
  | .inProgress => 0 | .complete => 1 | .sending => 2

def Strobe.code : Strobe → Nat
  | .early => 0 | .normal => 1 | .late => 2

/-- The strobe a code names, if any (R188). -/
def strobeOf : Nat → Option Strobe
  | 0 => some .early
  | 1 => some .normal
  | 2 => some .late
  | _ => none

def Zone.code : Zone → Nat
  | .outer => 0 | .inner => 1

def LadderStep.code : LadderStep → Nat
  | .initial => 0 | .one => 1 | .two => 2 | .three => 3

def RegionState.code : RegionState → Nat
  | .shut => 0 | .opened => 1 | .closing => 2

def EventKind.code : EventKind → Nat
  | .created => 0 | .filed => 1 | .movedIn => 2 | .spiked => 3 | .claimFreed => 4

/-- A rate in hundreds of baud (R196). -/
def rateHundreds : Rate → Nat
  | .b9600 => 96 | .b19200 => 192 | .b38400 => 384 | .b76800 => 768

end Sys2Proof.Machine
end

