-- ==== Sys2Proof/Machine/Geometry.lean ====
section
/-! DEFINITION. The arithmetic of Chapter 1: profiles (Table 1-1), the index figures (R14), the data area (R15), from
story block to sector (R16, R17) and to physical slot (R18), and the zone of a cylinder (R10). -/
namespace Sys2Proof.Machine

/-- The last cylinder (R1). -/
def lastCylinder : Nat := 76

/-- Sector bytes of a size code. -/
def sizeBytes (sizeCode : Nat) : Nat := 128 * 2 ^ sizeCode

/-- The largest spt of a recording and size code, absent where there is no profile (Table 1-1; DESIGN CHOICE, safe:
log 19). -/
def maxSpt : Recording → Nat → Option Nat
  | .fm, 0 => some 26
  | .fm, 1 => some 15
  | .fm, 2 => some 8
  | .mfm, 0 => Config.mfm128MaxSpt
  | .mfm, 1 => some 26
  | .mfm, 2 => some 15
  | .mfm, 3 => some 8
  | _, _ => none

/-- Sector bytes of a read profile. -/
def ReadProfile.bytes (p : ReadProfile) : Nat := sizeBytes p.sizeCode

/-- The label-track profile (R12). -/
def labelProfile : ReadProfile := { recording := .fm, sizeCode := 0, spt := 16 }

/-- What of a volume profile a read needs. -/
def Profile.read (p : Profile) : ReadProfile := { recording := p.recording, sizeCode := p.sizeCode, spt := p.spt }

/-- Sector bytes of a volume profile. -/
def Profile.bytes (p : Profile) : Nat := sizeBytes p.sizeCode

/-- K, index entries per sector (R14). -/
def Profile.perSector (p : Profile) : Nat := p.bytes / 32

/-- The index capacity (R14). -/
def Profile.capacity (p : Profile) : Nat := min 256 (p.indexSectors * p.perSector)

/-- U, the index sectors in use (R14). -/
def Profile.used (p : Profile) : Nat := p.capacity / p.perSector

/-- Total granules (R15). -/
def Profile.granules (p : Profile) : Nat := (75 * p.sides * p.spt) / p.granule

/-- The linear track number (R1). -/
def linearTrack (sides cylinder head : Nat) : Nat := cylinder * sides + head

/-- The physical slot of logical sector `k` on linear track `t` (R18). -/
def slotOf (spt interleave skew k t : Nat) : Nat := (k * interleave + t * skew) % spt

/-- The physical slot of a sector ID on a track of a volume (R18). -/
def Profile.slot (p : Profile) (cylinder head sectorId : Nat) : Nat :=
  slotOf p.spt p.interleave p.skew (sectorId - 1) (linearTrack p.sides cylinder head)

/-- The head and sector ID of index sector `j` on cylinder 1 (R14). -/
def Profile.indexPlace (p : Profile) (j : Nat) : Nat × Nat := (j / p.spt, j % p.spt + 1)

/-- The index sector that holds a handle (R14). -/
def Profile.sectorOf (p : Profile) (handle : Nat) : Nat := handle / p.perSector

/-- The sum of the counts of an extent list. -/
def extentTotal (es : List Extent) : Nat := (es.map Extent.count).sum

/-- The allocated blocks of an entry (R16). -/
def Profile.blocks (p : Profile) (e : Entry) : Nat := extentTotal e.extents * p.granule

/-- The capacity of an entry in bytes (R16). -/
def Profile.storyCapacity (p : Profile) (e : Entry) : Nat := p.blocks e * p.bytes

/-- R17 step 2: the granule that holds story granule `g`, the extents being walked with the sum of those passed. -/
def granuleWalk (sum g : Nat) : List Extent → Option Nat
  | [] => none
  | e :: rest => if g < sum + e.count then some (e.first + (g - sum)) else granuleWalk (sum + e.count) g rest

/-- A sector on the diskette. -/
structure Place where
  cylinder : Nat
  head     : Nat
  sectorId : Nat
  deriving DecidableEq, Repr

/-- R17 step 4: the place of a linear sector of the data area. -/
def Profile.place (p : Profile) (s : Nat) : Place :=
  { cylinder := 2 + s / (p.sides * p.spt),
    head := s % (p.sides * p.spt) / p.spt,
    sectorId := s % (p.sides * p.spt) % p.spt + 1 }

/-- R17: the place of block `b` of a story, if its extents hold it. -/
def Profile.locate (p : Profile) (es : List Extent) (b : Nat) : Option Place :=
  match granuleWalk 0 (b / p.granule) es with
  | some a => some (p.place (a * p.granule + b % p.granule))
  | none => none

/-- The linear sector of a place in the data area (the inverse of `Profile.place`). -/
def Profile.linear (p : Profile) (cylinder head sectorId : Nat) : Nat :=
  (cylinder - 2) * (p.sides * p.spt) + head * p.spt + (sectorId - 1)

/-- The granule a sector of the data area lies in (R15). -/
def Profile.granuleOf (p : Profile) (cylinder head sectorId : Nat) : Nat := p.linear cylinder head sectorId / p.granule

/-- The granules of an extent list in story order (R16). -/
def extentGranules (es : List Extent) : List Nat := es.flatMap fun e => (List.range e.count).map (e.first + ·)

/-- The zone of a cylinder (R10). -/
def zoneOf (innerStart cylinder : Nat) : Zone := if innerStart ≤ cylinder then .inner else .outer

/-- The data window after an accepted ID field, in bytes (R5). DATA_WINDOW_EXPIRED is its end. -/
def dataWindow : Recording → Nat
  | .fm => 30
  | .mfm => 43

end Sys2Proof.Machine
end

