-- ==== Sys2Proof/Machine/Layout.lean ====
section
/-! DEFINITION. The recorded records (R197, Tables 11-4 and 11-5) and quantization of a label (R115). -/
namespace Sys2Proof.Machine

/-! ### Index entries (Table 11-5) -/

/-- A FREE entry (R129). -/
def freeEntry : Entry :=
  { state := .free, slug := [], basket := 0, priority := 0, length := 0, extents := [], day := 0, minute := 0,
    version := 0, author := 0, decoded := true }

/-- A DAMAGED entry of an unreadable sector (R116). -/
def unreadableEntry : Entry := { freeEntry with state := .damaged, decoded := false }

/-- The 48-bit group of an entry as a number (Table 11-5, bytes 13-18). -/
def entryGroup (e : Entry) : Nat :=
  e.basket * 2 ^ 43 + e.priority * 2 ^ 41 + e.length * 2 ^ 20 + e.day * 2 ^ 11 + e.minute

/-- A number as `n` bytes, most significant first. -/
def beBytes : Nat → Nat → List Byte
  | 0, _ => []
  | n + 1, v => toByte (v / 256 ^ n) :: beBytes n v

/-- The number of a run of bytes, most significant first. -/
def beNat (bs : List Byte) : Nat := bs.foldl (fun acc b => acc * 256 + b.toNat) 0

/-- An extent place (Table 11-5). -/
def encodeExtent (x : Extent) : List Byte := be3 (x.first * 4096 + x.count)

/-- The 32 bytes of an entry (R197). -/
def encodeEntry (e : Entry) : List Byte :=
  match e.state with
  | .free => List.replicate 32 0#8
  | _ =>
    [toByte (e.state.code * 64 + e.extents.length * 8 + e.author)] ++ padTo 12 0#8 e.slug
      ++ beBytes 6 (entryGroup e) ++ [toByte e.version] ++ padTo 12 0#8 (e.extents.flatMap encodeExtent)

/-- Extent place `i` (R197). -/
def decodeExtent (bs : List Byte) (i : Nat) : Extent :=
  { first := nat3 bs (20 + 3 * i) / 4096, count := nat3 bs (20 + 3 * i) % 4096 }

/-- The state a state code and extent count give (R197; more than four extents is DAMAGED by R117 item 1). -/
def decodedState (code count : Nat) : EntryState :=
  if code = 3 ∨ count > 4 then .damaged else if code = 1 then .live else .retired

/-- The entry 32 bytes hold (R197). -/
def decodeEntry (bs : List Byte) : Entry :=
  let b0 := byteAt bs 0
  let code := b0 / 64
  let count := b0 / 8 % 8
  let g := beNat (slice bs 13 6)
  if code = 0 then freeEntry
  else
    { state := decodedState code count,
      slug := (slice bs 1 12).takeWhile (· != 0#8),
      basket := g / 2 ^ 43 % 16,
      priority := g / 2 ^ 41 % 4,
      length := g / 2 ^ 20 % 2 ^ 21,
      extents := (List.range (min count 4)).map (decodeExtent bs),
      day := g / 2 ^ 11 % 2 ^ 9,
      minute := g % 2 ^ 11,
      version := byteAt bs 19,
      author := b0 % 8,
      decoded := true }

/-! ### The label record (Table 11-4) -/

/-- Decoding, every figure as recorded (R13, R197). -/
def decodeLabel (bs : List Byte) : LabelRecord :=
  { info := { name := slice bs 0 8, serial := nat2 bs 8, day := nat2 bs 18, minute := nat2 bs 20 },
    recording := byteAt bs 10, sizeCode := byteAt bs 11, spt := byteAt bs 12, sides := byteAt bs 13,
    interleave := byteAt bs 14, skew := byteAt bs 15, indexSectors := byteAt bs 16, granule := byteAt bs 17 }

/-- The 128 bytes of a label record for a volume profile (R197). -/
def encodeLabel (i : LabelInfo) (p : Profile) : List Byte :=
  padTo 8 0x20#8 i.name ++ be2 i.serial
    ++ [toByte (recordingCode p.recording), toByte p.sizeCode, toByte p.spt, toByte p.sides, toByte p.interleave,
        toByte p.skew, toByte p.indexSectors, toByte p.granule]
    ++ be2 i.day ++ be2 i.minute ++ List.replicate 106 0#8

/-! ### Quantization (R115) -/

/-- What quantization gives: the profile record and the two notes. -/
structure Quantized where
  profile           : Profile
  limited           : Bool
  interleaveIgnored : Bool
  /-- Some figure was changed (R124 item 4: the note CLAMPED). -/
  changed           : Bool
  deriving DecidableEq, Repr

/-- R115 item 4: an interleave that is kept. -/
def interleaveKept (i spt : Nat) : Bool := i == 1 || (1 < i && i < spt && Nat.gcd i spt == 1)

/-- R115 steps 2 to 7 for a recording and size code whose largest spt is `mx`. -/
def clampFigures (rec : Recording) (mx : Nat) (r : LabelRecord) (twoSided : Bool) : Quantized :=
  let spt := min r.spt mx
  let sides := if r.sides = 2 ∧ twoSided = false then 1 else r.sides
  let keep := interleaveKept r.interleave spt
  let il := if keep then r.interleave else 1
  let skew := if r.skew < spt then r.skew else r.skew % spt
  let isec := max 1 (min r.indexSectors (sides * spt))
  let g := min r.granule 16
  { profile := { recording := rec, sizeCode := r.sizeCode, spt := spt, sides := sides, interleave := il, skew := skew,
                 indexSectors := isec, granule := g },
    limited := spt != r.spt || sides != r.sides || isec != r.indexSectors || g != r.granule,
    interleaveIgnored := !keep,
    changed := spt != r.spt || sides != r.sides || il != r.interleave || skew != r.skew || isec != r.indexSectors
      || g != r.granule }

/-- The recording and largest spt of a supported label (R13) whose combination is not refused (R115 item 1). -/
def supportedProfile (r : LabelRecord) : Option (Recording × Nat) :=
  match recordingOf r.recording with
  | none => none
  | some rec =>
    if r.sizeCode > 3 ∨ ¬ (r.sides = 1 ∨ r.sides = 2) ∨ r.spt = 0 ∨ r.granule = 0 then none
    else
      match maxSpt rec r.sizeCode with
      | some (mx + 1) => some (rec, mx + 1)
      | _ => none

/-- Quantization: absent when the label is unsupported (R13) or its combination refused (R115 item 1). -/
def quantize (r : LabelRecord) (twoSided : Bool) : Option Quantized :=
  match supportedProfile r with
  | some (rec, mx) => some (clampFigures rec mx r twoSided)
  | none => none

/-! ### Validation (R117) -/

/-- A slug of R129: 1 to 12 characters 0x21-0x7E. -/
def slugOk (slug : List Byte) : Bool :=
  !slug.isEmpty && slug.length ≤ 12 && slug.all fun b => 0x21 ≤ b.toNat && b.toNat ≤ 0x7E

/-- R117, first pass: whether a LIVE or RETIRED entry stands by itself. -/
def entrySound (p : Profile) (e : Entry) : Bool :=
  e.extents.length ≤ 4
    && e.extents.all (fun x => x.count != 0 && x.first + x.count ≤ p.granules)
    && e.length ≤ p.storyCapacity e
    && slugOk e.slug

/-- A LIVE or RETIRED entry (a story). -/
def Entry.isStory (e : Entry) : Bool := e.state == .live || e.state == .retired

/-- The first pass over one entry. -/
def firstPass (p : Profile) (e : Entry) : Entry :=
  if e.isStory && !entrySound p e then { e with state := .damaged } else e

/-- The granules of all stories of an index, each as often as it is covered (R117, second pass). -/
def coveredGranules (es : List Entry) : List Nat :=
  (es.filter Entry.isStory).flatMap fun e => extentGranules e.extents

/-- The second pass: a story with a granule covered twice is DAMAGED. -/
def secondPass (es : List Entry) : List Entry :=
  let all := coveredGranules es
  es.map fun e =>
    if e.isStory && (extentGranules e.extents).any (fun g => 2 ≤ all.count g) then { e with state := .damaged } else e

/-- Validation of an index (R117). -/
def validate (p : Profile) (es : List Entry) : List Entry := secondPass (es.map (firstPass p))

/-- The granules of a volume that are in no extent of a story (R118). -/
def freeGranules (p : Profile) (es : List Entry) : List Nat :=
  let used := coveredGranules es
  (List.range p.granules).filter fun g => !used.contains g

end Sys2Proof.Machine
end

