-- ==== Sys2Proof/Machine/Memory.lean ====
section
/-! DEFINITION. The buffer memory (R92): a list of cells in one canonical form, addresses strictly rising and no cell
equal to what an unlisted address reads as. -/
namespace Sys2Proof.Machine

/-- The buffer memory's cells. -/
abbrev Memory := List Host.Cell

/-- What an address that is not listed reads as (DESIGN CHOICE 0, unsafe: log 8). -/
def memDefault : Byte := 0#8

/-- The byte at an address. -/
def Memory.read (m : Memory) (a : Nat) : Byte :=
  match m with
  | [] => memDefault
  | (k, v) :: rest => if k = a then v else Memory.read rest a

/-- `m` with the byte `v` at address `a`, in canonical form again. -/
def Memory.write (m : Memory) (a : Nat) (v : Byte) : Memory :=
  match m with
  | [] => if v = memDefault then [] else [(a, v)]
  | (k, w) :: rest =>
    if a < k then (if v = memDefault then (k, w) :: rest else (a, v) :: (k, w) :: rest)
    else if a = k then (if v = memDefault then rest else (a, v) :: rest)
    else (k, w) :: Memory.write rest a v

/-- The bytes `bs` from address `a` up. -/
def Memory.writeRun (m : Memory) (a : Nat) (bs : List Byte) : Memory :=
  match bs with
  | [] => m
  | b :: rest => Memory.writeRun (m.write a b) (a + 1) rest

/-- The `n` bytes from address `a` up. -/
def Memory.readRun (m : Memory) (a : Nat) : Nat → List Byte
  | 0 => []
  | n + 1 => m.read a :: Memory.readRun m (a + 1) n

/-- Every listed address is at least `lo`, addresses rise strictly and no cell holds the default. -/
def Memory.wfFrom (m : Memory) (lo : Nat) : Bool :=
  match m with
  | [] => true
  | (k, v) :: rest => decide (lo ≤ k) && decide (v ≠ memDefault) && Memory.wfFrom rest (k + 1)

/-- The canonical form. -/
def Memory.wf (m : Memory) : Bool := m.wfFrom 0

/-- The bytes of one region (R92). -/
def regionBytes : Nat := 32768

/-- Where sector ID `k` of frame `i` of region `d` stands, with tracks of `spt` sectors of `sb` bytes (R92). Region `n`
begins at byte `n` * 32 768 of the buffer memory (DESIGN CHOICE, unsafe: log 61). -/
def frameAddr (d : DriveId) (i spt sb k : Nat) : Nat := d.val * regionBytes + i * (spt * sb) + (k - 1) * sb

end Sys2Proof.Machine
end

