-- ==== Sys2Proof/Machine/Fresh.lean ====
section
/-! DEFINITION. The state each block takes after power-on or external reset (R42, R70, R91, R110, R128, R131, R168,
R185, R187), from the levels its inputs read. -/
namespace Sys2Proof.Machine

/-- A level of the drive cable as it reads with nothing driving it (DESIGN CHOICE, unsafe: log 5). -/
def quietLevels : DriveLevels :=
  { ready := false, trackZero := false, writeProtect := false, twoSided := false, driveFault := false }

/-- The inputs of State.reset (DESIGN CHOICE, unsafe: log 5): every strap drive present, 9 600 baud, LOW-CURRENT active
low, nothing attached to any line or drive, the supply at or above the restore level. -/
def inputsAtReset : Inputs :=
  { straps := { drivesPresent := Vector.replicate 4 true, rate0 := .b9600, lowCurrentHigh := false },
    drives := Vector.replicate 4 quietLevels,
    linePresent := Vector.replicate 8 false,
    supply := .restored }

/-- The defaults of Table 10-1, with the line-0 rate strap (R187). -/
def defaultConfig (rate0 : Rate) : ConfigRecord :=
  { drivesInUse := 0xF#4,
    rates := (Vector.replicate 8 Rate.b9600).set 0 rate0,
    classes := (Vector.replicate 8 LineClass.reporter).set 0 LineClass.console,
    silence := 120, stepPeriod := 6000, settle := 15000, headLoad := 40000, unloadDelay := 4, innerStart := 44,
    precomp := 125, strobeMin := .early, strobeMax := .late, writeCheck := true, bypass := 4, period := 1,
    masks := Vector.replicate 8 0xFFFF#16 }

/-- R185, for a line whose LINE-PRESENT reads `present`, with the silence limit and rate standing. -/
def freshLine (present : Bool) (limitS : Nat) (rate : Rate) : LineUnit :=
  { present := present, rx := .hunt, bufs := Vector.replicate 2 none, order := [], pendingReply := none, tx := none,
    silence := if present then .running limitS else .stopped, rate := rate, framesTaken := 0, checkErrors := 0,
    abandoned := 0, resetDue := false }

/-- The index timing record cleared (R22). -/
def clearedTiming : IndexTiming := { pulseSeen := false, lastPeriod := none, run := 0, miss := 0 }

/-- The positioner after reset (R42, R27). -/
def freshPositioner : Positioner :=
  { state := .unknown, cylinder := none, headLoaded := false, target := none, remaining := 0, unload := 0,
    inward := false, stepTimer := none, settleTimer := none, loadTimer := none }

/-- Whether a drive is in use (R20). -/
def driveInUse (straps : Straps) (inUse : BitVec 4) (d : DriveId) : Bool :=
  straps.drivesPresent.get d && inUse.getLsbD d.val

/-- The condition a drive starts in (R42, R20), but for a DRIVE-FAULT already asserted (R25). -/
def startCondition (used ready : Bool) : DriveCondition :=
  if used then (if ready then .speedCheck else .empty) else .offline

/-- R42 and R91, for a drive in use or not. A drive entering SPEED-CHECK with DRIVE-FAULT asserted is FAULTED at once
(R25). -/
def freshDrive (used : Bool) (levels : DriveLevels) : DriveSeq :=
  let start := startCondition used levels.ready
  let faulted := start == .speedCheck && levels.driveFault
  { levels := levels,
    condition := if faulted then .faulted else start,
    cause := if faulted then .driveFault else .noCause,
    index := clearedTiming,
    noIndexTimer := start == .speedCheck && !faulted,
    pos := freshPositioner,
    reportDue := false, reportHeld := false, queue := [], patternStep := 0, selections := 0, bypasses := 0, opens := 0,
    refused := 0 }

/-- Order of the strobes, EARLY < NORMAL < LATE (R60). -/
def strobeLe (a b : Strobe) : Bool := a.code ≤ b.code

/-- A strobe clamped into the allowed range (R62 item 1). -/
def clampStrobe (lo hi s : Strobe) : Strobe := if strobeLe s lo then lo else if strobeLe hi s then hi else s

/-- A margin record after reset or at the start of a mount (R60, R70). -/
def freshMargin (c : ConfigRecord) : Margin :=
  { preferred := clampStrobe c.strobeMin c.strobeMax .normal, leanEarly := 0, leanNormal := 0, leanLate := 0 }

/-- A margin record adjusted to an allowed range (R62 items 1 to 3). -/
def Margin.adjust (m : Margin) (lo hi : Strobe) : Margin :=
  let p := clampStrobe lo hi m.preferred
  if p = m.preferred then
    { m with leanEarly := if strobeLe lo .early then m.leanEarly else 0,
             leanNormal := if strobeLe lo .normal && strobeLe .normal hi then m.leanNormal else 0,
             leanLate := if strobeLe .late hi then m.leanLate else 0 }
  else { preferred := p, leanEarly := 0, leanNormal := 0, leanLate := 0 }

/-- R70. With the supply below the restore level the state is INHIBIT, its long-inhibit timer started, its restore timer
stopped (R67). -/
def freshChannel (c : ConfigRecord) (supply : SupplyLevel) : Channel :=
  { state := .idle, granted := none, last := 3, asking := Vector.replicate 4 false, ops := Vector.replicate 4 none,
    gate := none, outer := Vector.replicate 4 (freshMargin c), inner := Vector.replicate 4 (freshMargin c),
    sweepFlag := Vector.replicate 4 false, supply := supply, inhibit := supply != .restored, longInhibit := false,
    restoreTimer := false, longTimer := supply != .restored, recovered := 0, failed := 0, rewrites := 0,
    checksFailed := 0, seekFaults := 0, inhibits := 0 }

/-- R110. The region-failed flag is clear until the self-test completes (DESIGN CHOICE, unsafe: log 28). -/
def freshRegion : Region :=
  { state := .shut, frames := [], failed := false, hits := 0, fills := 0, directs := 0, evicts := 0 }

/-- R128, R153. -/
def freshVolume : Volume :=
  { state := .noVolume, profile := none, limited := false, interleaveIgnored := false, wpReason := false,
    inconsistent := false, indexFault := false, foreign := none, label := none, wpAtDecode := false,
    entries := Vector.replicate 256 freeEntry, sectors := [], waiters := [], free := [], heldGranule := none,
    dirtyRemoval := false, pendingReq := none, newLabel := none, tracksFormatted := 0, labelArea := [], staging := [] }

/-- R168. -/
def freshClaimUnit : ClaimUnit :=
  { claims := [], counter := 0, watches := Vector.replicate 8 (Vector.replicate 4 Watch.unused),
    broken := Vector.replicate 8 none }

/-- The part at the start of START-UP (R189), the external reset input taken as released: at a power-on too (DESIGN CHOICE,
unsafe: log 59). -/
def freshPart (straps : Straps) : Part :=
  { state := .startUp, extReset := false, selfTest := true, drainTimer := false, drainOver := false, restarts := [],
    straps := straps }

/-- The clock unset (R131). -/
def unsetClock : Clock := { day := 0, minute := 0, second := 0 }

end Sys2Proof.Machine
end

