-- ==== Sys2Proof/Machine/State.lean ====
section
/-! DEFINITION. The state of the part, its two closed inductives of stops, and the state after reset. -/
namespace Sys2Proof.Machine

/-- The state of the part: every block's state (Types.lean), the buffer memory, the arrival number counter (R72) and the
queue of commands that wait. -/
structure State where
  lines   : Vector LineUnit 8
  drives  : Vector DriveSeq 4
  channel : Channel
  regions : Vector Region 4
  vols    : Vector Volume 4
  cw      : ClaimUnit
  cfg     : ConfigRecord
  part    : Part
  clock   : Clock
  mem     : Memory
  arrival : Nat
  pending : List Instr
  deriving DecidableEq, Repr

/-- Machine faults: none. No rule of the spec stops the part: a drive fault, a line fault or a failed operation is a
state or a reply. No meaning raises one, which is safe. -/
inductive Fault where
  deriving DecidableEq, Repr

/-- Refusals. -/
inductive Refusal where
  /-- Raised by an arm of exec whose command has no meaning yet (safe: nothing can be proved of it). -/
  | notModelled (mnemonic : String)
  deriving DecidableEq, Repr

/-- What a step answers. -/
abbrev Out := Host.Outcome State Fault Refusal

/-- The part right after power-on (R189) with chosen inputs (DESIGN CHOICE, unsafe: log 5): START-UP entered, straps
sampled, every block in its reset state, the region self-test running. -/
def State.reset : State :=
  { lines := (Vector.replicate 8 (freshLine false 120 .b9600)),
    drives := Vector.replicate 4 (freshDrive true quietLevels),
    channel := freshChannel (defaultConfig .b9600) .restored,
    regions := Vector.replicate 4 freshRegion,
    vols := Vector.replicate 4 freshVolume,
    cw := freshClaimUnit,
    cfg := defaultConfig .b9600,
    part := freshPart inputsAtReset.straps,
    clock := unsetClock,
    mem := [],
    arrival := 0,
    pending := [] }

end Sys2Proof.Machine
end

