-- ==== Sys2Proof/Machine/Access.lean ====
section
/-! DEFINITION. Reading and updating one block's state; every other operation goes through these. -/
namespace Sys2Proof.Machine

/-! ### Reading -/

def State.line (s : State) (l : Line) : LineUnit := s.lines.get l
def State.drive (s : State) (d : DriveId) : DriveSeq := s.drives.get d
def State.vol (s : State) (d : DriveId) : Volume := s.vols.get d
def State.region (s : State) (d : DriveId) : Region := s.regions.get d

/-- The held request buffer `b` of line `l`. -/
def State.buffer (s : State) (l : Line) (b : BufId) : Option Held := (s.line l).bufs.get b

/-- The body of the request in a buffer (empty when the buffer is FREE). -/
def State.bodyOf (s : State) (l : Line) (b : BufId) : List Byte :=
  match s.buffer l b with
  | some h => h.body
  | none => []

/-- The class of a line (R182). -/
def State.classOf (s : State) (l : Line) : LineClass := s.cfg.classes.get l

/-- The operation record kept or in service for a drive (R46). -/
def State.op (s : State) (d : DriveId) : Option OpRecord := s.channel.ops.get d

/-- The margin record of a drive and zone (R60). -/
def State.margin (s : State) (d : DriveId) : Zone → Margin
  | .outer => s.channel.outer.get d
  | .inner => s.channel.inner.get d

/-- The entry with a handle; handles that no record exists for read FREE (R129). -/
def Volume.entry (v : Volume) (handle : Nat) : Entry := v.entries.getD handle freeEntry

/-- The state of an index sector (section 7.8). -/
def Volume.sector (v : Volume) (j : Nat) : SectorState := v.sectors.getD j .clean

/-- The dirty set (section 7.8): the sectors not CLEAN, ascending. -/
def Volume.dirtySet (v : Volume) : List Nat := (List.range v.sectors.length).filter fun j => v.sector j != .clean

/-- Whether the read-only reasons are non-empty (R111). -/
def Volume.hasReason (v : Volume) : Bool := v.wpReason || v.inconsistent || v.indexFault

/-- The selected request of a drive (R74): the one that is not QUEUED. -/
def DriveSeq.selected (u : DriveSeq) : Option Request := u.queue.find? fun r => r.state != .queued

/-- Desk places held (R71). -/
def DriveSeq.deskPlaces (u : DriveSeq) : Nat := (u.queue.filter fun r => r.origin != .volume).length

/-- Volume places held (R71). -/
def DriveSeq.volumePlaces (u : DriveSeq) : Nat := (u.queue.filter fun r => r.origin == .volume).length

/-- All twelve desk places are held (R71). -/
def DriveSeq.deskFull (u : DriveSeq) : Bool := 12 ≤ u.deskPlaces

/-- A volume place is free (R71). -/
def DriveSeq.volumeFree (u : DriveSeq) : Bool := u.volumePlaces < 2

/-! ### Updating -/

def State.modLine (s : State) (l : Line) (f : LineUnit → LineUnit) : State :=
  { s with lines := s.lines.set l.val (f (s.line l)) l.isLt }

def State.modDrive (s : State) (d : DriveId) (f : DriveSeq → DriveSeq) : State :=
  { s with drives := s.drives.set d.val (f (s.drive d)) d.isLt }

def State.modVol (s : State) (d : DriveId) (f : Volume → Volume) : State :=
  { s with vols := s.vols.set d.val (f (s.vol d)) d.isLt }

def State.modRegion (s : State) (d : DriveId) (f : Region → Region) : State :=
  { s with regions := s.regions.set d.val (f (s.region d)) d.isLt }

def State.modChannel (s : State) (f : Channel → Channel) : State := { s with channel := f s.channel }

def State.modClaims (s : State) (f : ClaimUnit → ClaimUnit) : State := { s with cw := f s.cw }

def State.modPart (s : State) (f : Part → Part) : State := { s with part := f s.part }

/-- The positioner of a drive. -/
def State.modPos (s : State) (d : DriveId) (f : Positioner → Positioner) : State :=
  s.modDrive d fun u => { u with pos := f u.pos }

/-- The queue of a drive. -/
def State.modQueue (s : State) (d : DriveId) (f : List Request → List Request) : State :=
  s.modDrive d fun u => { u with queue := f u.queue }

/-- The selected request of a drive, in its place. -/
def State.modSelected (s : State) (d : DriveId) (f : Request → Request) : State :=
  s.modQueue d fun q => q.map fun r => if r.state != .queued then f r else r

/-- The selected request of a drive leaves the queue (R74). -/
def State.dropSelected (s : State) (d : DriveId) : State := s.modQueue d fun q => q.filter fun r => r.state == .queued

/-- The operation record of a drive. -/
def State.setOp (s : State) (d : DriveId) (o : Option OpRecord) : State :=
  s.modChannel fun c => { c with ops := c.ops.set d.val o d.isLt }

/-- Whether a drive asks the channel (R43). -/
def State.setAsking (s : State) (d : DriveId) (b : Bool) : State :=
  s.modChannel fun c => { c with asking := c.asking.set d.val b d.isLt }

/-- The sweep flag of a drive (R63). -/
def State.setSweepFlag (s : State) (d : DriveId) (b : Bool) : State :=
  s.modChannel fun c => { c with sweepFlag := c.sweepFlag.set d.val b d.isLt }

/-- A margin record (R60). -/
def State.setMargin (s : State) (d : DriveId) (z : Zone) (m : Margin) : State :=
  s.modChannel fun c =>
    match z with
    | .outer => { c with outer := c.outer.set d.val m d.isLt }
    | .inner => { c with inner := c.inner.set d.val m d.isLt }

/-- One entry of index memory. -/
def State.setEntry (s : State) (d : DriveId) (handle : Nat) (e : Entry) : State :=
  s.modVol d fun v => { v with entries := v.entries.setIfInBounds handle e }

/-- The state of one index sector. -/
def State.setSector (s : State) (d : DriveId) (j : Nat) (x : SectorState) : State :=
  s.modVol d fun v => { v with sectors := v.sectors.set j x }

/-- Every drive. -/
def allDrives : List DriveId := [0, 1, 2, 3]

/-- Every line. -/
def allLines : List Line := [0, 1, 2, 3, 4, 5, 6, 7]

/-- `f` for every drive in turn, drive 0 first. Where one step places requests in several queues, this order gives their
arrival numbers (R72 states none; DESIGN CHOICE, unsafe: log 52). -/
def State.eachDrive (s : State) (f : State → DriveId → State) : State := allDrives.foldl f s

/-- `f` for every line in turn. -/
def State.eachLine (s : State) (f : State → Line → State) : State := allLines.foldl f s

end Sys2Proof.Machine
end

