-- ==== Sys2Proof/Machine/Check.lean ====
section
/-! DEFINITION. The check register (R8, R9). -/
namespace Sys2Proof.Machine

/-- The generator's lower terms x^12 + x^5 + 1 (R8). -/
def generator : BitVec 16 := 0x1021#16

/-- One bit into the register: compared with the highest stage, a shift toward it, and the generator's terms combined
where the two bits differed (R8). -/
def checkBit (r : BitVec 16) (bit : Bool) : BitVec 16 :=
  if bit == r.msb then r <<< 1 else (r <<< 1) ^^^ generator

/-- The bits of a byte, most significant first (R2, R8). -/
def byteBits (b : Byte) : List Bool := [7, 6, 5, 4, 3, 2, 1, 0].map b.getLsbD

/-- One byte into the register (R8). -/
def checkByte (r : BitVec 16) (b : Byte) : BitVec 16 := (byteBits b).foldl checkBit r

/-- The register after a field's bytes, preset to all ones (R8). -/
def checkOf (bytes : List Byte) : BitVec 16 := bytes.foldl checkByte 0xFFFF#16

/-- The two check bytes, high byte first (R8). -/
def checkBytes (c : BitVec 16) : List Byte := [(c >>> 8).setWidth 8, c.setWidth 8]

/-- The check of a field is good when the register ends at zero over mark, contents and check bytes (R9). -/
def checkGood (bytes : List Byte) (check : BitVec 16) : Bool := checkOf (bytes ++ checkBytes check) == 0#16

/-- A mark is accepted only when it immediately follows a sync field, a run of at least four zero data bytes (R3); `n` of
them stand just before it. -/
def afterSync (n : Nat) : Bool := 4 ≤ n

/-- What the check of an ID field covers (R8): the byte of the ID mark, which its missing clocks tell (R3), and the
contents. -/
def idBytes (f : IdField) : List Byte := [Config.markByte .id, f.cylinder, f.head, f.sectorId, f.sizeCode]

/-- What the check of a data field covers (R8): the byte of its mark's kind (R3) and the data. -/
def dataBytes (f : DataField) : List Byte := Config.markByte f.mark.kind :: f.bytes

/-- The check of an ID field (R6, R9). -/
def idGood (f : IdField) : Bool := checkGood (idBytes f) f.check

/-- The check of a data field read with sectors of `n` bytes (R7, R9). A field cut short has its check taken as bad; a
field of another length than the profile's has not been read to its check bytes and fails too (DESIGN CHOICE, unsafe:
log 25). -/
def dataGood (n : Nat) (f : DataField) : Bool :=
  f.whole && f.bytes.length == n && checkGood (dataBytes f) f.check

end Sys2Proof.Machine
end

