-- ==== Sys2Proof/Machine/Track.lean ====
section
/-! DEFINITION. What the channel writes: the bit cells of FM and MFM (R2, R3), the fields (R7, R8), the formatted track
(R4, Tables 1-2 and 1-3) and where its fields stand (R64), the precompensation shifts (R10) and the transitions under an
open gate. -/
namespace Sys2Proof.Machine

/-! ### Bit cells (R2) and precompensation (R10) -/

/-- FM: a clock transition opens every cell, a data transition stands at its middle when the bit is 1. -/
def fmCells (bits : List Bool) : List Bool := bits.flatMap fun b => [true, b]

/-- MFM: clock cell and data cell of each bit, `before` being the bit before. -/
def mfmCells (before : Bool) : List Bool → List Bool
  | [] => []
  | b :: rest => (!b && !before) :: b :: mfmCells b rest

/-- The cells of a byte, most significant bit first, `before` being the bit before it (R2). -/
def byteCells (r : Recording) (before : Bool) (b : Byte) : List Bool :=
  match r with
  | .fm => fmCells (byteBits b)
  | .mfm => mfmCells before (byteBits b)

/-- The clock transitions that a missing-clock pattern leaves out are taken from a stream of cells, clock and data in turn
(R3). -/
def dropClocks : List Bool → List Bool → List Bool
  | kept :: pattern, clock :: data :: rest => (kept && clock) :: data :: dropClocks pattern rest
  | _, cells => cells

/-- The byte value of an item. -/
def TrackItem.value : TrackItem → Byte
  | .byte b => b
  | .mark k => Config.markByte k

/-- The cells of one item: a byte under the normal clock rule, a mark with its missing clocks (R2, R3). -/
def TrackItem.cells (r : Recording) (before : Bool) (x : TrackItem) : List Bool :=
  match x with
  | .byte b => byteCells r before b
  | .mark k => dropClocks (byteBits (Config.markClocks r k)) (byteCells r before (Config.markByte k))

/-- The cells of what is laid down, in order; each item follows the last bit of the one before it (R2). -/
def streamCells (r : Recording) (before : Bool) : List TrackItem → List Bool
  | [] => []
  | x :: rest => x.cells r before ++ streamCells r (x.value.getLsbD 0) rest

/-- The length of a cell in nanoseconds (R2): half the 4 µs bit cell of FM, the clock or data cell of 1 µs of MFM. -/
def cellNs : Recording → Nat
  | .fm => 2000
  | .mfm => 1000

/-- The cells that begin within a time, the first at its beginning (R2): one that the end of the time cuts off is the last. -/
def cellsBegun (r : Recording) (us : Nat) : Nat := (us * 1000 + (cellNs r - 1)) / cellNs r

/-- The whole bytes that pass in a time (R2): 16 cells each. -/
def bytesIn (r : Recording) (us : Nat) : Nat := us * 1000 / (16 * cellNs r)

/-- How a transition is moved (R10). -/
inductive Shift where
  | none | early | late
  deriving DecidableEq, Repr

/-- R10 items 1 to 4: the shift of a transition from its spacing, in cells, to the one before and the one after it;
absent where that neighbour lies outside the gate. -/
def shiftOf (before after : Option Nat) : Shift :=
  match before, after with
  | some p, some n =>
    if (p = 3 ∨ p = 4) ∧ n = 2 then .late else if p = 2 ∧ (n = 3 ∨ n = 4) then .early else .none
  | _, _ => .none

/-- The distances from each transition of a cell stream to the one before it; `gap` counts the cells since the last
transition, absent before the first. -/
def spacings (gap : Option Nat) : List Bool → List (Option Nat)
  | [] => []
  | true :: rest => gap.map (· + 1) :: spacings (some 0) rest
  | false :: rest => spacings (gap.map (· + 1)) rest

/-- The shifts of the transitions of a cell stream, in order (R10). -/
def streamShifts (cells : List Bool) : List Shift :=
  let sp := spacings none cells
  List.zipWith shiftOf sp (sp.drop 1 ++ [none])

/-- The places of the transitions of a cell stream, the first cell being number `start`. -/
def cellPlaces (start : Nat) : List Bool → List Nat
  | [] => []
  | true :: rest => start :: cellPlaces (start + 1) rest
  | false :: rest => cellPlaces (start + 1) rest

/-- A time moved by a shift of `amount` (R10). -/
def Shift.move (x : Shift) (amount ns : Nat) : Nat :=
  match x with
  | .none => ns
  | .early => ns - amount
  | .late => ns + amount

/-- The transitions of a cell stream in nanoseconds from its beginning, each shifted by R10. A transition is given at the
beginning of its cell (DESIGN CHOICE, safe: log 55). -/
def transitions (cellLength amount : Nat) (cells : List Bool) : List Nat :=
  List.zipWith (fun n x => Shift.move x amount (n * cellLength)) (cellPlaces 0 cells) (streamShifts cells)

/-- The precompensation amount that applies under a gate: none in FM, in the OUTER zone or with the amount at 0 (R10). -/
def precompAmount (r : Recording) (z : Zone) (amount : Nat) : Nat :=
  match r, z with
  | .mfm, .inner => amount
  | _, _ => 0

/-! ### Fields and tracks (R4, R7) -/

/-- Table 1-2, by recording: gap 0, sync before the index mark, gap 1, sync before an ID mark, gap 2, sync before a data
mark. -/
structure TrackGaps where
  gap0      : Nat
  indexSync : Nat
  gap1      : Nat
  idSync    : Nat
  gap2      : Nat
  dataSync  : Nat

def trackGaps : Recording → TrackGaps
  | .fm => { gap0 := 40, indexSync := 6, gap1 := 26, idSync := 6, gap2 := 11, dataSync := 6 }
  | .mfm => { gap0 := 80, indexSync := 12, gap1 := 50, idSync := 12, gap2 := 22, dataSync := 12 }

/-- Gap 3 (Table 1-3). -/
def gap3 : Recording → Nat → Nat
  | .fm, 0 => 20
  | .fm, 1 => 28
  | .fm, _ => 48
  | .mfm, 0 => Config.mfm128Gap3
  | .mfm, 1 => 50
  | .mfm, 2 => 64
  | .mfm, _ => 104

/-- `n` bytes of filler. -/
def filler (r : Recording) (n : Nat) : List TrackItem := List.replicate n (.byte (Config.fillerByte r))

/-- A sync field: a run of zero data bytes (R3, R4). -/
def syncField (n : Nat) : List TrackItem := List.replicate n (.byte 0#8)

/-- A mark, contents and the check bytes over both (R8). -/
def markedField (k : MarkKind) (contents : List Byte) : List TrackItem :=
  .mark k :: (contents ++ checkBytes (checkOf (Config.markByte k :: contents))).map .byte

/-- What a write of a data field lays down under its gate: sync, data mark, data, check bytes and one byte of filler
(R7). -/
def dataWrite (r : Recording) (data : List Byte) : List TrackItem :=
  syncField (trackGaps r).dataSync ++ markedField .data data ++ filler r 1

/-- One sector of a formatted track (R4 item 2). -/
def formatSector (p : ReadProfile) (cylinder head sectorId : Nat) : List TrackItem :=
  let g := trackGaps p.recording
  syncField g.idSync
    ++ markedField .id [toByte cylinder, toByte head, toByte sectorId, toByte p.sizeCode]
    ++ filler p.recording g.gap2 ++ syncField g.dataSync
    ++ markedField .data (List.replicate p.bytes 0xE5#8)
    ++ filler p.recording (gap3 p.recording p.sizeCode)

/-- The logical sector that stands at a physical slot (R18), if any. -/
def sectorAt (spt interleave skew t pos : Nat) : Option Nat :=
  (List.range spt).find? fun k => slotOf spt interleave skew k t == pos

/-- A formatted track but for the trailing filler, which runs to the next index pulse (R4). -/
def formatTrack (p : ReadProfile) (interleave skew t cylinder head : Nat) : List TrackItem :=
  let g := trackGaps p.recording
  filler p.recording g.gap0 ++ syncField g.indexSync ++ [.mark .index] ++ filler p.recording g.gap1
    ++ (List.range p.spt).flatMap fun pos =>
        match sectorAt p.spt interleave skew t pos with
        | some k => formatSector p cylinder head (k + 1)
        | none => []

/-! ### Under the gate (R4, R10) -/

/-- The whole bytes of trailing filler under a gate that is open for `us` microseconds (R4 item 3). -/
def Gate.trailingBytes (g : Gate) (us : Nat) : Nat :=
  if g.trailing then bytesIn g.recording us - g.items.length else 0

/-- What is laid down under a gate open for `us` microseconds: its items and, under a format, filler until the index
pulse, which cuts the last byte off (R4 item 3, R7). -/
def Gate.laid (g : Gate) (us : Nat) : List TrackItem :=
  if g.trailing then g.items ++ filler g.recording (g.trailingBytes us + 1) else g.items

/-- The cells written under a gate open for `us` microseconds (R2, R3): those that begin before it closes, the one that the
close cuts off among them, so that the filler of a format runs to the index pulse (R4 item 3). The gate closes at the end of
the items, at the index pulse, or at a removal, a fault or a reset before it (R35, R38, R189). -/
def Gate.cells (g : Gate) (us : Nat) : List Bool :=
  (streamCells g.recording Config.bitBeforeGate (g.laid us)).take (cellsBegun g.recording us)

/-- The transitions written under a gate open for `us` microseconds, in nanoseconds from its opening, precompensated
(R2, R10). The last one before the close has no neighbour after it within the gate, so it is not moved (R10 item 4). -/
def Gate.transitions (g : Gate) (us : Nat) : List Nat :=
  Machine.transitions (cellNs g.recording) g.precomp (g.cells us)

/-- How many bytes the field that begins with an item takes, its check bytes the last (R8): none where the item is no ID
mark and no data mark, `bytes` being those of a sector. -/
def TrackItem.fieldLength (bytes : Nat) : TrackItem → Nat
  | .mark .id => 7
  | .mark .data => bytes + 3
  | _ => 0

/-- Item `n` of a track belongs to a field, `left` bytes of the field before it being still to come. -/
def inField (bytes : Nat) : Nat → List TrackItem → Nat → Bool
  | _, [], _ => false
  | left, x :: _, 0 => 0 < max left (x.fieldLength bytes)
  | left, x :: rest, n + 1 => inField bytes (max left (x.fieldLength bytes) - 1) rest n

/-- A gate that has been open for `us` microseconds is writing an ID field or a data field of sectors of `bytes` bytes (R64
item 2). R4 item 2 gives a field from its mark to its last check byte; the gaps, the sync fields, the index mark and the
trailing filler are no field. -/
def Gate.fieldRuns (g : Gate) (bytes us : Nat) : Bool := inField bytes 0 g.items (bytesIn g.recording us)

end Sys2Proof.Machine
end

