-- ==== Sys2Proof/Machine/Flags.lean ====
section
/-! DEFINITION. The outputs and levels of the part that follow its state at once: port state (R170), attention (R167),
busy lamp (R34), and the drive lines of R11, R19 and R44. No second copy of them is kept. -/
namespace Sys2Proof.Machine

/-- The port state (R170). -/
def LineUnit.portState (u : LineUnit) : PortState :=
  if u.present then (if (u.bufs.get 0).isSome || (u.bufs.get 1).isSome then .active else .idle) else .absent

/-- A watch that asserts its line's attention (Table 8-4). -/
def Watch.signals : Watch → Bool
  | .raised w _ => w.signal
  | _ => false

/-- The attention output of a line (R167). -/
def State.attention (s : State) (l : Line) : Bool :=
  (s.cw.watches.get l).toList.any Watch.signals || (s.cw.broken.get l).isSome

/-- A WRITE, INDEX-WRITE or FORMAT-TRACK, of either origin (R34, R43). -/
def ReqKind.isWrite : ReqKind → Bool
  | .write .. | .prepWrite .. | .indexWrite .. | .formatTrack => true
  | _ => false

/-- A WRITE or INDEX-WRITE of one sector (R76, R122). -/
def ReqKind.isSectorWrite : ReqKind → Bool
  | .write .. | .prepWrite .. | .indexWrite .. => true
  | _ => false

/-- A desk WRITE (Table 4-1). -/
def Request.isDeskWrite (r : Request) : Bool :=
  match r.kind with
  | .write .. => true
  | _ => false

/-- The busy lamp of a drive (R34). -/
def State.busyLamp (s : State) (d : DriveId) : Bool :=
  (s.drive d).condition != .offline
    && ((s.vol d).state == .mounting || (s.vol d).state == .draining || (s.vol d).state == .preparing
        || (s.drive d).queue.any (fun r => r.kind.isWrite)
        || !(s.vol d).dirtySet.isEmpty)

/-- WRITE-GATE of a drive (R44): open only on the drive the channel is granted to. -/
def State.writeGate (s : State) (d : DriveId) : Bool := s.channel.granted == some d && s.channel.gate.isSome

/-- LOW-CURRENT of a drive (R11). -/
def State.lowCurrent (s : State) (d : DriveId) : Bool :=
  s.channel.granted == some d && (match s.channel.gate with | some g => g.zone == .inner | none => false)

/-- The level of the LOW-CURRENT pin (R11, R186): high when asserted and the strap says high, or when deasserted and the
strap says low. -/
def State.lowCurrentPin (s : State) (d : DriveId) : Bool := s.lowCurrent d == s.part.straps.lowCurrentHigh

/-- HEAD-SELECT of a drive (R44): asserted for head 1 of the request in service. -/
def State.headSelect (s : State) (d : DriveId) : Bool :=
  s.channel.granted == some d
    && (match (s.drive d).selected with | some r => r.head == 1 | none => false)

/-- WRITE-DATA of a drive (R19): the transitions written under the gate when it is open for `us` microseconds in all, in
nanoseconds from its opening (R2, R3, R4, R10). A gate that a removal, a fault or a reset closes early (R35, R38, R189)
is given the time at which it closed. -/
def State.writeData (s : State) (d : DriveId) (us : Nat) : List Nat :=
  if s.channel.granted = some d then (match s.channel.gate with | some g => g.transitions us | none => []) else []

/-- HEAD-LOAD of a drive (section 2.4). -/
def State.headLoadLine (s : State) (d : DriveId) : Bool := (s.drive d).pos.headLoaded

/-- TXD (R169): the characters of the reply frame on the line. -/
def State.txFrame (s : State) (l : Line) : List Byte := (s.line l).tx.getD []

/-- The ten bits of a character (R169): a start bit (low), eight data bits, the least significant first, a stop bit (high).
-/
def charBits (c : Byte) : List Bool := [false] ++ (List.range 8).map (fun i => c.getLsbD i) ++ [true]

/-- TXD (R169): the bits of the reply frame on the line, back to back, each as long as one bit time of its rate. -/
def State.txBits (s : State) (l : Line) : List Bool := (s.txFrame l).flatMap charBits

/-- What the receiver makes of the eight data bits and the stop bit it has sampled (R169): the character, and whether it
has a framing error. A break is the character 0x00 with a framing error. -/
def charOf (data : List Bool) (stop : Bool) : Byte × Bool :=
  (BitVec.ofNat 8 (data.foldr (fun b n => 2 * n + b.toNat) 0), !stop)

/-- The level of ATTENTION (Table 9-1): low while the attention output is asserted. -/
def State.attentionPin (s : State) (l : Line) : Bool := !s.attention l

end Sys2Proof.Machine
end

