-- ==== Sys2Proof/Machine/Operands.lean ====
section
/-! DEFINITION. The operand forms: request codes, body lengths (Table 11-2), permissions (Table 9-4), the fields of each
request body, and the frames (R171, R176, R196). -/
namespace Sys2Proof.Machine

/-! ### Request codes (Table 11-2) -/

def codeVolumeStatus : Byte := 0x30#8
def codeEject : Byte := 0x31#8
def codePrepareVolume : Byte := 0x32#8
def codeLookup : Byte := 0x40#8
def codeList : Byte := 0x41#8
def codeCreate : Byte := 0x42#8
def codeReadBlock : Byte := 0x43#8
def codeWriteBlock : Byte := 0x44#8
def codeFile : Byte := 0x45#8
def codeMove : Byte := 0x46#8
def codeSpike : Byte := 0x47#8
def codeRevive : Byte := 0x48#8
def codePurge : Byte := 0x49#8
def codeReadClock : Byte := 0x4A#8
def codeSetClock : Byte := 0x4B#8
def codeOpen : Byte := 0x50#8
def codeRelease : Byte := 0x51#8
def codeBreakClaim : Byte := 0x52#8
def codeWatchSet : Byte := 0x58#8
def codeWatchStatus : Byte := 0x59#8
def codeWatchClear : Byte := 0x5A#8
def codeLineStatus : Byte := 0x60#8
def codeConfigure : Byte := 0x70#8
def codeDriveStatus : Byte := 0x71#8
def codeStatistics : Byte := 0x72#8
def codeClearDrive : Byte := 0x73#8
def codeSweep : Byte := 0x74#8
def codeRawRead : Byte := 0x75#8
def codeRestart : Byte := 0x76#8

/-- The body length a code calls for, the body being read where its size is stated inside (R174 item 2, Table 11-2);
absent for a code that names no request. A name count above 8 agrees with no length (R196). -/
def bodyLength (code : Byte) (body : List Byte) : Option (Option Nat) :=
  if code = codePrepareVolume then some (if byteAt body 1 ≤ 8 then some (12 + byteAt body 1) else none)
  else if code = codeWriteBlock then some (some (6 + nat2 body 4))
  else if code ∈ [codeReadClock, codeWatchStatus, codeRestart] then some (some 0)
  else if code ∈ [codeVolumeStatus, codeLineStatus, codeDriveStatus, codeClearDrive, codeStatistics] then some (some 1)
  else if code ∈ [codeEject, codeSpike, codeRevive, codePurge, codeOpen, codeRelease, codeBreakClaim, codeWatchClear] then
    some (some 2)
  else if code ∈ [codeReadBlock, codeMove, codeSetClock] then some (some 4)
  else if code ∈ [codeList, codeFile, codeSweep] then some (some 6)
  else if code ∈ [codeWatchSet, codeRawRead] then some (some 7)
  else if code = codeLookup then some (some 13)
  else if code = codeCreate then some (some 15)
  else if code = codeConfigure then some (some 94)
  else none

/-- Whether a request is permitted to a line class (Table 9-4); STATISTICS by its clear flag. -/
def permitted (code : Byte) (body : List Byte) (c : LineClass) : Bool :=
  if code ∈ [codePrepareVolume, codeConfigure, codeClearDrive, codeSweep, codeRawRead, codeRestart] then c == .console
  else if code ∈ [codeEject, codePurge] then c != .reporter
  else if code ∈ [codeSetClock, codeBreakClaim] then c == .slot || c == .console
  else if code = codeStatistics then !flagAt body 0 || c == .console
  else true

/-! ### Fields of request bodies (Table 11-2) -/

/-- A drive number of a body, absent when above 3. -/
def driveOf (n : Nat) : Option DriveId := if h : n < 4 then some ⟨n, h⟩ else none

/-- A line number of a body, absent when above 7. -/
def lineOf (n : Nat) : Option Line := if h : n < 8 then some ⟨n, h⟩ else none

/-- A slug field (R196): the bytes before the first 0x00 (DESIGN CHOICE, unsafe: log 39). -/
def slugField (bs : List Byte) (i : Nat) : List Byte := (slice bs i 12).takeWhile (· != 0#8)

/-- A read profile of a SWEEP or RAW READ body: recording, size code, spt (R194). -/
structure BodyProfile where
  recording : Nat
  sizeCode  : Nat
  spt       : Nat

/-- R194 item 1: the read profile the fields give, absent when out of range. -/
def BodyProfile.decode (b : BodyProfile) : Option ReadProfile :=
  match recordingOf b.recording with
  | none => none
  | some rec =>
    match maxSpt rec b.sizeCode with
    | some mx =>
      if b.sizeCode ≤ 3 ∧ b.spt ≠ 0 ∧ b.spt ≤ mx then
        some { recording := rec, sizeCode := b.sizeCode, spt := b.spt }
      else none
    | none => none

/-- The label figures of a PREPARE VOLUME body (R124): the name is padded with 0x20 (R196). -/
def prepareFields (body : List Byte) : LabelRecord :=
  let n := byteAt body 1
  let i := 2 + n
  { info := { name := padTo 8 0x20#8 (slice body 2 n), serial := nat2 body i, day := 0, minute := 0 },
    recording := byteAt body (i + 2), sizeCode := byteAt body (i + 3), spt := byteAt body (i + 4),
    sides := byteAt body (i + 5), interleave := byteAt body (i + 6), skew := byteAt body (i + 7),
    indexSectors := byteAt body (i + 8), granule := byteAt body (i + 9) }

/-- A two-byte set of a body: bit 0 is the least significant bit of its last byte (R195). -/
def setField (bs : List Byte) (i : Nat) : BitVec 16 := BitVec.ofNat 16 (nat2 bs i)

/-! ### Frames (R171) -/

/-- The start code. -/
def startCode : Byte := 0xC3#8

/-- The sum of bytes modulo 256 (R171). -/
def byteSum (bs : List Byte) : Byte := bs.foldl (· + ·) 0#8

/-- The check byte that makes the sum of `bs` and itself a multiple of 256 (R171). -/
def checkByteOf (bs : List Byte) : Byte := 0#8 - byteSum bs

/-- A frame of a tag, a code and a body (Table 11-1). -/
def frameOf (tag code : Byte) (body : List Byte) : List Byte :=
  let inner := be2 (body.length + 2) ++ [tag, code] ++ body
  startCode :: (inner ++ [checkByteOf inner])

/-- The length field of a frame being received; the bytes are those after the start code. -/
def frameLength (bs : List Byte) : Nat := nat2 bs 0

/-- The length is in 2..1 100 (R171, R172 item 1). -/
def lengthOk (n : Nat) : Bool := 2 ≤ n && n ≤ 1100

/-- The check of a received frame is good (R173 item 1). -/
def frameGood (bs : List Byte) : Bool := byteSum bs == 0#8

def frameTag (bs : List Byte) : Byte := bs.getD 2 0
def frameCode (bs : List Byte) : Byte := bs.getD 3 0

/-- The body of a received frame. -/
def frameBody (bs : List Byte) : List Byte := slice bs 4 (frameLength bs - 2)

/-! ### Replies (R176, R196) -/

def Reply.code : Reply → Byte
  | .done .. => 0x80#8
  | .refused .. => 0x81#8
  | .failed _ => 0x82#8
  | .busy _ => 0x83#8
  | .lineFault _ => 0x84#8

/-- The reply body, header included (R196). -/
def Reply.body (requestCode : Byte) : Reply → List Byte
  | .done clamped recovered result => [requestCode, bitsByte [clamped, recovered]] ++ result
  | .refused r holder => [requestCode, toByte r.code] ++ optByte (holder.map Fin.val)
  | .failed c => [requestCode, toByte c.code]
  | .busy c => [requestCode, toByte c.code]
  | .lineFault k => [requestCode, toByte k.code]

/-- The reply frame of a request (R176). -/
def replyFrame (tag requestCode : Byte) (r : Reply) : List Byte := frameOf tag r.code (r.body requestCode)

/-- DONE with no notes. -/
def Reply.ok (result : List Byte) : Reply := .done false false result

/-- REFUSED with a reason that names no holder. -/
def Reply.refuse (r : Reason) : Reply := .refused r none

end Sys2Proof.Machine
end

