-- ==== Sys2Proof/Machine/LineOps.lean ====
section
/-! DEFINITION. The line unit: receiving and judging a frame (R172-R174), completing a request (R176), the reply order
and its sending (R177), line loss (R180). Each operation is on one line unit alone. -/
namespace Sys2Proof.Machine

/-- What of the part a line unit looks at: whether it is RUNNING (R173 item 2), the line's class (R174 item 3) and the
rate the configuration record gives it (R182). -/
structure LineCtx where
  running : Bool
  cls     : LineClass
  rate    : Rate

/-- The context of a line. -/
def State.lineCtx (s : State) (l : Line) : LineCtx := 
  { running := s.part.state == .running, cls := s.classOf l, rate := s.cfg.rates.get l }

def LineUnit.setBuf (u : LineUnit) (b : BufId) (h : Option Held) : LineUnit :=
  { u with bufs := u.bufs.set b.val h b.isLt }

/-- The idle transmitter takes the oldest reply and begins sending it (R177). -/
def LineUnit.pump (u : LineUnit) : LineUnit :=
  match u.tx, u.order with
  | none, .buf b :: _ =>
    match u.bufs.get b with
    | some h =>
      match h.reply with
      | some r => { u.setBuf b (some { h with stage := .sending }) with tx := some (replyFrame h.tag h.code r) }
      | none => u
    | none => u
  | none, .pendingPlace :: _ =>
    match u.pendingReply with
    | some p => { u with tx := some (replyFrame p.tag p.code p.reply) }
    | none => u
  | _, _ => u

/-- A reply without a buffer enters the pending place and the reply order; the receive area returns to HUNT (R173,
R177). -/
def LineUnit.placePending (u : LineUnit) (p : PendingReply) : LineUnit :=
  { u with pendingReply := some p, order := u.order ++ [ReplySlot.pendingPlace], rx := .hunt }.pump

/-- A request's reply enters the reply order (R176). -/
def LineUnit.finish (u : LineUnit) (b : BufId) (h : Held) (r : Reply) : LineUnit :=
  { u.setBuf b (some { h with stage := .complete, reply := some r }) with order := u.order ++ [ReplySlot.buf b] }.pump

/-- The FREE buffer of lower number, if any (R173 item 4). -/
def LineUnit.freeBuf (u : LineUnit) : Option BufId :=
  if (u.bufs.get 0).isNone then some 0 else if (u.bufs.get 1).isNone then some 1 else none

/-- What the line unit answers a request by itself (R174 items 1 to 3); absent when the request is handed to its owner
(item 4). -/
def examine (cls : LineClass) (code : Byte) (body : List Byte) : Option Reply :=
  match bodyLength code body with
  | none => some (.refuse .badRequest)
  | some want =>
    if want ≠ some body.length then some (.refuse .badRequest)
    else if permitted code body cls then none
    else some (.refuse .notPermitted)

/-- A frame is taken into a buffer and examined, by the class standing then (R173 item 4, R174). -/
def LineUnit.takeFrame (u : LineUnit) (ctx : LineCtx) (b : BufId) (bs : List Byte) : LineUnit :=
  let h : Held := { tag := frameTag bs, code := frameCode bs, body := frameBody bs, stage := .inProgress,
                    taken := false, orphan := false, reply := none, cls := ctx.cls }
  let u1 := { u.setBuf b (some h) with rx := .hunt }
  match examine ctx.cls h.code h.body with
  | some r => u1.finish b h r
  | none => u1

/-- The counts of the first judging (R173 items 1 and 2, R184). -/
def LineUnit.countFrame (u : LineUnit) (good : Bool) : LineUnit :=
  if good then { u with framesTaken := bump u.framesTaken } else { u with checkErrors := bump u.checkErrors }

/-- A frame that needs the pending place: into it, or the frame stays HELD, judged (R173). -/
def LineUnit.pendOrHold (u : LineUnit) (bs : List Byte) (r : Reply) : LineUnit :=
  match u.pendingReply with
  | none => u.placePending { tag := frameTag bs, code := frameCode bs, reply := r }
  | some _ => { u with rx := .held bs true }

/-- The steps of R173 without the counts. -/
def LineUnit.judgeSteps (u : LineUnit) (ctx : LineCtx) (bs : List Byte) : LineUnit :=
  if frameGood bs = false then u.pendOrHold bs (.lineFault .check)
  else if ctx.running = false then u.pendOrHold bs (.busy .starting)
  else
    match u.freeBuf with
    | none => u.pendOrHold bs (.busy .noBuffer)
    | some b => u.takeFrame ctx b bs

/-- A frame waiting in the receive area is judged again (R173). -/
def LineUnit.rejudge (u : LineUnit) (ctx : LineCtx) : LineUnit :=
  match u.rx with
  | .held bs true => u.judgeSteps ctx bs
  | _ => u

/-- FRAME_COMPLETE at the line unit: the silence timer restarts (R179) and the frame has its first judging (R173). -/
def LineUnit.frameDone (u : LineUnit) (ctx : LineCtx) (limitS : Nat) : LineUnit :=
  match u.rx with
  | .held bs false => ({ u with silence := .running limitS }.countFrame (frameGood bs)).judgeSteps ctx bs
  | _ => u

/-- A request completes (R176): its reply joins the reply order, or is discarded and its buffer freed when the buffer
carries the orphan mark (R175, R180). A request completes once, while IN-PROGRESS. -/
def LineUnit.complete (u : LineUnit) (ctx : LineCtx) (b : BufId) (r : Reply) : LineUnit :=
  match u.bufs.get b with
  | some h =>
    if h.stage ≠ .inProgress then u
    else if h.orphan then (u.setBuf b none).rejudge ctx
    else u.finish b h r
  | none => u

/-- A frame is abandoned (R172): counted, and a LINE-FAULT with tag 0 offered to the pending place. -/
def LineUnit.abandon (u : LineUnit) (k : LineFaultKind) : LineUnit :=
  let u1 := { u with rx := .hunt, abandoned := bump u.abandoned }
  match u1.pendingReply with
  | none => u1.placePending { tag := 0#8, code := 0#8, reply := .lineFault k }
  | some _ => u1

/-- A character stored in a frame being received (R172). -/
def LineUnit.store (u : LineUnit) (bs : List Byte) : LineUnit :=
  if bs.length = 2 ∧ lengthOk (frameLength bs) = false then u.abandon .length
  else if 2 ≤ bs.length ∧ bs.length = frameLength bs + 3 then { u with rx := .held bs false }
  else { u with rx := .receiving bs }

/-- A character at the receiver (R170, R172). It is discarded in ABSENT, while a frame is HELD, and after the end of a
RESTART drain (R185). -/
def LineUnit.receive (u : LineUnit) (c : Byte) (framingError : Bool) : LineUnit :=
  if u.present = false ∨ u.resetDue = true then u
  else
    match u.rx with
    | .hunt => if framingError = false ∧ c = startCode then { u with rx := .receiving [] } else u
    | .receiving bs => if framingError then u.abandon .framing else u.store (bs ++ [c])
    | .held _ _ => u

/-- The buffer or the pending place of a reply that has left the reply order is freed (R177). -/
def LineUnit.freeSlot (u : LineUnit) : ReplySlot → LineUnit
  | .buf b => u.setBuf b none
  | .pendingPlace => { u with pendingReply := none }

/-- A rate takes effect while no reply frame is on the line and the receive area is in HUNT (R182 item 1). -/
def LineUnit.takeRate (u : LineUnit) (rate : Rate) : LineUnit :=
  if u.tx = none ∧ u.rx = .hunt then { u with rate := rate } else u

/-- A reply that waits to be sent is the DONE reply of a CONFIGURE that changed the rate of this line, which goes out at
the old rate (R182 item 1). -/
def LineUnit.owesOldRate (u : LineUnit) : Bool :=
  u.order.any fun x =>
    match x with
    | .buf b =>
      match u.bufs.get b with
      | some h => h.oldRate
      | none => false
    | .pendingPlace => false

/-- The last byte of the reply on the line has been sent (R177): its place is freed and a waiting frame judged again; a
changed rate takes effect before the next reply begins (R182 item 1; DEDUCED, unsafe: log 54). -/
def LineUnit.sent (u : LineUnit) (ctx : LineCtx) : LineUnit :=
  match u.tx, u.order with
  | some _, slot :: rest =>
    let u1 := { ({ u with order := rest }.freeSlot slot).rejudge ctx with tx := none }
    (if u1.owesOldRate then u1 else u1.takeRate ctx.rate).pump
  | _, _ => u

/-- What line loss makes of a buffer (R180 items 2 and 4). -/
def lostBuffer : Option Held → Option Held
  | some h => if h.stage = .inProgress then some { h with orphan := true } else none
  | none => none

/-- Line-present falls, at the line unit (R180). -/
def LineUnit.lose (u : LineUnit) : LineUnit :=
  { u with present := false, rx := .hunt, bufs := Vector.ofFn fun b => lostBuffer (u.bufs.get b), order := [], pendingReply := none, tx := none,
           silence := .stopped }

/-- The reset state after RESTART (R185): the rate, class, silence limit kept are the configuration record's, the counts
are kept. -/
def LineUnit.restartReset (u : LineUnit) (limitS : Nat) (rate : Rate) : LineUnit :=
  { freshLine u.present limitS rate with
    framesTaken := u.framesTaken, checkErrors := u.checkErrors, abandoned := u.abandoned }

/-! ### On the whole state -/

/-- The owner hands the line unit the reply of a request (R176). -/
def State.answer (s : State) (l : Line) (b : BufId) (r : Reply) : State :=
  s.modLine l fun u => u.complete (s.lineCtx l) b r

/-- A line unit that has emptied its reply order after a RESTART drain takes its reset state (R185), and so discards a frame
that is complete but not yet judged (DESIGN CHOICE, unsafe: log 30). -/
def State.lineReset (s : State) (l : Line) : State :=
  if (s.line l).resetDue ∧ (s.line l).order = [] then
    s.modLine l fun u => u.restartReset s.cfg.silence (s.cfg.rates.get l)
  else s

/-- The request in buffer `b` of line `l`, when it has the code given, has been handed to its owner and the owner has
not yet begun on it (DESIGN CHOICE, safe: log 9). -/
def State.handed (s : State) (l : Line) (b : BufId) (code : Byte) : Option Held :=
  match s.buffer l b with
  | some h =>
    if h.stage = .inProgress ∧ h.taken = false ∧ h.code = code ∧ s.part.extReset = false then some h else none
  | none => none

/-- The owner takes the request in a buffer (DESIGN CHOICE, safe: log 9). -/
def State.markTaken (s : State) (l : Line) (b : BufId) : State :=
  s.modLine l fun u =>
    match u.bufs.get b with
    | some h => u.setBuf b (some { h with taken := true })
    | none => u

/-- The CONFIGURE in a buffer has changed the rate of its own line, or has not (R182 item 1). -/
def State.keepRate (s : State) (l : Line) (b : BufId) (changed : Bool) : State :=
  s.modLine l fun u =>
    match u.bufs.get b with
    | some h => u.setBuf b (some { h with oldRate := changed })
    | none => u

/-- A request command: the owner takes the request with code `code` in the buffer, if one waits there, and acts on it by
`f`; nothing happens otherwise (DESIGN CHOICE, safe: log 1). -/
def State.onRequest (s : State) (l : Line) (b : BufId) (code : Byte) (f : Held → State → State) : State :=
  match s.handed l b code with
  | some h => f h (s.markTaken l b)
  | none => s

end Sys2Proof.Machine
end

