-- ==== Sys2Proof/Machine/Ops.lean ====
section
/-! DEFINITION. Shared operations: the claim table and watches (Chapter 8), placing a request in a drive queue (R71), the
volume gate (R41, R112) and the entry summary (R198). -/
namespace Sys2Proof.Machine

/-! ### The claim table (R154) -/

/-- The claim record on a story, if any. -/
def ClaimUnit.find (c : ClaimUnit) (d : DriveId) (h : Nat) : Option Claim :=
  c.claims.find? fun r => r.drive == d && r.handle == h

/-- The holder of the claim on a story, if any. -/
def ClaimUnit.holder (c : ClaimUnit) (d : DriveId) (h : Nat) : Option Line := (c.find d h).map Claim.holder

/-- The claims of a line, oldest first. -/
def ClaimUnit.ofLine (c : ClaimUnit) (l : Line) : List Claim := c.claims.filter fun r => r.holder == l

/-- A line has room for one more claim (R154, R156). -/
def ClaimUnit.hasRoom (c : ClaimUnit) (l : Line) : Bool := (c.ofLine l).length < 6 && c.claims.length < 32

/-- A claim is granted: a record at the end of the list with the next arrival number (R154, R155). -/
def ClaimUnit.grant (c : ClaimUnit) (d : DriveId) (serial h : Nat) (l : Line) : ClaimUnit :=
  { c with claims := c.claims ++ [{ drive := d, serial := serial, handle := h, holder := l, arrival := c.counter }],
           counter := nextNumber c.counter }

/-- The record on a story is removed; those behind it move up (R154). -/
def ClaimUnit.remove (c : ClaimUnit) (d : DriveId) (h : Nat) : ClaimUnit :=
  { c with claims := c.claims.filter fun r => !(r.drive == d && r.handle == h) }

/-! ### Events and watches (R161, R164) -/

/-- An event (R161). -/
structure Event where
  kind   : EventKind
  drive  : DriveId
  handle : Nat
  basket : Nat
  cause  : Line

/-- A watch in use matches an event (R164 items 2 to 4). -/
def WatchSpec.hits (w : WatchSpec) (e : Event) : Bool :=
  (match w.drive with
    | none => true
    | some d => d == e.drive)
  && (match w.target with
    | .baskets set => set.getLsbD e.basket
    | .story h => h == e.handle)
  && w.events.getLsbD e.kind.code

/-- The last event a match leaves (R164). -/
def Event.last (e : Event) : LastEvent := { kind := e.kind, drive := e.drive, handle := e.handle }

/-- A watch meets an event (R164). -/
def Watch.meet (e : Event) : Watch → Watch
  | .unused => .unused
  | .armed w => if w.hits e then .raised w e.last else .armed w
  | .raised w last => if w.hits e then .raised w e.last else .raised w last

/-- An event is raised: it meets every watch of every line but the causing line (R161, R164). -/
def ClaimUnit.raise (c : ClaimUnit) (e : Event) : ClaimUnit :=
  { c with watches := Vector.ofFn fun l =>
      if l = e.cause then c.watches.get l else Vector.ofFn fun n => ((c.watches.get l).get n).meet e }

/-- An event of the story with handle `h`. -/
def State.raiseEvent (s : State) (k : EventKind) (d : DriveId) (h basket : Nat) (cause : Line) : State :=
  s.modClaims fun c => c.raise { kind := k, drive := d, handle := h, basket := basket, cause := cause }

/-- A claim is released: its record goes and CLAIM-FREED is raised with the entry's basket (R157, R161). -/
def State.freeClaim (s : State) (d : DriveId) (h : Nat) (cause : Line) : State :=
  (s.modClaims fun c => c.remove d h).raiseEvent .claimFreed d h ((s.vol d).entry h).basket cause

/-- A claim of `former` is broken (R158 item 3). -/
def State.dropBroken (s : State) (d : DriveId) (h : Nat) (former cause : Line) : State :=
  (s.modClaims fun c => { c with broken := c.broken.set former.val (some (d, h)) former.isLt }).freeClaim d h cause

/-- Every claim of a line is released, oldest first (R159). -/
def State.dropClaims (s : State) (l : Line) : State :=
  (s.cw.ofLine l).foldl (fun s r => s.freeClaim r.drive r.handle l) s

/-- Line-present falls, at the Claim and Watch Unit (R159 item 1). -/
def State.deskLost (s : State) (l : Line) : State :=
  (s.dropClaims l).modClaims fun c =>
    { c with watches := c.watches.set l.val (Vector.replicate 4 .unused) l.isLt,
             broken := c.broken.set l.val none l.isLt }

/-- A watch in STORY mode naming the drive becomes UNUSED; any other keeps its state (R160). -/
def Watch.afterGone (d : DriveId) (w : Watch) : Watch :=
  let gone (x : WatchSpec) : Bool :=
    x.drive == some d && (match x.target with | .story _ => true | .baskets _ => false)
  match w with
  | .unused => .unused
  | .armed x => if gone x then .unused else .armed x
  | .raised x last => if gone x then .unused else .raised x last

/-- The volume of a drive is gone, at the Claim and Watch Unit (R160). -/
def ClaimUnit.volumeGone (c : ClaimUnit) (d : DriveId) : ClaimUnit :=
  { c with claims := c.claims.filter fun r => !(r.drive == d),
           watches := Vector.ofFn fun l => Vector.ofFn fun n => ((c.watches.get l).get n).afterGone d }

/-- The claims on a volume that lines other than `l` hold, oldest first (R121, R160). -/
def ClaimUnit.others (c : ClaimUnit) (d : DriveId) (l : Line) : List Claim :=
  c.claims.filter fun r => r.drive == d && r.holder != l

/-- The claims of other lines on a volume are broken, oldest first (R160, R121 item 4). -/
def State.breakOthers (s : State) (d : DriveId) (l : Line) : State :=
  (s.cw.others d l).foldl (fun s r => s.dropBroken d r.handle r.holder l) s

/-! ### Placement (R71, R72) -/

/-- A request record as it is placed; the arrival number is given at placement. -/
def Request.fresh (o : Origin) (k : ReqKind) (cylinder head : Nat) (sectorId slot : Option Nat) (p : ReadProfile) :
    Request :=
  { origin := o, kind := k, cylinder := cylinder, head := head, sectorId := sectorId, slot := slot, profile := p,
    arrival := 0, lines := [], wanted := [], passed := 0, state := .queued, granted := false }

/-- A request takes its place at the end of the list with the next arrival number (R71 item 1, R72). -/
def State.place (s : State) (d : DriveId) (r : Request) : State :=
  ({ s with arrival := nextNumber s.arrival } : State).modQueue d fun q => q ++ [{ r with arrival := s.arrival }]

/-- A desk place is refused: counted (R71 item 2, R90) and answered BUSY QUEUE-FULL. -/
def State.refusePlace (s : State) (d : DriveId) (l : Line) (b : BufId) : State :=
  (s.modDrive d fun u => { u with refused := bump u.refused }).answer l b (.busy .queueFull)

/-- A volume request is offered only while a volume place is free (R71 item 3). -/
def State.placeVolume (s : State) (d : DriveId) (r : Request) : State :=
  if (s.drive d).volumeFree then s.place d r else s

/-! ### The gates (R41, R112) -/

/-- The request groups of the volume gate (R112). -/
inductive Group where
  | reads | changes | eject | prepare
  deriving DecidableEq, Repr

/-- The drive conditions that refuse new work (R41). -/
def DriveCondition.refusesWork : DriveCondition → Bool
  | .offline | .speedCheck | .faulted => true
  | .empty | .ready => false

/-- The reason a change is refused on a READ-ONLY volume (R119). -/
def Volume.readOnlyReason (v : Volume) : Reason :=
  if v.wpReason && !v.inconsistent && !v.indexFault then .writeProtected else .readOnly

/-- Table 6-3: the reason of the refusal, absent where the request is taken. -/
def volumeGate (v : Volume) (c : DriveCondition) (g : Group) : Option Reason :=
  match v.state, g with
  | .noVolume, .prepare =>
    match c with
    | .empty => some .noVolume
    | .ready => none
    | _ => some .notReady
  | .noVolume, _ => if c = .empty then some .noVolume else some .notReady
  | .mounting, .prepare => some .wrongState
  | .mounting, _ => some .notReady
  | .mounted, _ => none
  | .readOnly, .changes => some v.readOnlyReason
  | .readOnly, .prepare => some .wrongState
  | .readOnly, _ => none
  | .foreign, .reads => some .foreign
  | .foreign, .changes => some .foreign
  | .foreign, _ => none
  | .draining, .prepare => some .wrongState
  | .draining, _ => some .unmounting
  | .released, .prepare => none
  | .released, _ => some .noVolume
  | .preparing, .prepare => some .wrongState
  | .preparing, _ => some .notReady

/-- R112 and, for a request that places work, R41, for a drive of the part. -/
def State.gateReason (s : State) (d : DriveId) (g : Group) (work : Bool) : Option Reason :=
  if work && (s.drive d).condition.refusesWork then some .notReady
  else volumeGate (s.vol d) (s.drive d).condition g

/-- A request that names the drive in byte 0 of its body passes the gate, or is refused (R112, R41). -/
def State.gated (s : State) (l : Line) (b : BufId) (body : List Byte) (g : Group) (work : Bool)
    (f : DriveId → State → State) : State :=
  match driveOf (byteAt body 0) with
  | none => s.answer l b (.refuse .outOfRange)
  | some d =>
    match s.gateReason d g work with
    | some r => s.answer l b (.refuse r)
    | none => f d s

/-! ### The entry summary (R135, R198) -/

/-- The 26 bytes of Table 11-6. -/
def summaryBytes (h : Nat) (e : Entry) (holder : Option Line) : List Byte :=
  [toByte h, toByte e.state.code] ++ padTo 12 0#8 e.slug
    ++ (if e.decoded then
          [toByte e.basket, toByte e.priority] ++ be3 e.length ++ be2 e.day ++ be2 e.minute
            ++ [toByte e.version, toByte e.author]
        else absentField 11)
    ++ optByte (holder.map Fin.val)

/-- The summary of the entry with a handle as index memory and the claim table stand. -/
def State.summary (s : State) (d : DriveId) (h : Nat) : List Byte :=
  summaryBytes h ((s.vol d).entry h) (s.cw.holder d h)

/-- The index capacity of the volume of a drive, 0 where no profile is present. -/
def Volume.capacity (v : Volume) : Nat :=
  match v.profile with
  | some p => p.capacity
  | none => 0

end Sys2Proof.Machine
end

