-- ==== Sys2Proof/Machine/Cache.lean ====
section
/-! DEFINITION. The Track Cache (Chapter 5): the frame table, the read path, the completion of reads, write-through and
the emptying of a region. -/
namespace Sys2Proof.Machine

/-! ### The frame table (R94) -/

/-- A VALID frame of a track. -/
def Frame.validFor (c h : Nat) : Frame → Bool
  | .valid c' h' _ _ => c' == c && h' == h
  | _ => false

/-- A FILLING frame of a track. -/
def Frame.fillingFor (c h : Nat) : Frame → Bool
  | .filling c' h' _ => c' == c && h' == h
  | _ => false

def Frame.isValid : Frame → Bool
  | .valid .. => true
  | _ => false

def Frame.isFilling : Frame → Bool
  | .filling .. => true
  | _ => false

def Frame.isEmpty : Frame → Bool
  | .empty => true
  | _ => false

/-- The VALID frame with fill number 1. -/
def Frame.isOldest : Frame → Bool
  | .valid _ _ n _ => n == 1
  | _ => false

/-- The readers waiting on a frame, in the order in which they came. -/
def Frame.readers : Frame → List Reader
  | .filling _ _ rs => rs
  | _ => []

/-- The place in the list of the first frame that `p` holds of. -/
def frameWhere (p : Frame → Bool) : List Frame → Option Nat
  | [] => none
  | f :: rest => if p f then some 0 else (frameWhere p rest).map (· + 1)

/-- The frame with a number (EMPTY where there is none). -/
def Region.frame (r : Region) (i : Nat) : Frame := r.frames.getD i .empty

/-- The fill numbers above `n` fall by one (R94). -/
def lowerAbove (n : Nat) (fs : List Frame) : List Frame :=
  fs.map fun f =>
    match f with
    | .valid c h m conds => if n < m then .valid c h (m - 1) conds else .valid c h m conds
    | g => g

/-- A frame becomes `f`; when it leaves VALID the fill numbers above its own fall (R94). -/
def Region.setFrame (r : Region) (i : Nat) (f : Frame) : Region :=
  match r.frame i with
  | .valid _ _ n _ => { r with frames := (lowerAbove n r.frames).set i f }
  | _ => { r with frames := r.frames.set i f }

/-- The number of VALID frames. -/
def Region.validCount (r : Region) : Nat := (r.frames.filter Frame.isValid).length

/-- The region shuts: every frame is discarded and F is 0 (R93). -/
def Region.close (r : Region) : Region := { r with state := .shut, frames := [] }

/-- F for a profile (R92). -/
def frameCount (p : Profile) : Nat := min 9 (regionBytes / (p.spt * p.bytes))

/-- The region opens at the end of a mount, when its self-test passed (R92, R93). -/
def Region.openFor (r : Region) (p : Profile) : Region :=
  if r.state = .shut ∧ r.failed = false then
    { r with state := .opened, frames := List.replicate (frameCount p) .empty }
  else r

/-! ### The data of frames (R92) -/

/-- The bytes of sector ID `k` in frame `i` of region `d`, for tracks of a profile. -/
def State.frameData (s : State) (d : DriveId) (i : Nat) (p : ReadProfile) (k : Nat) : List Byte :=
  s.mem.readRun (frameAddr d i p.spt p.bytes k) p.bytes

/-- Data placed in sector ID `k` of frame `i`. -/
def State.putFrame (s : State) (d : DriveId) (i : Nat) (p : ReadProfile) (k : Nat) (data : List Byte) : State :=
  { s with mem := s.mem.writeRun (frameAddr d i p.spt p.bytes k) data }

/-! ### Answers of a read (Table 11-7) -/

/-- The result of a READ BLOCK: drive, handle and block of its own body, the data count and the data. -/
def State.blockReply (s : State) (l : Line) (b : BufId) (recovered : Bool) (data : List Byte) : Reply :=
  .done false recovered ((s.bodyOf l b).take 4 ++ be2 data.length ++ data)

/-- A reader is answered from the condition of its sector (R96, R100). -/
def State.answerReader (s : State) (d : DriveId) (i : Nat) (p : ReadProfile) (cond : SectorCond) (recovered : Bool)
    (r : Reader) : State :=
  match cond with
  | .good => s.answer r.line r.buf (s.blockReply r.line r.buf recovered (s.frameData d i p r.sector))
  | .bad => s.answer r.line r.buf (.failed .readCheck)
  | .absent => s.answer r.line r.buf (.failed .notFound)

/-! ### The read path (R95 to R99) -/

/-- A desk WRITE of a sector. -/
def Request.writesPlace (pl : Place) (r : Request) : Bool :=
  r.isDeskWrite && r.cylinder == pl.cylinder && r.head == pl.head && r.sectorId == some pl.sectorId

/-- The data bytes of the WRITE BLOCK in a buffer (Table 11-2). -/
def writeDataOf (body : List Byte) : List Byte := slice body 6 (nat2 body 4)

/-- The data of a desk WRITE, in the buffer of the line that placed it. -/
def State.writeBuffer (s : State) (r : Request) : List Byte :=
  match r.origin, r.kind with
  | .desk l, .write b _ => writeDataOf (s.bodyOf l b)
  | _, _ => []

/-- A hit is counted (R109). -/
def State.countHit (s : State) (d : DriveId) : State := s.modRegion d fun g => { g with hits := bump g.hits }

/-- The reader joins the FILL of a FILLING frame (R97, R72). -/
def joinFill (i : Nat) (l : Line) (k : Nat) (r : Request) : Request :=
  if r.kind = .fill i then
    { r with lines := if r.lines.contains l then r.lines else r.lines ++ [l],
             wanted := if r.wanted.contains k then r.wanted else r.wanted ++ [k] }
  else r

/-- R97. -/
def State.joinFrame (s : State) (d : DriveId) (i : Nat) (rd : Reader) : State :=
  let s1 := s.modRegion d fun g =>
    match g.frame i with
    | .filling c h rs => { g with frames := g.frames.set i (.filling c h (rs ++ [rd])) }
    | _ => g
  s1.modQueue d fun q => q.map (joinFill i rd.line rd.sector)

/-- The frame an allocation takes (R98): the lowest EMPTY one, else the oldest VALID one. -/
def Region.pick (g : Region) : Option Nat :=
  match frameWhere Frame.isEmpty g.frames with
  | some i => some i
  | none => frameWhere Frame.isOldest g.frames

/-- The frame `i` becomes FILLING for a track, an eviction counted when it was VALID; the fill is counted (R98, R109). -/
def Region.allocate (g : Region) (i c h : Nat) (rd : Reader) : Region :=
  let evicted := (g.frame i).isValid
  let g1 := g.setFrame i (.filling c h [rd])
  { g1 with fills := bump g1.fills, evicts := if evicted then bump g1.evicts else g1.evicts }

/-- R98, with a desk place free. -/
def State.placeFill (s : State) (d : DriveId) (i : Nat) (pl : Place) (p : ReadProfile) (rd : Reader) : State :=
  (s.modRegion d fun g => g.allocate i pl.cylinder pl.head rd).place d
    { Request.fresh (.desk rd.line) (.fill i) pl.cylinder pl.head none none p with
      lines := [rd.line], wanted := [rd.sector] }

/-- R99, with a desk place free. -/
def State.placeDirect (s : State) (d : DriveId) (pl : Place) (slot : Nat) (p : ReadProfile) (rd : Reader) : State :=
  (s.modRegion d fun g => { g with directs := bump g.directs }).place d
    (Request.fresh (.desk rd.line) (.directRead rd.buf) pl.cylinder pl.head (some pl.sectorId) (some slot) p)

/-- R96, for the frame that holds the track. -/
def State.hitFrame (s : State) (d : DriveId) (i : Nat) (p : ReadProfile) (rd : Reader) : State :=
  match (s.region d).frame i with
  | .valid _ _ _ conds =>
    (s.answerReader d i p (conds.getD (rd.sector - 1) .absent) false rd).countHit d
  | _ => s

/-- R98 and R99, when no frame holds the track. -/
def State.missFrame (s : State) (d : DriveId) (pl : Place) (slot : Nat) (p : ReadProfile) (rd : Reader) : State :=
  if (s.drive d).deskFull then s.refusePlace d rd.line rd.buf
  else
    match (s.region d).pick with
    | some i => if (s.region d).state = .opened then s.placeFill d i pl p rd else s.placeDirect d pl slot p rd
    | none => s.placeDirect d pl slot p rd

/-- A read that the Volume Manager hands to the cache (R95 to R99, Table 5-3). -/
def State.cacheRead (s : State) (d : DriveId) (pl : Place) (slot : Nat) (p : ReadProfile) (l : Line) (b : BufId) : State :=
  let rd : Reader := { line := l, buf := b, sector := pl.sectorId }
  match (s.drive d).queue.reverse.find? (Request.writesPlace pl) with
  | some w => (s.answer l b (s.blockReply l b false (s.writeBuffer w))).countHit d
  | none =>
    match frameWhere (Frame.validFor pl.cylinder pl.head) (s.region d).frames with
    | some i => s.hitFrame d i p rd
    | none =>
      match frameWhere (Frame.fillingFor pl.cylinder pl.head) (s.region d).frames with
      | some i => s.joinFrame d i rd
      | none => s.missFrame d pl slot p rd

/-! ### Completion of reads (R100 to R102) -/

/-- The condition a VALID frame keeps of what the channel recorded (R94, R52). -/
def SectorNote.cond : SectorNote → SectorCond
  | .good => .good
  | .bad => .bad
  | .absent | .unrecorded => .absent

/-- The frame of a FILL that has ended takes its new state: VALID with the next fill number, or EMPTY and the region SHUT
when it is CLOSING (R100). -/
def Region.filled (g : Region) (i c h : Nat) (conds : List SectorCond) : Region :=
  match g.state with
  | .closing => g.close
  | _ => { g with frames := g.frames.set i (.valid c h (g.validCount + 1) conds) }

/-- R100: a FILL ends with its outcome. -/
def State.fillDone (s : State) (d : DriveId) (r : Request) (i : Nat) (notes : List SectorNote) (recovered : List Nat) :
    State :=
  let conds := notes.map SectorNote.cond
  let readers := ((s.region d).frame i).readers
  let s1 := s.modRegion d fun g => g.filled i r.cylinder r.head conds
  readers.foldl
    (fun s rd => s.answerReader d i r.profile (conds.getD (rd.sector - 1) .absent) (recovered.contains rd.sector) rd) s1

/-- The frame of a FILL without contents becomes EMPTY; a CLOSING region shuts (R101). -/
def Region.unfilled (g : Region) (i : Nat) : Region :=
  match g.state with
  | .closing => g.close
  | _ => { g with frames := g.frames.set i .empty }

/-- The readers of a frame are answered FAILED. -/
def State.failReaders (s : State) (rs : List Reader) (c : Cause) : State :=
  rs.foldl (fun s rd => s.answer rd.line rd.buf (.failed c)) s

/-- R101: a FILL leaves the queue without contents. -/
def State.fillFailed (s : State) (d : DriveId) (i : Nat) (c : Cause) : State :=
  (s.modRegion d fun g => g.unfilled i).failReaders ((s.region d).frame i).readers c

/-! ### Write-through and doubt (R103, R104) -/

/-- A sector of a VALID frame becomes GOOD (R103). -/
def Frame.markGood (k : Nat) : Frame → Frame
  | .valid c h n conds => .valid c h n (conds.set (k - 1) .good)
  | f => f

/-- R103: a write has ended successfully. -/
def State.writeThrough (s : State) (d : DriveId) (r : Request) (data : List Byte) : State :=
  match frameWhere (Frame.validFor r.cylinder r.head) (s.region d).frames, r.sectorId with
  | some i, some k =>
    (s.putFrame d i r.profile k data).modRegion d fun g =>
      { g with frames := g.frames.set i ((g.frame i).markGood k) }
  | _, _ => s

/-- Any VALID frame of a track becomes EMPTY (R104). -/
def State.emptyTrack (s : State) (d : DriveId) (c h : Nat) : State :=
  match frameWhere (Frame.validFor c h) (s.region d).frames with
  | some i => s.modRegion d fun g => g.setFrame i .empty
  | none => s

/-! ### Emptying a region (R105 to R107) -/

/-- Every reader of every FILLING frame. -/
def Region.allReaders (g : Region) : List Reader := g.frames.flatMap Frame.readers

/-- R105: the readers are answered FAILED REMOVED and the region shuts. -/
def State.emptyRegion (s : State) (d : DriveId) : State :=
  (s.modRegion d Region.close).failReaders (s.region d).allReaders .removed

/-- The frame of a FILL. -/
def Request.fillFrame (r : Request) : Option Nat :=
  match r.kind with
  | .fill i => some i
  | _ => none

/-- A FILL or DIRECT-READ that the cache placed. -/
def Request.isCacheRead (r : Request) : Bool :=
  match r.kind with
  | .fill _ => true
  | .directRead _ => true
  | _ => false

/-- The region is quiet (R106). -/
def State.quiet (s : State) (d : DriveId) : Bool :=
  !((s.region d).frames.any Frame.isFilling)
    && !((s.drive d).queue.any fun r => match r.kind with | .directRead _ => true | _ => false)

/-- A read the cache placed is withdrawn and answered with the cause (R101, R102). -/
def State.failCacheRead (s : State) (d : DriveId) (c : Cause) (r : Request) : State :=
  match r.origin, r.kind with
  | _, .fill i => (s.modRegion d fun g => { g with frames := g.frames.set i .empty }).failReaders
                    ((s.region d).frame i).readers c
  | .desk l, .directRead b => s.answer l b (.failed c)
  | _, _ => s

/-- The frames that are not kept when a region closes under PREPARING (R107 item 1). -/
def Region.dropValid (g : Region) : Region :=
  { g with frames := g.frames.map fun f => if f.isValid then .empty else f }

/-- R107: the volume of an OPEN region enters PREPARING (a region that is not OPEN is left as it is: DEDUCED, unsafe:
log 36). -/
def State.prepareRegion (s : State) (d : DriveId) : State :=
  if (s.region d).state = .opened then
    let gone := (s.drive d).queue.filter fun r => r.isCacheRead && r.state == .queued
    let s1 := (s.modRegion d Region.dropValid).modQueue d fun q =>
      q.filter fun r => !(r.isCacheRead && r.state == .queued)
    let s2 := gone.foldl (fun s r => s.failCacheRead d .removed r) s1
    match ((s2.drive d).selected).bind Request.fillFrame with
    | some _ => s2.modRegion d fun g => { g with state := .closing }
    | none => s2.modRegion d Region.close
  else s

end Sys2Proof.Machine
end

