-- ==== Sys2Proof/Machine/Index.lean ====
section
/-! DEFINITION. The write-back of the index (section 7.8), the release of granules (section 7.7) and the withdrawal of desk
requests from a queue (R88). -/
namespace Sys2Proof.Machine

/-! ### Dirty sectors and offers (R148, R149) -/

/-- The state of an index sector after a change of one of its entries (Table 7-4). -/
def SectorState.changed : SectorState → SectorState
  | .clean => .dirty
  | .writing => .writingDirty
  | x => x

/-- A change is applied to an entry: index memory takes it whole, and its index sector changes state (R130, R148). -/
def State.changeEntry (s : State) (d : DriveId) (p : Profile) (h : Nat) (e : Entry) : State :=
  let j := p.sectorOf h
  (s.setEntry d h e).setSector d j ((s.vol d).sector j).changed

/-- A request is registered as a write-back waiter (R148). -/
def State.await (s : State) (d : DriveId) (w : Waiter) : State :=
  s.modVol d fun v => { v with waiters := v.waiters ++ [w] }

/-- The lowest-numbered DIRTY sector. -/
def Volume.lowestDirty (v : Volume) : Option Nat :=
  (List.range v.sectors.length).find? fun j => v.sector j == .dirty

/-- R149 items 1 to 5. -/
def State.mayOffer (s : State) (d : DriveId) : Bool :=
  ((s.vol d).state == .mounted || (s.vol d).state == .draining) && !(s.vol d).hasReason
    && (s.drive d).condition == .ready && !(s.drive d).reportDue && !(s.drive d).reportHeld
    && !s.channel.longInhibit && (s.drive d).volumeFree

/-- The INDEX-WRITE of a sector (R149, R14, R18). -/
def indexRequest (p : Profile) (j : Nat) : Request :=
  let hk := p.indexPlace j
  Request.fresh .volume (.indexWrite j) 1 hk.1 (some hk.2) (some (p.slot 1 hk.1 hk.2)) p.read

/-- One offer of R149, if its conditions hold. -/
def State.offerOne (s : State) (d : DriveId) : State :=
  match s.mayOffer d, (s.vol d).lowestDirty, (s.vol d).profile with
  | true, some j, some p => (s.setSector d j .queued).place d (indexRequest p j)
  | _, _, _ => s

/-- The offers of R149: one for each volume place at most. -/
def State.offers (s : State) (d : DriveId) : State := (s.offerOne d).offerOne d

/-! ### Waiters (R150 to R152) -/

/-- The result of a WRITE BLOCK (Table 11-7): drive, handle and block of its own body. -/
def State.writeReply (s : State) (l : Line) (b : BufId) (recovered : Bool) : Reply :=
  .done false recovered ((s.bodyOf l b).take 4)

/-- The data WRITE of an extending WRITE BLOCK learns how its write-back stands (R139). -/
def State.setWriteBack (s : State) (d : DriveId) (l : Line) (b : BufId) (x : WriteBack) : State :=
  s.modQueue d fun q => q.map fun r =>
    if r.origin = .desk l ∧ r.kind = .write b (some .waiting) then { r with kind := .write b (some x) } else r

/-- The request of a waiter leaves the list of waiters (R139 item 1). -/
def State.dropWaiter (s : State) (d : DriveId) (l : Line) (b : BufId) : State :=
  s.modVol d fun v => { v with waiters := v.waiters.filter fun w => !(w.line == l && w.buf == b) }

/-- A covered waiter is answered by a successful write-back (R150 item 2, R139), a change with the summary as it stands: so
too a PURGE whose handle a CREATE has taken meanwhile (DEDUCED, unsafe: log 53). -/
def State.answerWaiter (s : State) (d : DriveId) (w : Waiter) : State :=
  match w.kind with
  | .change => s.answer w.line w.buf (.done w.clamped false (s.summary d w.handle))
  | .extending none => s.setWriteBack d w.line w.buf .answered
  | .extending (some recovered) => s.answer w.line w.buf (s.writeReply w.line w.buf recovered)

/-- A waiter is answered without a write-back (R152 item 4): one whose data WRITE is still in the queue is answered
through it. -/
def State.failWaiter (s : State) (d : DriveId) (c : Cause) (w : Waiter) : State :=
  match w.kind with
  | .extending none => s.setWriteBack d w.line w.buf .faulted
  | _ => s.answer w.line w.buf (.failed c)

/-- A waiter at the loss of its volume (R36, R123): one whose data WRITE is still in the queue only loses its
registration. -/
def State.loseWaiter (s : State) (w : Waiter) : State :=
  match w.kind with
  | .extending none => s
  | _ => s.answer w.line w.buf (.failed .removed)

/-- The image of an INDEX-WRITE is taken: the sector becomes WRITING and its waiters are covered (R150). -/
def State.coverSector (s : State) (d : DriveId) (j : Nat) : State :=
  (s.setSector d j .writing).modVol d fun v =>
    { v with waiters := v.waiters.map fun w => if w.sector = j then { w with covered := true } else w }

/-- The state of a sector after its INDEX-WRITE succeeded (Table 7-4). -/
def SectorState.written : SectorState → SectorState
  | .writing => .clean
  | .writingDirty => .dirty
  | x => x

/-- An INDEX-WRITE leaves the queue successfully (R150). -/
def State.indexWritten (s : State) (d : DriveId) (j : Nat) : State :=
  let ours (w : Waiter) : Bool := w.sector == j && w.covered
  let covered := (s.vol d).waiters.filter ours
  let s1 := (s.setSector d j ((s.vol d).sector j).written).modVol d fun v =>
    { v with waiters := v.waiters.filter fun w => !ours w }
  covered.foldl (fun s w => s.answerWaiter d w) s1

/-- An INDEX-WRITE leaves the queue without success and without an index fault (R151). -/
def State.indexRemoved (s : State) (d : DriveId) (j : Nat) : State :=
  (s.setSector d j .dirty).modVol d fun v =>
    { v with waiters := v.waiters.map fun w => if w.sector = j then { w with covered := false } else w }

/-- The volume after an index fault (R152 items 2 and 3). -/
def Volume.faulted (v : Volume) : Volume :=
  { v with indexFault := true, state := if v.state = .mounted then .readOnly else v.state, free := [],
           heldGranule := none, waiters := [] }

/-- An index fault of a volume (R152). -/
def State.indexFaulted (s : State) (d : DriveId) (j : Nat) : State :=
  let waiters := (s.vol d).waiters
  let s1 := (s.setSector d j .dirty).modVol d Volume.faulted
  waiters.foldl (fun s w => s.failWaiter d .indexFault w) s1

/-! ### Withdrawal of requests (R88) -/

/-- The request buffer a request of desk origin names. -/
def ReqKind.buffer : ReqKind → Option BufId
  | .directRead b | .rawRead b | .write b _ | .sweep b => some b
  | _ => none

def ReqKind.isSweep : ReqKind → Bool
  | .sweep _ => true
  | _ => false

/-- A desk WRITE that was selected has left the queue: the granule it held becomes allocatable (R147). -/
def State.dropHold (s : State) (d : DriveId) (r : Request) : State :=
  if r.isDeskWrite ∧ r.state ≠ .queued then s.modVol d fun v => { v with heldGranule := none } else s

/-- A request of desk origin has left the queue without success: its reply, its registration as a waiter, its sweep flag
(R88), and the frame of a track in doubt (R104). -/
def State.failRequest (s : State) (d : DriveId) (c : Cause) (r : Request) : State :=
  match r.origin with
  | .volume => s
  | .desk l =>
    match r.kind with
    | .fill i => s.fillFailed d i c
    | .write b _ =>
      let s1 := ((s.dropHold d r).dropWaiter d l b).answer l b (.failed c)
      if r.granted then s1.emptyTrack d r.cylinder r.head else s1
    | .sweep b => (s.setSweepFlag d false).answer l b (.failed c)
    | .directRead b | .rawRead b => s.answer l b (.failed c)
    | _ => s

/-- Every request of desk origin that `p` holds of is withdrawn and answered with the cause. -/
def State.withdraw (s : State) (d : DriveId) (p : Request → Bool) (c : Cause) : State :=
  let ours (r : Request) : Bool := r.origin != .volume && p r
  let gone := (s.drive d).queue.filter ours
  gone.foldl (fun s r => s.failRequest d c r) (s.modQueue d fun q => q.filter fun r => !ours r)

/-- The selected request leaves the queue; a granule that a desk WRITE held becomes allocatable (R147). -/
def State.leave (s : State) (d : DriveId) : State :=
  match (s.drive d).selected with
  | some r => (s.dropSelected d).dropHold d r
  | none => s

/-! ### Granules (R138, R146, R147) -/

/-- A granule of the free set that no write in service holds (R138). -/
def Volume.allocatable (v : Volume) (g : Nat) : Bool := v.free.contains g && v.heldGranule != some g

/-- The lowest allocatable granule. -/
def Volume.lowestFree (v : Volume) : Option Nat := v.free.find? v.allocatable

/-- What an allocation makes of an extent list (R138 steps 1 to 4). -/
inductive Allocation where
  | took (granule : Nat) (extents : List Extent)
  | refused (r : Reason)
  deriving DecidableEq, Repr

/-- The last extent grown by one granule. -/
def growLast : List Extent → List Extent
  | [] => []
  | [x] => [{ x with count := x.count + 1 }]
  | x :: rest => x :: growLast rest

/-- The granule just after the last extent. -/
def afterLast (es : List Extent) : Option Nat := es.getLast?.map fun x => x.first + x.count

/-- R138 step 3 or 4, the lowest allocatable granule being `g`. -/
def newExtent (g : Nat) (es : List Extent) : Allocation :=
  if es.length < 4 then .took g (es ++ [{ first := g, count := 1 }]) else .refused .extentsFull

/-- R138 steps 1 to 4. -/
def Volume.allocate (v : Volume) (es : List Extent) : Allocation :=
  match v.lowestFree with
  | none => .refused .volumeFull
  | some g =>
    match afterLast es with
    | some n => if v.allocatable n then .took n (growLast es) else newExtent g es
    | none => newExtent g es

/-- The granules a length needs (R146 items 1 and 2). -/
def neededGranules (p : Profile) (length : Nat) : Nat :=
  ((length + p.bytes - 1) / p.bytes + p.granule - 1) / p.granule

/-- An extent list cut to its first `n` granules (R146). -/
def cutExtents : Nat → List Extent → List Extent
  | _, [] => []
  | n, x :: rest =>
    if n = 0 then []
    else if n < x.count then [{ x with count := n }]
    else x :: cutExtents (n - x.count) rest

/-- A number entered in an ascending list without repeats. -/
def insertAsc (n : Nat) : List Nat → List Nat
  | [] => [n]
  | m :: rest => if n < m then n :: m :: rest else if n = m then m :: rest else m :: insertAsc n rest

/-- A desk WRITE whose sector lies in a granule (R147). -/
def Request.writesGranule (p : Profile) (g : Nat) (r : Request) : Bool :=
  match r.isDeskWrite, r.sectorId with
  | true, some k => p.granuleOf r.cylinder r.head k == g
  | _, _ => false

/-- One granule is released (R147): the QUEUED desk WRITEs into it are withdrawn FAILED TRIMMED, and it enters the free
set, held by a desk WRITE into it that is selected. -/
def State.releaseGranule (s : State) (d : DriveId) (p : Profile) (g : Nat) : State :=
  let held := (s.drive d).queue.any fun r => r.state != .queued && r.writesGranule p g
  (s.withdraw d (fun r => r.state == .queued && r.writesGranule p g) .trimmed).modVol d fun v =>
    { v with free := insertAsc g v.free, heldGranule := if held then some g else v.heldGranule }

/-- Granules are released (R147). -/
def State.releaseGranules (s : State) (d : DriveId) (p : Profile) (gs : List Nat) : State :=
  gs.foldl (fun s g => s.releaseGranule d p g) s

end Sys2Proof.Machine
end

