-- ==== Sys2Proof/Machine/Mount.lean ====
section
/-! DEFINITION. The volume context through its life (Chapter 6): mounting, release, loss and preparation. -/
namespace Sys2Proof.Machine

/-! ### Mounting (R113 to R118) -/

/-- Both margin records of a drive are reset (R60). -/
def State.resetMargins (s : State) (d : DriveId) : State :=
  (s.setMargin d .outer (freshMargin s.cfg)).setMargin d .inner (freshMargin s.cfg)

/-- The LABEL-READ (R114). -/
def labelRequest : Request := { Request.fresh .volume .labelRead 0 0 none none labelProfile with wanted := [1] }

/-- A mount begins (R113 item 1). -/
def State.beginMount (s : State) (d : DriveId) : State :=
  ((s.modVol d fun _ => { freshVolume with state := .mounting }).resetMargins d).placeVolume d labelRequest

/-- The ready report of the drive sequencer, acted on (R113). -/
def State.mountReport (s : State) (d : DriveId) : State :=
  match (s.vol d).state with
  | .noVolume => s.beginMount d
  | .mounting | .preparing => s
  | _ => s.offers d

/-- The volume becomes FOREIGN; the mount or preparation ends (R114, R126). -/
def Volume.toForeign (v : Volume) (c : ForeignCause) : Volume :=
  { v with state := .foreign, foreign := some c, profile := none, labelArea := [], staging := [], sectors := [],
           pendingReq := none, newLabel := none, tracksFormatted := 0 }

/-- The index-load FILL of a head of cylinder 1, whose index sectors are those from `head * spt` to below U (R116). -/
def loadRequest (p : Profile) (head : Nat) : Request :=
  { Request.fresh .volume .indexLoad 1 head none none p.read with
    wanted := (List.range (min p.spt (p.used - head * p.spt))).map (· + 1) }

/-- The index-load FILLs are offered: one for each track that holds an index sector (R116). -/
def State.offerLoads (s : State) (d : DriveId) (p : Profile) : State :=
  let s1 := s.placeVolume d (loadRequest p 0)
  if p.used ≤ p.spt then s1 else s1.placeVolume d (loadRequest p 1)

/-- The bytes of a sector in an area of the volume context. -/
def areaGet (a : List (Nat × List Byte)) (k : Nat) : Option (List Byte) := (a.find? fun e => e.1 == k).map Prod.snd

/-- A sector entered in an area. -/
def areaSet (a : List (Nat × List Byte)) (k : Nat) (data : List Byte) : List (Nat × List Byte) :=
  (k, data) :: a.filter fun e => e.1 != k

/-- The volume after a readable label (R114 item 1, R115), with the levels read at this moment (R33). -/
def Volume.labelled (v : Volume) (record : LabelRecord) (q : Quantized) (writeProtect : Bool) : Volume :=
  { v with label := some record.info, wpAtDecode := writeProtect, profile := some q.profile, limited := q.limited,
           interleaveIgnored := q.interleaveIgnored, sectors := List.replicate q.profile.used .clean, labelArea := [] }

/-- The LABEL-READ leaves the queue; `data` is sector 1 when it is GOOD (R114). -/
def State.labelDone (s : State) (d : DriveId) (data : Option (List Byte)) : State :=
  match data with
  | none => s.modVol d fun v => v.toForeign .unreadable
  | some bytes =>
    let record := decodeLabel bytes
    let lv := (s.drive d).levels
    match quantize record lv.twoSided with
    | none =>
      s.modVol d fun v => ({ v with label := some record.info, wpAtDecode := lv.writeProtect } : Volume).toForeign
        .unsupported
    | some q => (s.modVol d fun v => v.labelled record q lv.writeProtect).offerLoads d q.profile

/-- The entries of index memory with those of one index sector replaced, `f` giving the entry at each position. -/
def Volume.loadSector (v : Volume) (p : Profile) (j : Nat) (f : Nat → Entry) : Volume :=
  { v with entries := Vector.ofFn fun h =>
      if h.val / p.perSector = j then f (h.val % p.perSector) else v.entries.get h }

/-- Index sector `j` is taken from the staging area, or as unreadable (R116 items 1 and 2). -/
def Volume.takeSector (v : Volume) (p : Profile) (readable : Bool) (j : Nat) : Volume :=
  match readable, areaGet v.staging j with
  | true, some bytes => v.loadSector p j fun i => decodeEntry (slice bytes (32 * i) 32)
  | _, _ => { v.loadSector p j (fun _ => unreadableEntry) with inconsistent := true }

/-- Validation and the end of the mount (R117, R118). -/
def Volume.mountEnd (v : Volume) (p : Profile) : Volume :=
  let checked := validate p v.entries.toList
  let v1 := { v with
    entries := Vector.ofFn fun h => checked.getD h.val freeEntry,
    inconsistent := v.inconsistent || checked.any (fun e => e.state == EntryState.damaged),
    wpReason := v.wpAtDecode, staging := [] }
  if v1.hasReason then { v1 with state := .readOnly, free := [] }
  else { v1 with state := .mounted, free := freeGranules p checked }

def ReqKind.isIndexLoad : ReqKind → Bool
  | .indexLoad => true
  | _ => false

/-- The mount ends when every index-load FILL has left the queue (R116 to R118); the region opens (R93). -/
def State.tryMountEnd (s : State) (d : DriveId) : State :=
  if (s.drive d).queue.any fun r => r.kind.isIndexLoad then s
  else
    match (s.vol d).profile with
    | some p => (s.modVol d fun v => v.mountEnd p).modRegion d fun g => g.openFor p
    | none => s

/-- An index-load FILL has left the queue, with the sectors of its wanted set that are GOOD (R116). -/
def State.loadDone (s : State) (d : DriveId) (r : Request) (good : List Nat) : State :=
  match (s.vol d).profile with
  | some p =>
    (s.modVol d fun v =>
      r.wanted.foldl (fun v k => v.takeSector p (good.contains k) (r.head * p.spt + (k - 1))) v).tryMountEnd d
  | none => s

/-! ### Release (R121, R122) -/

/-- The volume becomes RELEASED (R122); its reasons are cleared (DEDUCED, unsafe: log 20). -/
def Volume.released (v : Volume) : Volume :=
  { freshVolume with
    state := .released, label := v.label, limited := v.limited, interleaveIgnored := v.interleaveIgnored,
    dirtyRemoval := v.dirtyRemoval || !v.dirtySet.isEmpty }

/-- The head is unloaded and the positioner RESTS on its cylinder (R31). -/
def Positioner.unloaded (p : Positioner) : Positioner :=
  { p with state := .resting, headLoaded := false, unload := 0 }

/-- The head is unloaded at a release when it is idle (R31). -/
def State.unloadIdle (s : State) (d : DriveId) : State :=
  if (s.drive d).pos.state = .onTrack ∧ (s.drive d).selected = none then s.modPos d Positioner.unloaded else s

/-- The region at a release (R106): it shuts, but one that is CLOSING stays so until its FILL leaves the queue (R93 item 3,
R107 item 4). -/
def Region.release (r : Region) : Region := if r.state = .closing then r else r.close

/-- The effects of a release but for the reply (R122, R106, R160). -/
def State.releaseVolume (s : State) (d : DriveId) : State :=
  (((s.modVol d Volume.released).modRegion d Region.release).modClaims fun c => c.volumeGone d).unloadIdle d

/-- The drain is held (R122): by a drive fault until, after CLEAR DRIVE, the drive has reported that it is ready (R120;
DEDUCED, unsafe: log 57), and by a long inhibit until the supply is restored. -/
def State.drainHeld (s : State) (d : DriveId) : Bool :=
  (s.drive d).condition != .ready || (s.drive d).reportDue || (s.drive d).reportHeld || s.channel.longInhibit

/-- A DRAINING volume may be released (R122). -/
def State.drainComplete (s : State) (d : DriveId) : Bool :=
  (s.vol d).state == .draining && !s.drainHeld d
    && !((s.drive d).queue.any fun r => r.kind.isSectorWrite)
    && ((s.vol d).dirtySet.isEmpty || (s.vol d).hasReason)
    && s.quiet d

/-- The pending EJECT of a volume is answered DONE (R122). -/
def State.answerEject (s : State) : Option PendingVolume → State
  | some (.eject l b) => s.answer l b (.ok [])
  | _ => s

/-! ### Loss (R123) -/

/-- The dirty-removal flag at a removal (R123). -/
def State.dirtyAtLoss (s : State) (d : DriveId) : Bool :=
  (s.vol d).dirtyRemoval || !(s.vol d).dirtySet.isEmpty || (s.drive d).queue.any fun r => r.kind.isWrite

/-- The pending volume request is answered FAILED (R123, R126). -/
def State.failPending (s : State) (c : Cause) : Option PendingVolume → State
  | some (.eject l b) => s.answer l b (.failed c)
  | some (.prepare l b _) => s.answer l b (.failed c)
  | none => s

/-- The volume becomes NONE (R123). -/
def State.loseVolume (s : State) (d : DriveId) : State :=
  let v := s.vol d
  let dirty := s.dirtyAtLoss d
  let s1 := s.modVol d fun v => { freshVolume with label := v.label, dirtyRemoval := dirty }
  (v.waiters.foldl State.loseWaiter s1).failPending .removed v.pendingReq

/-! ### Preparation (R125, R126) -/

/-- The FORMAT-TRACK step of a track (R125, R59). -/
def formatRequest (p : Profile) (c h : Nat) : Request :=
  Request.fresh .volume .formatTrack c h none none (if c = 0 ∧ h = 0 then labelProfile else p.read)

/-- The track formatted after (c, h) (R125 step 1). -/
def nextTrack (p : Profile) (c h : Nat) : Option (Nat × Nat) :=
  if p.sides = 2 ∧ h = 0 then some (c, 1) else if c < lastCylinder then some (c + 1, 0) else none

/-- The WRITE of the label record (R125 step 2, R84 item 3), its image built with the clock's stamp (R13). -/
def State.offerLabelWrite (s : State) (d : DriveId) (p : Profile) : State :=
  match (s.vol d).newLabel with
  | some i =>
    let stamped : LabelInfo := { i with day := s.clock.day, minute := s.clock.minute }
    (s.modVol d fun v => { v with newLabel := some stamped, labelArea := [(1, encodeLabel stamped p)] }).placeVolume d
      (Request.fresh .volume (.prepWrite .label) 0 0 (some 1) (some 0) labelProfile)
  | none => s

/-- The WRITE of index sector `j` with every entry FREE (R125 step 3, R84 item 2). -/
def State.offerIndexInit (s : State) (d : DriveId) (p : Profile) (j : Nat) : State :=
  let hk := p.indexPlace j
  (s.modVol d fun v => { v with staging := [(j, List.replicate p.bytes 0#8)] }).placeVolume d
    (Request.fresh .volume (.prepWrite (.index j)) 1 hk.1 (some hk.2) (some (p.slot 1 hk.1 hk.2)) p.read)

/-- The result of PREPARE VOLUME: drive and bytes 0-21 of the label record (Table 11-9). -/
def prepareResult (d : DriveId) (v : Volume) (p : Profile) : List Byte :=
  toByte d.val :: (match v.newLabel with
    | some i => (encodeLabel i p).take 22
    | none => [])

/-- The last index write has left the queue: the reply, then a mount (R126). -/
def State.prepareEnd (s : State) (d : DriveId) (p : Profile) : State :=
  match (s.vol d).pendingReq with
  | some (.prepare l b clamped) => (s.answer l b (.done clamped false (prepareResult d (s.vol d) p))).beginMount d
  | _ => s.beginMount d

/-- The index write after sector `j` has been written, or the end (R125 step 3). -/
def State.nextIndexInit (s : State) (d : DriveId) (p : Profile) (j : Nat) : State :=
  if j < p.used then s.offerIndexInit d p j else s.prepareEnd d p

/-- The step after a FORMAT-TRACK of (c, h), which is counted (R125). -/
def State.afterFormat (s : State) (d : DriveId) (p : Profile) (c h : Nat) : State :=
  let s1 := s.modVol d fun v => { v with tracksFormatted := v.tracksFormatted + 1 }
  match nextTrack p c h with
  | some t => s1.placeVolume d (formatRequest p t.1 t.2)
  | none => s1.offerLabelWrite d p

/-- A preparation step has left the queue successfully: the next one is offered (R125). -/
def State.prepareNext (s : State) (d : DriveId) (r : Request) : State :=
  match (s.vol d).profile with
  | none => s
  | some p =>
    match r.kind with
    | .formatTrack => s.afterFormat d p r.cylinder r.head
    | .prepWrite .label => s.nextIndexInit d p 0
    | .prepWrite (.index j) => s.nextIndexInit d p (j + 1)
    | _ => s

/-- A preparation ends without success, its step having left the queue (R126). -/
def State.prepareFailed (s : State) (d : DriveId) (c : Cause) : State :=
  (s.modVol d fun v => v.toForeign .incomplete).failPending c (s.vol d).pendingReq

/-- PREPARE VOLUME is accepted (R125). -/
def State.beginPrepare (s : State) (d : DriveId) (l : Line) (b : BufId) (i : LabelInfo) (q : Quantized) : State :=
  let s1 := (s.modVol d fun _ => { freshVolume with
    state := .preparing, profile := some q.profile, pendingReq := some (.prepare l b q.changed), newLabel := some i })
  ((s1.prepareRegion d).modClaims fun c => c.volumeGone d).placeVolume d (formatRequest q.profile 0 0)

end Sys2Proof.Machine
end

