-- ==== Sys2Proof/Machine/Position.lean ====
section
/-! DEFINITION. Withdrawal by the long inhibit (R66), asking the channel (R43), and the positioner: recalibration (R27), a
move (R29, R30), the report of a drive ready to mount. -/
namespace Sys2Proof.Machine

/-! ### Asking the channel (R43, R66) -/

/-- A write that has left the queue is given up for want of supply (R66 items 1 to 3). -/
def State.givenUp (s : State) (d : DriveId) (r : Request) : State :=
  match r.kind with
  | .indexWrite j =>
    let s1 := s.indexRemoved d j
    if r.granted then s1.emptyTrack d r.cylinder r.head else s1
  | .prepWrite _ =>
    let s1 := s.prepareFailed d .powerLow
    if r.granted then s1.emptyTrack d r.cylinder r.head else s1
  | .formatTrack => (s.prepareFailed d .powerLow).emptyTrack d r.cylinder r.head
  | _ => s.failRequest d .powerLow r

/-- The selected write of a drive is withdrawn by the long inhibit; what the channel kept of it is discarded (R66). -/
def State.withdrawSelected (s : State) (d : DriveId) (r : Request) : State :=
  (((s.leave d).setAsking d false).setOp d none).givenUp d r

/-- The drive asks the channel for service (R30, R43); a write that would come to wait during the long inhibit is
withdrawn instead (R66). -/
def State.ask (s : State) (d : DriveId) : State :=
  match (s.drive d).selected with
  | some r => if s.channel.longInhibit && r.kind.isWrite then s.withdrawSelected d r else s.setAsking d true
  | none => s

/-! ### A move (R29 to R32) -/

/-- One step pulse of a move: the cylinder goes one place toward the target, the remaining count falls, and the next step
interval starts with the step period (R29, R32). -/
def Positioner.stepPulse (p : Positioner) (period : Nat) : Positioner :=
  { p with cylinder := p.cylinder.map fun c => if p.inward then c + 1 else c - 1,
           remaining := p.remaining - 1, stepTimer := some period }

/-- The difference of two cylinders. -/
def cylinderDistance (a b : Nat) : Nat := if a ≤ b then b - a else a - b

/-- Entry to MOVING (R29 item 2), before the first step pulse. -/
def Positioner.enterMoving (p : Positioner) (target c headLoad : Nat) : Positioner :=
  { p with state := .moving, target := some target,
           loadTimer := if p.headLoaded then none else some headLoad, headLoaded := true,
           inward := if c < target then true else if target < c then false else p.inward,
           remaining := cylinderDistance c target }

/-- The move of R29 from a known cylinder `c`. -/
def Positioner.moveTo (p : Positioner) (target c : Nat) (cfg : ConfigRecord) : Positioner :=
  let p1 := p.enterMoving target c cfg.headLoad
  if p1.remaining = 0 then p1 else p1.stepPulse cfg.stepPeriod

/-- The move of the selected request begins, or the drive asks at once (R29). -/
def State.beginMove (s : State) (d : DriveId) : State :=
  let p := (s.drive d).pos
  match (s.drive d).selected, p.cylinder with
  | some r, some c =>
    if p.state = .onTrack ∧ r.cylinder = c then s.ask d
    else if p.state = .onTrack ∨ p.state = .resting then s.modPos d fun p => p.moveTo r.cylinder c s.cfg
    else s
  | _, _ => s

/-- The positioner becomes ON-TRACK; with a selected request the drive asks (R30). -/
def State.arrive (s : State) (d : DriveId) : State :=
  (s.modPos d fun p => { p with state := .onTrack, target := none }).ask d

/-! ### Recalibration (R27) -/

/-- The positioner becomes UNKNOWN (R27 items 1 to 3); DIRECTION keeps its level (R19). -/
def Positioner.toUnknown (p : Positioner) : Positioner := { freshPositioner with inward := p.inward }

/-- RECALIBRATING with its first step pulse made (R27 steps 1 and 3). -/
def Positioner.startRecal (p : Positioner) (period : Nat) : Positioner :=
  { p.toUnknown with state := .recalibrating, inward := false, remaining := 79, stepTimer := some period }

/-- RESTING on cylinder 0 at the end of a recalibration, with a remaining count: that of step 1 when step 2 ends it, 0 when
step 4 does (R27). -/
def Positioner.atZero (p : Positioner) (remaining : Nat) : Positioner :=
  { p.toUnknown with state := .resting, cylinder := some 0, remaining := remaining }

/-- The report that the drive is ready to mount: held in START-UP, else acted on (R27, R189). -/
def State.reportReady (s : State) (d : DriveId) : State :=
  if (s.drive d).reportDue = false then s
  else if s.part.state = .startUp then s.modDrive d fun u => { u with reportDue := false, reportHeld := true }
  else (s.modDrive d fun u => { u with reportDue := false }).mountReport d

/-- The positioner has come to RESTING on cylinder 0: the report, and the move of a request in RECAL-WAIT (R27). -/
def State.restedAtZero (s : State) (d : DriveId) (remaining : Nat) : State :=
  ((s.modPos d fun p => p.atZero remaining).reportReady d).beginMove d

/-- While the drive is READY the positioner goes from UNKNOWN to RECALIBRATING at once (R27): RESTING on cylinder 0 when
TRACK-ZERO is asserted before any step (step 2), with DIRECTION outward and the remaining count 80, as step 1 sets them. -/
def State.recalibrate (s : State) (d : DriveId) : State :=
  if (s.drive d).levels.trackZero then
    (s.modPos d fun p => { p with inward := false }).restedAtZero d 80
  else s.modPos d fun p => p.startRecal s.cfg.stepPeriod

/-- The positioner becomes UNKNOWN on a drive that stays READY, and recalibrates (R50, R63). -/
def State.lostPosition (s : State) (d : DriveId) : State := (s.modPos d Positioner.toUnknown).recalibrate d

end Sys2Proof.Machine
end

