-- ==== Sys2Proof/Machine/Loss.lean ====
section
/-! DEFINITION. The drive condition (section 2.2), removal (R35, R36), drive faults (R38, R39) and what the channel does in
them (R68). -/
namespace Sys2Proof.Machine

/-! ### The channel's grant (R44, R68) -/

/-- The grant ends: the channel is IDLE and its outputs deasserted, and the unload count of the drive is 0 (R44, R31). -/
def State.endGrant (s : State) (d : DriveId) : State :=
  (s.modChannel fun c => { c with state := .idle, granted := none, gate := none }).modPos d fun p =>
    { p with unload := 0 }

/-- What an operation that is cut off had taught its margin record is taken back (R68 item 4, DEDUCED, unsafe: log
15); the record is
adjusted to the allowed range standing (R62). -/
def State.unlearn (s : State) (d : DriveId) : State :=
  match s.op d with
  | some o => o.undo.foldl (fun s x => s.setMargin d x.1 (x.2.adjust s.cfg.strobeMin s.cfg.strobeMax)) s
  | none => s

/-- The channel's own state for a drive that is removed or faults (R68). -/
def State.abortChannel (s : State) (d : DriveId) : State :=
  let s1 := if s.channel.granted = some d then s.endGrant d else s
  (((s1.unlearn d).setAsking d false).setOp d none).setSweepFlag d false

/-! ### Removal (R35, R36) -/

/-- The drive sequencer's own state after a removal (R35 items 4 to 7). -/
def DriveSeq.removed (u : DriveSeq) (c : DriveCondition) : DriveSeq :=
  { u with condition := c, index := clearedTiming, noIndexTimer := false, pos := u.pos.toUnknown, queue := [],
           reportDue := false, reportHeld := false }

/-- Removal: the drive becomes `c`, EMPTY or OFFLINE (R35, R36, R105, R123, R160). -/
def State.removal (s : State) (d : DriveId) (c : DriveCondition) : State :=
  let s1 := ((s.abortChannel d).loseVolume d).withdraw d (fun _ => true) .removed
  ((s1.emptyRegion d).modClaims fun w => w.volumeGone d).modDrive d fun u => u.removed c

/-! ### Faults (R38, R39) -/

/-- The drive sequencer's own state in a fault (R38). -/
def DriveSeq.faulted (u : DriveSeq) (c : FaultCause) : DriveSeq :=
  { u with condition := .faulted, cause := c, index := clearedTiming, noIndexTimer := false, pos := u.pos.toUnknown,
           reportDue := false, reportHeld := false }

/-- A volume request that stays in the queue through a fault: one that was QUEUED, and the reads of a mount (R39). -/
def Request.survives (r : Request) : Bool :=
  match r.kind with
  | .labelRead | .indexLoad => true
  | .indexWrite _ => r.state == .queued
  | _ => false

/-- A volume request after a fault: one that was not QUEUED returns to QUEUED with passed count 0 (R39). -/
def Request.requeued (r : Request) : Request :=
  if r.state = .queued then r else { r with state := .queued, passed := 0 }

/-- The private areas of a mount read that was selected are as before the fill (R39): no sector of its track is in
them. -/
def State.restoreArea (s : State) (d : DriveId) (r : Request) : State :=
  match r.kind with
  | .labelRead => s.modVol d fun v => { v with labelArea := [] }
  | .indexLoad => s.modVol d fun v =>
      { v with staging := v.staging.filter fun e => !(e.1 / r.profile.spt == r.head) }
  | _ => s

/-- A volume request that a fault takes from the queue (R39, R151, R126). -/
def State.dropVolumeRequest (s : State) (d : DriveId) (r : Request) : State :=
  match r.kind with
  | .indexWrite j =>
    let s1 := s.indexRemoved d j
    if r.granted then s1.emptyTrack d r.cylinder r.head else s1
  | .prepWrite _ =>
    let s1 := s.prepareFailed d .driveFault
    if r.granted then s1.emptyTrack d r.cylinder r.head else s1
  | .formatTrack => (s.prepareFailed d .driveFault).emptyTrack d r.cylinder r.head
  | _ => s

/-- Volume-origin requests through a fault (R39). -/
def State.faultVolumeRequests (s : State) (d : DriveId) : State :=
  let q := (s.drive d).queue
  let s1 := (q.filter fun r => r.state != .queued).foldl (fun s r => s.restoreArea d r) s
  let s2 := s1.modQueue d fun q => (q.filter Request.survives).map Request.requeued
  (q.filter fun r => !r.survives).foldl (fun s r => s.dropVolumeRequest d r) s2

/-- The drive becomes FAULTED with a cause (R38, R39). -/
def State.fault (s : State) (d : DriveId) (c : FaultCause) : State :=
  let s1 := (s.abortChannel d).modDrive d fun u => u.faulted c
  (s1.withdraw d (fun _ => true) .driveFault).faultVolumeRequests d

/-! ### Entering a condition (R20 to R25) -/

/-- SPEED-CHECK is entered: timing cleared, the no-index timer started (R21, R23). A drive already asserting DRIVE-FAULT
is FAULTED at once (R25). -/
def State.enterSpeedCheck (s : State) (d : DriveId) : State :=
  let s1 := s.modDrive d fun u => { u with condition := .speedCheck, index := clearedTiming, noIndexTimer := true }
  if (s.drive d).levels.driveFault then s1.fault d .driveFault else s1

/-- READY is entered: the positioner becomes UNKNOWN and recalibrates, and its RESTING is to be reported (R23, R27). -/
def State.enterReady (s : State) (d : DriveId) : State :=
  let s1 := s.modDrive d fun u =>
    { u with condition := .ready, noIndexTimer := false, reportDue := true, reportHeld := false, pos := u.pos.toUnknown }
  if (s.drive d).levels.driveFault then s1.fault d .driveFault else s1.recalibrate d

/-- A drive becomes SPEED-CHECK or EMPTY by the level of READY (R20, R40). -/
def State.enterByReady (s : State) (d : DriveId) : State :=
  if (s.drive d).levels.ready then s.enterSpeedCheck d
  else s.modDrive d fun u => { u with condition := .empty }

/-- A drive is taken out of use by CONFIGURE (R20 items 1 and 2); an OFFLINE drive's outputs are deasserted. -/
def State.takeOffline (s : State) (d : DriveId) : State :=
  (s.removal d .offline).modPos d fun _ => freshPositioner

end Sys2Proof.Machine
end

