-- ==== Sys2Proof/Machine/Service.lean ====
section
/-! DEFINITION. Service order (Chapter 4): the cost (R83 to R86), the selection rule (R76 to R80). -/
namespace Sys2Proof.Machine

/-! ### The cost arithmetic (section 4.5) -/

/-- The nominal revolution in microseconds (R1). -/
def revolutionUs : Nat := 166667

/-- The service spt (R83). -/
def Volume.serviceSpt (v : Volume) : Nat :=
  match v.profile with
  | some p => p.spt
  | none => 16

/-- slot_us (R83 item 1). -/
def slotUs (spt : Nat) : Nat := revolutionUs / spt

/-- now_slot (R83 item 3). -/
def nowSlot (spt elapsedUs : Nat) : Nat := min (spt - 1) (elapsedUs / slotUs spt)

/-- seek_us (R85 item 1). -/
def seekUs (cfg : ConfigRecord) (target cylinder : Nat) : Nat :=
  cylinderDistance target cylinder * cfg.stepPeriod + (if target = cylinder then 0 else cfg.settle)

/-- ready_us (R85 item 2). -/
def readyUs (cfg : ConfigRecord) (loaded : Bool) (target cylinder : Nat) : Nat :=
  if loaded then seekUs cfg target cylinder else max (seekUs cfg target cylinder) cfg.headLoad

/-- ready_slots (R85 item 3). -/
def readySlots (spt ready : Nat) : Nat := (ready + slotUs spt - 1) / slotUs spt

/-- The forward distance from slot `x` to slot `y` (R86). -/
def forwardDistance (spt x y : Nat) : Nat := (y % spt + spt - x % spt) % spt

/-- The slot a request waits for, absent when its wait is 0 (Table 4-4; R84, last paragraph). -/
def Request.waitSlot (r : Request) : Option Nat :=
  match r.kind with
  | .fill _ | .indexLoad | .labelRead => none
  | .formatTrack | .sweep _ => some 0
  | _ => r.slot

/-- The wait of a request, `x` being the slot under the head when it is ready (R86). -/
def waitOf (spt x : Nat) (r : Request) : Nat :=
  match r.waitSlot with
  | some y => forwardDistance spt x y
  | none => 0

/-- The cost of a request (R86): the head loaded or not, the positioner's cylinder and elapsed_us given. -/
def costOf (cfg : ConfigRecord) (spt : Nat) (loaded : Bool) (cylinder elapsedUs : Nat) (r : Request) : Nat :=
  let ready := readySlots spt (readyUs cfg loaded r.cylinder cylinder)
  ready + waitOf spt (nowSlot spt elapsedUs + ready) r

/-! ### The selection rule (section 4.3) -/

/-- The same track. -/
def Request.sameTrack (a b : Request) : Bool := a.cylinder == b.cylinder && a.head == b.head

def ReqKind.isFormat : ReqKind → Bool
  | .formatTrack => true
  | _ => false

/-- An older request that bars a request from selection (R76). -/
def Request.bars (older r : Request) : Bool :=
  older.sameTrack r
    && ((r.kind.isSectorWrite && older.kind.isSectorWrite && older.sectorId == r.sectorId)
        || (r.kind.isFormat && older.kind.isSectorWrite)
        || (r.kind.isSectorWrite && older.kind.isFormat))

/-- The QUEUED requests that are not barred, each with its position, `older` being those before (R76). -/
def candidates (older : List Request) : List Request → List (Nat × Request)
  | [] => []
  | r :: rest =>
    let tail := candidates (older ++ [r]) rest
    if r.state = .queued ∧ older.any (fun o => o.bars r) = false then (older.length, r) :: tail else tail

/-- A line's mask holds a pattern step (R82). -/
def ConfigRecord.maskHolds (cfg : ConfigRecord) (step : Nat) (l : Line) : Bool := (cfg.masks.get l).getLsbD step

/-- Eligibility (R78 items 1 to 3). -/
def Request.eligible (cfg : ConfigRecord) (step : Nat) (r : Request) : Bool :=
  match r.origin with
  | .volume => true
  | .desk l =>
    match r.kind with
    | .fill _ => r.lines.any (cfg.maskHolds step)
    | _ => cfg.maskHolds step l

/-- The first of the candidates of lowest cost (R79). -/
def cheapest (cost : Request → Nat) : List (Nat × Request) → Option (Nat × Request)
  | [] => none
  | x :: rest =>
    match cheapest cost rest with
    | some y => if cost y.2 < cost x.2 then some y else some x
    | none => some x

/-- A selection: the position of the chosen request, and whether it was a bypass or an open selection (R77, R78). -/
structure Choice where
  index  : Nat
  bypass : Bool
  opened : Bool
  deriving DecidableEq, Repr

/-- The selection rule (R76 to R79). -/
def choose (cfg : ConfigRecord) (step : Nat) (cost : Request → Nat) (q : List Request) : Option Choice :=
  let cs := candidates [] q
  match cs.find? fun x => x.2.passed == cfg.bypass with
  | some x => some { index := x.1, bypass := true, opened := false }
  | none =>
    match cheapest cost (cs.filter fun x => x.2.eligible cfg step) with
    | some x => some { index := x.1, bypass := false, opened := false }
    | none => (cheapest cost cs).map fun x => { index := x.1, bypass := false, opened := true }

/-- The queue after the request at a position has been selected (R75, R80). -/
def selectAt (limit : Nat) : Nat → List Request → List Request
  | _, [] => []
  | 0, r :: rest => { r with state := .selected } :: rest
  | n + 1, r :: rest =>
    (if r.state = .queued ∧ r.passed < limit then { r with passed := r.passed + 1 } else r) :: selectAt limit n rest

/-- The drive may make a selection (R75 items 1, 3 and 4). -/
def DriveSeq.maySelect (u : DriveSeq) : Bool :=
  u.selected.isNone && u.condition == .ready && (u.pos.state == .resting || u.pos.state == .onTrack)

/-- The drive sequencer after a selection (R75, R80, R31, R90). -/
def DriveSeq.took (u : DriveSeq) (limit : Nat) (c : Choice) : DriveSeq :=
  { u with queue := selectAt limit c.index u.queue, selections := bump u.selections,
           bypasses := if c.bypass then bump u.bypasses else u.bypasses,
           opens := if c.opened then bump u.opens else u.opens,
           pos := { u.pos with unload := 0 } }

/-- The choice a drive would make now (R79: the figures standing at this moment). -/
def State.choice (s : State) (d : DriveId) (elapsedUs : Nat) : Option Choice :=
  let u := s.drive d
  match u.pos.cylinder with
  | some c =>
    choose s.cfg u.patternStep (costOf s.cfg (s.vol d).serviceSpt u.pos.headLoaded c elapsedUs) u.queue
  | none => none

/-- A selection (R75). -/
def State.select (s : State) (d : DriveId) (elapsedUs : Nat) : State :=
  if (s.drive d).maySelect then
    match s.choice d elapsedUs with
    | some c => (s.modDrive d fun u => u.took s.cfg.bypass c).beginMove d
    | none => s
  else s

end Sys2Proof.Machine
end

