-- ==== Sys2Proof/Machine/Attempt.lean ====
section
/-! DEFINITION. The operation in service: its attempts and their strobes (R46, R49), its ends and what they report
(Table 3-1), suspension (R65), the write check (R57) and the retry ladder (section 3.4). -/
namespace Sys2Proof.Machine

/-! ### The operation in service -/

/-- The granted drive, the request it serves and the operation record (R46). -/
structure Service where
  d   : DriveId
  req : Request
  op  : OpRecord

/-- The operation in service, if any. -/
def State.service (s : State) : Option Service :=
  match s.channel.granted with
  | none => none
  | some d =>
    match (s.drive d).selected, s.op d with
    | some r, some o => some { d := d, req := r, op := o }
    | _, _ => none

/-- The operation record at a first grant (R46, R52). -/
def freshOp (spt : Nat) : OpRecord :=
  { step := .initial, strobe := .normal, zone := .outer, wrong := 0, pulses := 0, writes := 0,
    notes := List.replicate spt .unrecorded, failing := [], inPass := true, passStart := none, awaiting := none,
    acted := false, seen := false, recovered := [], learned := [], undo := [], basePref := .normal, image := none,
    checkSeen := [], checkGood := [], checkBad := false, sweepRun := none, sweepLeft := [], sweepGood := [],
    sweepCount := [] }

def State.chanState (s : State) (x : ChanState) : State := s.modChannel fun c => { c with state := x }

/-- A new attempt of an operation begins: its zone, and the preferred strobe of the zone unless the ladder sets one (R46,
R47, R48). -/
def State.startAttempt (s : State) (d : DriveId) (r : Request) (o : OpRecord) (x : ChanState) (strobe : Option Strobe) :
    State :=
  let z := zoneOf s.cfg.innerStart r.cylinder
  (s.setOp d (some { o with
    zone := z, strobe := strobe.getD (s.margin d z).preferred, wrong := 0, pulses := 0, awaiting := none,
    acted := false })).chanState x

/-! ### The kinds of operation -/

/-- A fill: FILL, LABEL-READ or index-load FILL. -/
def ReqKind.isFill : ReqKind → Bool
  | .fill _ | .labelRead | .indexLoad => true
  | _ => false

/-- A read of one sector. -/
def ReqKind.isSingleRead : ReqKind → Bool
  | .directRead _ | .rawRead _ => true
  | _ => false

/-- An operation that teaches the margin record (R61). -/
def ReqKind.teaches : ReqKind → Bool
  | .fill _ | .labelRead | .indexLoad | .directRead _ => true
  | _ => false

/-! ### The end of an operation (R44) -/

/-- The operation has ended: the grant ends and the request leaves the queue (R44, R74). -/
def State.opEnd (s : State) (d : DriveId) : State := ((s.endGrant d).setOp d none).leave d

/-- Sectors ending in failure are counted (R69). -/
def State.countFailed (s : State) (n : Nat) : State :=
  s.modChannel fun c => { c with failed := min 65535 (c.failed + n) }

/-- The data a write of one sector lays down (R56, R58; the areas of R125). -/
def State.sectorData (s : State) (d : DriveId) (r : Request) (o : OpRecord) : List Byte :=
  match r.kind with
  | .write .. => s.writeBuffer r
  | .indexWrite _ => o.image.getD []
  | .prepWrite .label => (areaGet (s.vol d).labelArea 1).getD []
  | .prepWrite (.index j) => (areaGet (s.vol d).staging j).getD []
  | _ => []

/-- A desk WRITE has left the queue successfully (R137, R139). -/
def State.deskWritten (s : State) (d : DriveId) (l : Line) (b : BufId) (ext : Option WriteBack) (recovered : Bool) :
    State :=
  match ext with
  | none => s.answer l b (s.writeReply l b recovered)
  | some .answered => s.answer l b (s.writeReply l b recovered)
  | some .faulted => s.answer l b (.failed .indexFault)
  | some .waiting => s.modVol d fun v =>
      { v with waiters := v.waiters.map fun w =>
          if w.line = l ∧ w.buf = b then { w with kind := .extending (some recovered) } else w }

/-- A write of one sector has ended successfully (R57, R103; R137, R150, R125). -/
def State.writeSucceeded (s : State) (d : DriveId) (r : Request) (o : OpRecord) : State :=
  let s1 := (s.writeThrough d r (s.sectorData d r o)).opEnd d
  match r.origin, r.kind with
  | .desk l, .write b ext => s1.deskWritten d l b ext (r.sectorId.any o.recovered.contains)
  | _, .indexWrite j => (s1.indexWritten d j).offers d
  | _, .prepWrite _ => s1.prepareNext d r
  | _, _ => s1

/-- A format has ended successfully (R59, R125). -/
def State.formatSucceeded (s : State) (d : DriveId) (r : Request) : State :=
  ((s.opEnd d).emptyTrack d r.cylinder r.head).prepareNext d r

/-- An operation ending FAILED WRITE-CHECK is counted (R69). -/
def State.countCheck (s : State) (c : Cause) : State :=
  if c = .writeCheck then s.modChannel fun x => { x with checksFailed := bump x.checksFailed } else s

/-- An operation on one sector, a format or a sweep has ended with a failure (Table 3-1, R104, R126, R152). -/
def State.opFailed (s : State) (d : DriveId) (r : Request) (c : Cause) : State :=
  let s1 := (s.countCheck c).opEnd d
  match r.kind with
  | .indexWrite j => ((s1.indexFaulted d j).emptyTrack d r.cylinder r.head).offers d
  | .prepWrite _ => (s1.prepareFailed d c).emptyTrack d r.cylinder r.head
  | .formatTrack => (s1.prepareFailed d c).emptyTrack d r.cylinder r.head
  | _ => s1.failRequest d c r

/-- The sectors a fill recorded GOOD. -/
def goodSectors (notes : List SectorNote) : List Nat :=
  ((List.range notes.length).filter fun i => notes.getD i .unrecorded == .good).map (· + 1)

/-- A fill has ended with its outcome (R53, Table 3-1). -/
def State.fillEnd (s : State) (d : DriveId) (r : Request) (o : OpRecord) : State :=
  let s1 := (s.countFailed o.failing.length).opEnd d
  match r.kind with
  | .fill i => s1.fillDone d r i o.notes o.recovered
  | .labelRead =>
    s1.labelDone d (if o.notes.getD 0 .unrecorded = .good then areaGet (s.vol d).labelArea 1 else none)
  | .indexLoad => s1.loadDone d r (goodSectors o.notes)
  | _ => s1

/-- A read or write search has ended FAILED SEEK-FAULT (R48 item 2, R53). -/
def State.seekFailed (s : State) (d : DriveId) (r : Request) : State :=
  match r.kind with
  | .fill i => (s.opEnd d).fillFailed d i .seekFault
  | .labelRead => (s.opEnd d).labelDone d none
  | .indexLoad => (s.opEnd d).loadDone d r []
  | _ => s.opFailed d r .seekFault

/-! ### Suspension and the write check (R57, R65) -/

/-- The write in service is suspended (R65); during the long inhibit it is withdrawn (R66). -/
def State.suspend (s : State) (d : DriveId) (r : Request) : State :=
  let s1 := s.endGrant d
  if s.channel.longInhibit then s1.withdrawSelected d r
  else (s1.modSelected d fun r => { r with state := .selected }).setAsking d true

/-- A write check has failed (R57): with one write made the search for the rewrite begins, unless the write-inhibit guard
holds it back (R65); with two the operation ends FAILED WRITE-CHECK. -/
def State.checkFailed (s : State) (d : DriveId) (r : Request) (o : OpRecord) : State :=
  if 2 ≤ o.writes then s.opFailed d r .writeCheck
  else if s.channel.inhibit then s.suspend d r
  else s.startAttempt d r o .search none

/-! ### The retry ladder (R49 to R51) -/

/-- A strobe lies in the allowed range standing now (R49). -/
def ConfigRecord.allows (c : ConfigRecord) (x : Strobe) : Bool := strobeLe c.strobeMin x && strobeLe x c.strobeMax

/-- The strobes of step 2 in their order (R49). -/
def strobeOrder : List Strobe := [.normal, .early, .late]

/-- The strobes of step 2 still to come after one (all of them when none has been tried). -/
def strobesAfter : Option Strobe → List Strobe
  | none => strobeOrder
  | some x => (strobeOrder.dropWhile (· != x)).drop 1

/-- The next strobe of step 2 (R49). -/
def State.nextStrobe (s : State) (o : OpRecord) (tried : Option Strobe) : Option Strobe :=
  (strobesAfter tried).find? fun x => x != o.basePref && s.cfg.allows x

/-- Step 3: the channel is released and the request waits in RECAL-WAIT while the drive recalibrates (R50). -/
def State.releaseStep3 (s : State) (d : DriveId) (o : OpRecord) : State :=
  (((s.endGrant d).setOp d (some { o with step := .three })).modSelected d fun r =>
    { r with state := .recalWait }).lostPosition d

/-- The next attempt of step 2, or step 3 when none is left (R49, R50). -/
def State.step2 (s : State) (d : DriveId) (r : Request) (o : OpRecord) (tried : Option Strobe) : State :=
  match s.nextStrobe o tried with
  | some x => s.startAttempt d r { o with step := .two } .search (some x)
  | none => s.releaseStep3 d o

/-- The ladder is exhausted (R51). -/
def State.ladderEnd (s : State) (d : DriveId) (r : Request) (o : OpRecord) : State :=
  if r.kind.isFill then s.fillEnd d r o
  else if r.kind.isSingleRead then
    (s.countFailed 1).opFailed d r (if o.seen then .readCheck else .notFound)
  else s.opFailed d r .notFound

/-- An attempt has ended with something still failing: the next step of the ladder (R49 to R51). -/
def State.ladderNext (s : State) (d : DriveId) (r : Request) (o : OpRecord) : State :=
  match o.step with
  | .initial => s.startAttempt d r { o with step := .one } .search none
  | .one =>
    s.step2 d r { o with basePref := (s.margin d (zoneOf s.cfg.innerStart r.cylinder)).preferred } none
  | .two => s.step2 d r o (some o.strobe)
  | .three => s.ladderEnd d r o

/-! ### The pass of a fill (R52, R53) -/

/-- The record after a pass: what is unrecorded is ABSENT, and the failing set is taken from the wanted sectors standing
now (R52, R53). -/
def OpRecord.closePass (o : OpRecord) (wanted : List Nat) : OpRecord :=
  let notes := o.notes.map fun n => if n = .unrecorded then .absent else n
  { o with notes := notes, inPass := false, awaiting := none,
           failing := wanted.filter fun k => notes.getD (k - 1) .absent != .good }

/-- The pass of a fill has ended (R53). -/
def State.endPass (s : State) (d : DriveId) (r : Request) (o : OpRecord) : State :=
  let o1 := o.closePass r.wanted
  if o1.failing.isEmpty then s.fillEnd d r o1 else s.ladderNext d r o1

/-! ### Margins (R61) -/

def Margin.lean (m : Margin) : Strobe → Nat
  | .early => m.leanEarly
  | .normal => m.leanNormal
  | .late => m.leanLate

/-- One lean count changed. -/
def Margin.setLean (m : Margin) (x : Strobe) (n : Nat) : Margin :=
  match x with
  | .early => { m with leanEarly := n }
  | .normal => { m with leanNormal := n }
  | .late => { m with leanLate := n }

/-- A record preferring a strobe, every lean count 0. -/
def preferring (x : Strobe) : Margin := { preferred := x, leanEarly := 0, leanNormal := 0, leanLate := 0 }

/-- A strobe succeeded in step 2 (R61); the lean count of the preferred strobe stays 0 (R60). -/
def Margin.learn (m : Margin) (x : Strobe) : Margin :=
  if x = m.preferred then m else if 2 ≤ m.lean x then preferring x else m.setLean x (m.lean x + 1)

/-- A sector has succeeded in step 2: its strobe's lean count rises once for the operation (R61). -/
def State.learn (s : State) (d : DriveId) (r : Request) (o : OpRecord) : State :=
  if o.step = .two ∧ r.kind.teaches ∧ o.strobe ∉ o.learned then
    let m := s.margin d o.zone
    (s.setMargin d o.zone (m.learn o.strobe)).setOp d (some
      { o with learned := o.learned ++ [o.strobe],
               undo := if o.undo.any (fun x => x.1 == o.zone) then o.undo else (o.zone, m) :: o.undo })
  else s

/-- A success at this step carries the note RECOVERED (R51). -/
def LadderStep.recovers : LadderStep → Bool
  | .two | .three => true
  | _ => false

/-- A sector read is given the note RECOVERED, which is counted (R51, R69). -/
def State.countRecovered (s : State) (o : OpRecord) : State :=
  if o.step.recovers then s.modChannel fun c => { c with recovered := bump c.recovered } else s

end Sys2Proof.Machine
end

