-- ==== Sys2Proof/Machine/Channel.lean ====
section
/-! DEFINITION. The channel's events: the grant (R43, R45), the write gate (R56, R58, R59), ID fields (R6, R47, R48), data
fields (R5, R7, R52 to R57), the end of an attempt (R47), and the index pulse at the channel (R26, R59, R63). -/
namespace Sys2Proof.Machine

/-! ### The grant (R43 to R46) -/

/-- A drive is grantable: it asks, and its selected request is no write while the state is INHIBIT (R43). -/
def State.grantable (s : State) (d : DriveId) : Bool :=
  s.channel.asking.get d
    && (match (s.drive d).selected with
      | some r => !(s.channel.inhibit && r.kind.isWrite)
      | none => false)

/-- The drives in the rotation after one (R43). -/
def rotationAfter : DriveId → List DriveId
  | 0 => [1, 2, 3, 0]
  | 1 => [2, 3, 0, 1]
  | 2 => [3, 0, 1, 2]
  | 3 => [0, 1, 2, 3]

/-- The drive the channel would grant now (R43). Nothing is granted once the drain timer has expired (DEDUCED, unsafe:
log 24). -/
def State.nextGrant (s : State) : Option DriveId :=
  if s.channel.granted = none ∧ s.part.drainOver = false then (rotationAfter s.channel.last).find? s.grantable else none

/-- The profile a SWEEP reads with, chosen at its grant (R194). -/
def State.sweepProfile (s : State) (d : DriveId) (r : Request) : ReadProfile :=
  if r.cylinder = 0 ∧ r.head = 0 then labelProfile
  else
    match (s.vol d).profile with
    | some p => p.read
    | none => r.profile

/-- The request as it enters service (R43, R194). -/
def State.serviced (s : State) (d : DriveId) (r : Request) : Request :=
  { r with state := .inService, granted := true,
           profile := if r.kind.isSweep then s.sweepProfile d r else r.profile }

/-- The operation record at a grant: the one kept by step 3 (R50), the writes made and image of a suspended write (R65),
or a fresh one (R52); a SWEEP takes its strobes now (R63). -/
def State.grantOp (s : State) (d : DriveId) (r : Request) : OpRecord :=
  match s.op d, r.state with
  | some o, .recalWait => o
  | some o, _ => { o with step := .initial }
  | none, _ =>
    let o := freshOp (s.serviced d r).profile.spt
    if r.kind.isSweep then { o with sweepLeft := strobeOrder.filter s.cfg.allows } else o

/-- The channel grants a drive (R43, R44, R45). -/
def State.grant (s : State) (d : DriveId) (r : Request) : State :=
  let s1 := (s.modChannel fun c => { c with granted := some d, last := d }).setAsking d false
  ((s1.modSelected d (s.serviced d)).modPos d fun p => { p with unload := 0 }).startAttempt d r (s.grantOp d r) .search
    none

/-! ### The write gate (R33, R56, R58, R59, R64, R65) -/

/-- What the moment of opening a gate decides (R56). -/
inductive GateAnswer where
  | protect | inhibited | barred | opens
  deriving DecidableEq, Repr

/-- The checks of R56; no gate opens once the drain timer has expired (DEDUCED, unsafe: log 24). -/
def State.gateCheck (s : State) (d : DriveId) : GateAnswer :=
  if s.part.drainOver then .barred
  else if (s.drive d).levels.writeProtect then .protect
  else if s.channel.inhibit then .inhibited
  else .opens

/-- The gate opens over `items`, the zone and precompensation amount fixed (R10, R56); a format's is followed by filler
until the index pulse (R4 item 3). -/
def State.openGate (s : State) (r : Request) (x : ChanState) (items : List TrackItem) : State :=
  let z := zoneOf s.cfg.innerStart r.cylinder
  s.modChannel fun c =>
    { c with state := x,
             gate := some { zone := z, precomp := precompAmount r.profile.recording z s.cfg.precomp,
                            recording := r.profile.recording, items := items, trailing := x == .format } }

/-- The image of an index sector, as an INDEX-WRITE copies it (R130, R197). -/
def Volume.image (v : Volume) (p : Profile) (j : Nat) : List Byte :=
  (List.range p.perSector).flatMap fun i => encodeEntry (v.entry (j * p.perSector + i))

/-- The image of an INDEX-WRITE is taken at its first gate opening (R58, R150). -/
def State.takeImage (s : State) (d : DriveId) (r : Request) (o : OpRecord) : State :=
  match r.kind, (s.vol d).profile with
  | .indexWrite j, some p =>
    if o.image.isNone then
      (s.setOp d (some { o with image := some ((s.vol d).image p j) })).coverSector d j
    else s
  | _, _ => s

/-- The gate of a write of one sector at its moment (R56, R58). -/
def State.sectorGate (s : State) (d : DriveId) (r : Request) (o : OpRecord) : State :=
  match s.gateCheck d with
  | .barred => s
  | .protect => s.opFailed d r .writeCheck
  | .inhibited => s.suspend d r
  | .opens =>
    let s1 := s.takeImage d r o
    s1.openGate r .write (dataWrite r.profile.recording (s1.sectorData d r ((s1.op d).getD o)))

/-- The interleave and skew a track is formatted with (R18). -/
def State.formatSlots (s : State) (d : DriveId) (r : Request) : Nat × Nat :=
  if r.cylinder = 0 ∧ r.head = 0 then (1, 0)
  else
    match (s.vol d).profile with
    | some p => (p.interleave, p.skew)
    | none => (1, 0)

/-- The linear track number of a track (R1). -/
def State.trackNumber (s : State) (d : DriveId) (r : Request) : Nat :=
  match (s.vol d).profile with
  | some p => linearTrack p.sides r.cylinder r.head
  | none => r.cylinder

/-- The gate of a format at its index pulse (R59). -/
def State.formatGate (s : State) (d : DriveId) (r : Request) : State :=
  match s.gateCheck d with
  | .barred => s
  | .protect => s.opFailed d r .writeCheck
  | .inhibited => s.suspend d r
  | .opens =>
    let ks := s.formatSlots d r
    s.openGate r .format (formatTrack r.profile ks.1 ks.2 (s.trackNumber d r) r.cylinder r.head)

/-- The gate closes (R7, R11). -/
def State.closeGate (s : State) : State := s.modChannel fun c => { c with gate := none }

/-- An operation that the end of the RESTART drain cuts off is ended and not reported; its request stays for the drain's
end to answer (R191). -/
def State.endUnreported (s : State) (d : DriveId) : State := (s.endGrant d).setOp d none

/-- A format's gate closes on a track that is not finished: the operation ends unreported once the drain timer has expired
(R191), or else is suspended, the interrupted format not counted as a write made (R64 item 2, R65). -/
def State.formatCut (s : State) (d : DriveId) (r : Request) : State :=
  if s.part.drainOver then s.closeGate.endUnreported d else s.closeGate.suspend d r

/-- INHIBIT, or the expiry of the drain timer, meets the channel `us` microseconds after its gate opened: the gate of a
format that is writing no field then closes at once, since R64 lets it stay open only to finish a field begun before
(DEDUCED, unsafe: log 64); any other open gate finishes the field under it (R64, R191). -/
def State.cutInGap (s : State) (us : Nat) : State :=
  match s.service, s.channel.gate with
  | some v, some g =>
    if s.channel.state = .format ∧ g.fieldRuns v.req.profile.bytes us = false then s.formatCut v.d v.req else s
  | _, _ => s

/-- One more write has been made; a second one is a rewrite (R46, R69). -/
def State.countWrite (s : State) (o : OpRecord) : State :=
  if o.writes = 1 then s.modChannel fun c => { c with rewrites := bump c.rewrites } else s

/-- The data field and its filler have been written and the gate closes (R56, R57, R191). -/
def State.sectorWritten (s : State) (d : DriveId) (r : Request) (o : OpRecord) : State :=
  let s1 := s.closeGate.countWrite o
  let o1 := { o with writes := o.writes + 1 }
  if s.part.drainOver then s1.endUnreported d
  else if s.cfg.writeCheck then s1.startAttempt d r o1 .writeCheck none
  else s1.writeSucceeded d r o1

/-! ### A sweep (R63) -/

/-- The strobe of the highest count, ties to the one tried first (R63). -/
def bestStrobe : List (Strobe × Nat) → Strobe
  | [] => .normal
  | x :: rest => (rest.foldl (fun best y => if best.2 < y.2 then y else best) x).1

/-- The count of a strobe, absent when it was not tried. -/
def strobeCount (cs : List (Strobe × Nat)) (x : Strobe) : Option Nat := (cs.find? fun c => c.1 == x).map Prod.snd

/-- The SWEEP result (Table 11-9): drive, cylinder and head of its own body. -/
def sweepResult (body : List Byte) (z : Zone) (cs : List (Strobe × Nat)) (p : Strobe) : List Byte :=
  slice body 0 3 ++ [toByte z.code] ++ optByte (strobeCount cs .early) ++ optByte (strobeCount cs .normal)
    ++ optByte (strobeCount cs .late) ++ [toByte p.code]

/-- The last revolution has ended (R63). -/
def State.sweepEnd (s : State) (d : DriveId) (r : Request) (o : OpRecord) (cs : List (Strobe × Nat)) : State :=
  let p := clampStrobe s.cfg.strobeMin s.cfg.strobeMax (bestStrobe cs)
  let s1 := ((s.opEnd d).setMargin d o.zone (preferring p)).setSweepFlag d false
  match r.origin, r.kind with
  | .desk l, .sweep b => s1.answer l b (.ok (sweepResult (s.bodyOf l b) o.zone cs p))
  | _, _ => s1

/-- The next revolution of a sweep begins, or the sweep ends (R63). -/
def State.sweepNext (s : State) (d : DriveId) (r : Request) (o : OpRecord) (cs : List (Strobe × Nat)) : State :=
  match o.sweepLeft with
  | [] => s.sweepEnd d r o cs
  | x :: rest =>
    (s.setOp d (some { o with
      sweepRun := some x, sweepLeft := rest, strobe := x, sweepGood := [], sweepCount := cs, wrong := 0, awaiting := none })).chanState
      .read

/-- An index pulse at a sweep (R63). -/
def State.sweepPulse (s : State) (d : DriveId) (r : Request) (o : OpRecord) : State :=
  match o.sweepRun with
  | none => s.sweepNext d r o []
  | some x => s.sweepNext d r o (o.sweepCount ++ [(x, o.sweepGood.length)])

/-- A seek fault in a revolution: the sweep ends and the drive recalibrates (R63). -/
def State.sweepSeekFault (s : State) (d : DriveId) (r : Request) : State := (s.opFailed d r .seekFault).lostPosition d

/-! ### A format (R59) -/

/-- The check of a format is good (R59). -/
def OpRecord.formatGood (o : OpRecord) (spt : Nat) : Bool :=
  !o.checkBad && (List.range spt).all fun i => o.checkSeen.count (i + 1) == 1 && o.checkGood.contains (i + 1)

/-- The format's gate closes at the index pulse that ends the track (R59, R64, R191). -/
def State.formatWritten (s : State) (d : DriveId) (r : Request) (o : OpRecord) : State :=
  if s.part.drainOver ∨ s.channel.inhibit then s.formatCut d r
  else
    let s1 := s.closeGate.countWrite o
    let o1 := { o with writes := o.writes + 1, checkSeen := [], checkGood := [], checkBad := false }
    if s.cfg.writeCheck then s1.startAttempt d r o1 .writeCheck none else s1.formatSucceeded d r

/-- The revolution of a format's check ends (R59); a field cut short by the pulse is bad (R9). -/
def State.formatChecked (s : State) (d : DriveId) (r : Request) (o : OpRecord) : State :=
  if o.awaiting.isNone && o.formatGood r.profile.spt then s.formatSucceeded d r
  else if 2 ≤ o.writes then s.opFailed d r .writeCheck
  else s.formatGate d r

/-- An index pulse at a format (R59). -/
def State.formatPulse (s : State) (d : DriveId) (r : Request) (o : OpRecord) : State :=
  match s.channel.state with
  | .search => s.formatGate d r
  | .format => s.formatWritten d r o
  | .writeCheck => s.formatChecked d r o
  | _ => s

/-- An index pulse at the channel: a format and a sweep act on it, an attempt counts it (R26, R47). -/
def State.channelPulse (s : State) (d : DriveId) : State :=
  match s.service with
  | none => s
  | some v =>
    if v.d ≠ d then s
    else if v.req.kind.isFormat then s.formatPulse d v.req v.op
    else if v.req.kind.isSweep then s.sweepPulse d v.req v.op
    else if s.channel.gate.isSome then s
    else s.setOp d (some { v.op with pulses := min 2 (v.op.pulses + 1) })

/-! ### ID fields (R6, R47, R48) -/

/-- What an ID field is to the operation (R6). -/
inductive IdMeaning where
  | passed | wrongCylinder
  | names (k : Nat)
  deriving DecidableEq, Repr

/-- R6 items 1 to 5, the positioner standing on `cylinder`. -/
def idMeaning (p : ReadProfile) (cylinder head : Nat) (f : IdField) : IdMeaning :=
  if f.sizeCode.toNat ≠ p.sizeCode then .passed
  else if f.sectorId.toNat = 0 ∨ p.spt < f.sectorId.toNat then .passed
  else if f.head.toNat ≠ head then .passed
  else if f.cylinder.toNat ≠ cylinder then .wrongCylinder
  else .names f.sectorId.toNat

/-- A seek fault has been found (R48). In the check of a format it makes the check bad, which still ends at its index pulse
(R59; DESIGN CHOICE, unsafe: log 60). -/
def State.seekFault (s : State) (d : DriveId) (r : Request) (o : OpRecord) : State :=
  let s1 := s.modChannel fun c => { c with seekFaults := bump c.seekFaults }
  if r.kind.isSweep then s1.sweepSeekFault d r
  else if r.kind.isFormat then s1.setOp d (some { o with checkBad := true })
  else if s.channel.state = .writeCheck ∨ 1 ≤ o.writes then s1.checkFailed d r o
  else if o.step = .three then s1.seekFailed d r
  else if r.kind.isFill ∧ o.inPass then
    let o1 := o.closePass r.wanted
    if o1.failing.isEmpty then s1.fillEnd d r o1 else s1.releaseStep3 d o1
  else s1.releaseStep3 d o

/-- An ID field of another cylinder raises the wrong-cylinder count (R48). -/
def State.wrongId (s : State) (d : DriveId) (r : Request) (o : OpRecord) : State :=
  let o1 := { o with wrong := o.wrong + 1 }
  let s1 := s.setOp d (some o1)
  if 2 ≤ o1.wrong then s1.seekFault d r o1 else s1

/-- An ID field that names sector `k` in the pass of a fill (R52). -/
def State.passId (s : State) (d : DriveId) (r : Request) (o : OpRecord) (k : Nat) : State :=
  match o.passStart with
  | none => (s.setOp d (some { o with passStart := some k, awaiting := some k })).chanState .read
  | some first =>
    if k = first then s.endPass d r o
    else if o.notes.getD (k - 1) .unrecorded = .good then s
    else s.setOp d (some { o with awaiting := some k })

/-- An ID field that names the one sector sought (R47, R54, R56, R57). -/
def State.soughtId (s : State) (d : DriveId) (r : Request) (o : OpRecord) (k : Nat) : State :=
  let o1 := { o with acted := true, seen := true }
  match s.channel.state with
  | .writeCheck => s.setOp d (some { o1 with awaiting := some k })
  | _ =>
    if r.kind.isSingleRead then (s.setOp d (some { o1 with awaiting := some k })).chanState .read
    else
      let o2 := if o.step.recovers ∧ o.writes = 0 then { o1 with recovered := [k] } else o1
      (s.setOp d (some o2)).sectorGate d r o2

/-- An ID field that names sector `k` of the track (R6 item 5), at each operation. -/
def State.namedId (s : State) (d : DriveId) (r : Request) (o : OpRecord) (k : Nat) : State :=
  match r.kind with
  | .fill _ | .labelRead | .indexLoad =>
    if o.inPass then s.passId d r o k
    else if o.failing.contains k then (s.setOp d (some { o with awaiting := some k })).chanState .read
    else s
  | .sweep _ =>
    if o.sweepRun.isSome ∧ o.sweepGood.contains k = false then s.setOp d (some { o with awaiting := some k }) else s
  | .formatTrack =>
    if s.channel.state = .writeCheck then
      s.setOp d (some { o with checkSeen := o.checkSeen ++ [k], awaiting := some k })
    else s
  | _ => if r.sectorId = some k ∧ o.acted = false then s.soughtId d r o k else s

/-- The channel looks for ID fields: an attempt, a revolution or a check is running and no gate is open. -/
def State.searching (s : State) (r : Request) (o : OpRecord) : Bool :=
  s.channel.gate.isNone && o.pulses < 2 && o.wrong < 2
    && (if r.kind.isFormat then s.channel.state == .writeCheck
        else if r.kind.isSweep then o.sweepRun.isSome
        else true)

/-- An ID field with a good check, no data field being awaited (R6, R48). One that is passed over has been accepted, and
with the right cylinder it sets the wrong-cylinder count to 0 (DEDUCED, unsafe: log 10). -/
def State.idField (s : State) (f : IdField) : State :=
  match s.service with
  | none => s
  | some v =>
    if s.searching v.req v.op && idGood f then
      match (s.drive v.d).pos.cylinder with
      | none => s
      | some c =>
        match idMeaning v.req.profile c v.req.head f with
        | .passed => if f.cylinder.toNat = c then s.setOp v.d (some { v.op with wrong := 0 }) else s
        | .wrongCylinder => s.wrongId v.d v.req v.op
        | .names k =>
          let o := { v.op with wrong := 0 }
          (s.setOp v.d (some o)).namedId v.d v.req o k
    else s

/-! ### Data fields (R5, R7, R9) -/

/-- The data read for sector `k` of a fill is placed (R52 item 1). -/
def State.putFill (s : State) (d : DriveId) (r : Request) (k : Nat) (data : List Byte) : State :=
  match r.kind with
  | .fill i => s.putFrame d i r.profile k data
  | .labelRead => s.modVol d fun v => { v with labelArea := areaSet v.labelArea k data }
  | .indexLoad => s.modVol d fun v => { v with staging := areaSet v.staging (r.head * r.profile.spt + (k - 1)) data }
  | _ => s

/-- A good data field of a fill (R52 item 1, R53, R61). A sector recovered counts here, whatever end the fill then has
(R69; DESIGN CHOICE, unsafe: log 56). -/
def State.fillGood (s : State) (d : DriveId) (r : Request) (o : OpRecord) (k : Nat) (data : List Byte) : State :=
  let o1 := { o with notes := o.notes.set (k - 1) .good, failing := o.failing.filter (· != k),
                     recovered := if o.step.recovers then o.recovered ++ [k] else o.recovered }
  let s1 := (s.putFill d r k data).setOp d (some o1)
  if o.inPass then s1
  else
    let s2 := (s1.countRecovered o1).learn d r o1
    if o1.failing.isEmpty then s2.fillEnd d r o1 else s2.chanState .search

/-- A data-field failure of a fill (R52 item 2, R53). -/
def State.fillBad (s : State) (d : DriveId) (o : OpRecord) (k : Nat) : State :=
  let note := if o.notes.getD (k - 1) .unrecorded = .good then SectorNote.good else .bad
  let s1 := s.setOp d (some { o with notes := o.notes.set (k - 1) note })
  if o.inPass then s1 else s1.chanState .search

/-- The code of a mark kind in a RAW READ result (Table 11-9). -/
def markCode : DataMark → Nat
  | .data => 0
  | .retired => 1

/-- The RAW READ result (Table 11-9): drive, cylinder, head and sector ID of its own body. -/
def rawResult (body : List Byte) (f : DataField) (o : OpRecord) : List Byte :=
  slice body 0 4 ++ [toByte (markCode f.mark), toByte o.strobe.code, toByte o.step.code] ++ be2 f.bytes.length ++ f.bytes

/-- A single-sector read has succeeded (R54, R55, R102). -/
def State.readDone (s : State) (d : DriveId) (r : Request) (o : OpRecord) (f : DataField) : State :=
  let s1 := ((s.countRecovered o).learn d r o).opEnd d
  match r.origin, r.kind with
  | .desk l, .directRead b => s1.answer l b (s.blockReply l b o.step.recovers f.bytes)
  | .desk l, .rawRead b => s1.answer l b (.done false o.step.recovers (rawResult (s.bodyOf l b) f o))
  | _, _ => s1

/-- The sector awaited was read: `field` is its data field when the check is good, absent for a data-field failure (R5,
R9). -/
def State.dataResult (s : State) (v : Service) (k : Nat) (field : Option DataField) : State :=
  let o := { v.op with awaiting := none }
  let s0 := s.setOp v.d (some o)
  match v.req.kind, field with
  | .formatTrack, some _ => s.setOp v.d (some { o with checkGood := o.checkGood ++ [k] })
  | .formatTrack, none => s.setOp v.d (some { o with checkBad := true })
  | .sweep _, some _ => s.setOp v.d (some { o with sweepGood := o.sweepGood ++ [k] })
  | .sweep _, none => s0
  | .fill _, some f => s0.fillGood v.d v.req o k f.bytes
  | .labelRead, some f => s0.fillGood v.d v.req o k f.bytes
  | .indexLoad, some f => s0.fillGood v.d v.req o k f.bytes
  | .fill _, none => s0.fillBad v.d o k
  | .labelRead, none => s0.fillBad v.d o k
  | .indexLoad, none => s0.fillBad v.d o k
  | .directRead _, some f => s0.readDone v.d v.req o f
  | .rawRead _, some f => s0.readDone v.d v.req o f
  | .directRead _, none => s0.chanState .search
  | .rawRead _, none => s0.chanState .search
  | _, some _ => s0.writeSucceeded v.d v.req o
  | _, none => s0.checkFailed v.d v.req o

/-- The data field that the operation in service awaits, while its attempt runs. -/
def State.awaited (s : State) : Option (Service × Nat) :=
  match s.service with
  | none => none
  | some v =>
    match v.op.awaiting with
    | some k => if s.searching v.req v.op then some (v, k) else none
    | none => none

/-- The data field of the sector awaited is missing (R5). -/
def State.dataMissing (s : State) : State :=
  match s.awaited with
  | some x => s.dataResult x.1 x.2 none
  | none => s

/-- A data field has been read to its check bytes (R7, R9). A mark that no sync field stands before is ignored (R3). -/
def State.dataField (s : State) (f : DataField) : State :=
  match afterSync f.sync, s.awaited with
  | true, some x => s.dataResult x.1 x.2 (if dataGood x.1.req.profile.bytes f then some f else none)
  | _, _ => s

/-- An ID mark found: it ends the data window of a sector awaited (R5), and its ID field is then taken (R6). A mark that no
sync field stands before is ignored (R3). -/
def State.idMark (s : State) (f : IdField) : State := if afterSync f.sync then s.dataMissing.idField f else s

/-! ### The end of an attempt (R47) -/

/-- An attempt has ended with its sectors not all found (R47, R49, R53, R56, R57). -/
def State.attemptOver (s : State) (v : Service) : State :=
  if v.req.kind.isFill ∧ v.op.inPass then s.endPass v.d v.req v.op
  else if v.req.kind.isSectorWrite ∧ (s.channel.state = .writeCheck ∨ 1 ≤ v.op.writes) then
    s.checkFailed v.d v.req v.op
  else s.ladderNext v.d v.req v.op

/-- A field still being read at the second index pulse is a data-field failure (R9); so is a data window still open there
without a data mark, of a wanted sector or of any other (DESIGN CHOICE, unsafe: log 58). -/
def State.cutShort (s : State) : State :=
  match s.service with
  | none => s
  | some v =>
    match v.op.awaiting with
    | some k => if v.op.pulses = 2 then s.dataResult v k none else s
    | none => s

/-- The attempt in service ends at its second index pulse (R47). -/
def State.attemptEnd (s : State) : State :=
  let s1 := s.cutShort
  match s1.service with
  | none => s1
  | some v => if v.op.pulses = 2 ∧ s1.channel.gate.isNone then s1.attemptOver v else s1

end Sys2Proof.Machine
end

