-- ==== Sys2Proof/Machine/ChannelEvents.lean ====
section
/-! DEFINITION. The events of the read/write channel (Chapter 3). -/
namespace Sys2Proof.Machine

/-- CHANNEL_GRANT (R43 to R46). -/
def execChannelGrant (s : State) : Out :=
  .next (match s.nextGrant with
    | none => s
    | some d =>
      match (s.drive d).selected with
      | some r => s.grant d r
      | none => s)

/-- ID_FIELD_ACCEPTED (R5, R6, R47, R48). -/
def execIdFieldAccepted (f : IdField) (s : State) : Out := .next (s.idMark f)

/-- DATA_WINDOW_EXPIRED (R5). -/
def execDataWindowExpired (s : State) : Out := .next s.dataMissing

/-- DATA_FIELD_READ (R7, R9, R52 to R57). -/
def execDataFieldRead (f : DataField) (s : State) : Out := .next (s.dataField f)

/-- DATA_FIELD_WRITTEN (R56, R57). -/
def execDataFieldWritten (s : State) : Out :=
  .next (match s.service with
    | none => s
    | some v => if s.channel.state = .write ∧ s.channel.gate.isSome then s.sectorWritten v.d v.req v.op else s)

/-- ATTEMPT_END (R47). -/
def execAttemptEnd (s : State) : Out := .next s.attemptEnd

/-- FORMAT_FIELD_FINISHED (R64 item 2, R191): the field is finished and the gate closes. -/
def execFormatFieldFinished (s : State) : Out :=
  .next (match s.service with
    | none => s
    | some v =>
      if s.channel.state = .format ∧ s.channel.gate.isSome ∧ (s.part.drainOver ∨ s.channel.inhibit) then
        s.formatCut v.d v.req
      else s)

end Sys2Proof.Machine
end

