-- ==== Sys2Proof/Machine/ClaimRequests.lean ====
section
/-! DEFINITION. OPEN, RELEASE, BREAK CLAIM (sections 8.2, 8.3), WATCH SET, WATCH STATUS and WATCH CLEAR (section 8.5). -/
namespace Sys2Proof.Machine

/-! ### OPEN (R155) -/

/-- An OPEN that the gate has admitted (R155 items 1 to 6). -/
def State.openAt (s : State) (l : Line) (b : BufId) (d : DriveId) (n : Nat) : State :=
  if (s.vol d).capacity ≤ n then s.answer l b (.refuse .outOfRange)
  else if ((s.vol d).entry n).state ≠ .live then s.answer l b (.refuse .noStory)
  else
    match s.cw.holder d n with
    | some o => if o = l then s.answer l b (.ok (s.summary d n)) else s.answer l b (.refused .claimed (some o))
    | none =>
      if s.cw.hasRoom l then
        let serial := match (s.vol d).label with
          | some i => i.serial
          | none => 0
        let s1 := s.modClaims fun c => c.grant d serial n l
        s1.answer l b (.ok (s1.summary d n))
      else s.answer l b (.refuse .tableFull)

/-- OPEN (R155); an orphaned one is refused WRONG-STATE (R159). -/
def execOpenStory (l : Line) (b : BufId) (s : State) : Out :=
  .next (s.onRequest l b codeOpen fun h s =>
    if h.orphan then s.answer l b (.refuse .wrongState)
    else s.gated l b h.body .changes false fun d s => s.openAt l b d (byteAt h.body 1))

/-! ### RELEASE (R157) and BREAK CLAIM (R158) -/

/-- RELEASE (R157). -/
def execRelease (l : Line) (b : BufId) (s : State) : Out :=
  .next (s.onRequest l b codeRelease fun h s =>
    match driveOf (byteAt h.body 0) with
    | none => s.answer l b (.refuse .outOfRange)
    | some d =>
      if s.cw.holder d (byteAt h.body 1) = some l then
        (s.freeClaim d (byteAt h.body 1) l).answer l b (.ok [])
      else s.answer l b (.refuse .notClaimed))

/-- BREAK CLAIM (R158); the reply names the former holder, or is 0xFF when the requester held the claim (R196). -/
def execBreakClaim (l : Line) (b : BufId) (s : State) : Out :=
  .next (s.onRequest l b codeBreakClaim fun h s =>
    match driveOf (byteAt h.body 0) with
    | none => s.answer l b (.refuse .outOfRange)
    | some d =>
      match s.cw.holder d (byteAt h.body 1) with
      | none => s.answer l b (.refuse .notClaimed)
      | some o =>
        if o = l then (s.freeClaim d (byteAt h.body 1) l).answer l b (.ok (absentField 1))
        else (s.dropBroken d (byteAt h.body 1) o l).answer l b (.ok [toByte o.val]))

/-! ### Watch records (Table 11-9) -/

def watchStateCode : Watch → Nat
  | .unused => 0
  | .armed _ => 1
  | .raised .. => 2

/-- The fields of a watch in use, 7 bytes. -/
def watchSpecBytes (w : WatchSpec) : List Byte :=
  optByte (w.drive.map Fin.val)
    ++ (match w.target with
      | .baskets set => [0#8] ++ be2 set.toNat ++ absentField 1
      | .story h => [1#8] ++ absentField 2 ++ [toByte h])
    ++ [toByte w.events.toNat, boolByte w.signal]

def lastEventBytes (e : LastEvent) : List Byte := [toByte e.kind.code, toByte e.drive.val, toByte e.handle]

/-- The watch record (12 bytes). -/
def watchBytes (n : Nat) (w : Watch) : List Byte :=
  [toByte n, toByte (watchStateCode w)]
    ++ (match w with
      | .unused => absentField 10
      | .armed x => watchSpecBytes x ++ absentField 3
      | .raised x e => watchSpecBytes x ++ lastEventBytes e)

/-- The claim-broken record (3 bytes). -/
def brokenBytes : Option (DriveId × Nat) → List Byte
  | none => 0#8 :: absentField 2
  | some (d, h) => [1#8, toByte d.val, toByte h]

/-! ### WATCH SET (R163) -/

/-- The drive field of a WATCH SET: absent out of range; ANY is `some none`. -/
def watchDrive (n : Nat) : Option (Option DriveId) := if n = 255 then some none else (driveOf n).map some

/-- The record a WATCH SET body gives, absent when a field is out of range (R163 item 1, R196). -/
def watchSpecOf (body : List Byte) : Option WatchSpec :=
  let mk (d : Option DriveId) (t : WatchTarget) : Option WatchSpec :=
    let ev := BitVec.ofNat 5 (byteAt body 5)
    if ev = 0#5 then none else some { drive := d, target := t, events := ev, signal := flagAt body 6 }
  match watchDrive (byteAt body 0) with
  | none => none
  | some d =>
    if byteAt body 1 = 0 then (if setField body 2 = 0#16 then none else mk d (.baskets (setField body 2)))
    else if byteAt body 1 = 1 then
      (match d with
        | none => none
        | some d => mk (some d) (.story (byteAt body 4)))
    else none

/-- A volume that a STORY-mode watch may name (R163 item 2). -/
def Volume.inService (v : Volume) : Bool := v.state == .mounted || v.state == .readOnly || v.state == .draining

/-- R163 item 2: the reason a STORY-mode watch is refused for. -/
def State.watchRefused (s : State) (w : WatchSpec) : Option Reason :=
  match w.drive, w.target with
  | some d, .story h =>
    if (s.vol d).inService = false then some .noVolume
    else if (s.vol d).capacity ≤ h then some .outOfRange
    else none
  | _, _ => none

/-- The lowest-numbered UNUSED watch of a line (R163 item 4). -/
def ClaimUnit.unusedWatch (c : ClaimUnit) (l : Line) : Option (Fin 4) :=
  ([0, 1, 2, 3] : List (Fin 4)).find? fun n => (c.watches.get l).get n == .unused

/-- One watch of a line. -/
def ClaimUnit.setWatch (c : ClaimUnit) (l : Line) (n : Fin 4) (w : Watch) : ClaimUnit :=
  { c with watches := c.watches.set l.val ((c.watches.get l).set n.val w n.isLt) l.isLt }

/-- A WATCH SET whose fields are in range (R163 items 2 to 4). -/
def State.watchSetAt (s : State) (l : Line) (b : BufId) (w : WatchSpec) : State :=
  match s.watchRefused w with
  | some r => s.answer l b (.refuse r)
  | none =>
    match s.cw.unusedWatch l with
    | none => s.answer l b (.refuse .watchFull)
    | some n => (s.modClaims fun c => c.setWatch l n (.armed w)).answer l b (.ok [toByte n.val])

/-- WATCH SET (R163); an orphaned one is refused WRONG-STATE (R159). -/
def execWatchSet (l : Line) (b : BufId) (s : State) : Out :=
  .next (s.onRequest l b codeWatchSet fun h s =>
    if h.orphan then s.answer l b (.refuse .wrongState)
    else
      match watchSpecOf h.body with
      | none => s.answer l b (.refuse .outOfRange)
      | some w => s.watchSetAt l b w)

/-! ### WATCH STATUS (R166) and WATCH CLEAR (R165) -/

/-- The WATCH STATUS result (51 bytes). -/
def watchStatusBytes (c : ClaimUnit) (l : Line) : List Byte :=
  ([0, 1, 2, 3] : List (Fin 4)).flatMap (fun n => watchBytes n.val ((c.watches.get l).get n))
    ++ brokenBytes (c.broken.get l)

/-- WATCH STATUS (R166). -/
def execWatchStatus (l : Line) (b : BufId) (s : State) : Out :=
  .next (s.onRequest l b codeWatchStatus fun _ s => s.answer l b (.ok (watchStatusBytes s.cw l)))

/-- A watch after WATCH CLEAR (R165 items 2 and 3). -/
def Watch.cleared (discard : Bool) : Watch → Watch
  | .unused => .unused
  | .armed w => if discard then .unused else .armed w
  | .raised w _ => if discard then .unused else .armed w

/-- WATCH CLEAR of a watch (R165 items 1 to 3). -/
def State.clearWatch (s : State) (l : Line) (b : BufId) (n : Fin 4) (discard : Bool) : State :=
  let w := (s.cw.watches.get l).get n
  if w = .unused then s.answer l b (.refuse .wrongState)
  else (s.modClaims fun c => c.setWatch l n (w.cleared discard)).answer l b (.ok (watchBytes n.val w))

/-- WATCH CLEAR of the claim-broken flag (R165 item 4). -/
def State.clearBroken (s : State) (l : Line) (b : BufId) : State :=
  (s.modClaims fun c => { c with broken := c.broken.set l.val none l.isLt }).answer l b
    (.ok (brokenBytes (s.cw.broken.get l)))

/-- WATCH CLEAR (R165). -/
def execWatchClear (l : Line) (b : BufId) (s : State) : Out :=
  .next (s.onRequest l b codeWatchClear fun h s =>
    let discard := flagAt h.body 1
    match driveOf (byteAt h.body 0) with
    | some n => s.clearWatch l b n discard
    | none =>
      if byteAt h.body 0 = 4 ∧ discard = false then s.clearBroken l b else s.answer l b (.refuse .outOfRange))

end Sys2Proof.Machine
end

