-- ==== Sys2Proof/Machine/ClockRequests.lean ====
section
/-! DEFINITION. The clock (R131) and its requests (R132). -/
namespace Sys2Proof.Machine

/-- The clock after one more second (R131). -/
def Clock.tick (c : Clock) : Clock :=
  if c.day = 0 then c
  else if c.second < 59 then { c with second := c.second + 1 }
  else if c.minute < 1439 then { c with second := 0, minute := c.minute + 1 }
  else { second := 0, minute := 0, day := if c.day < 366 then c.day + 1 else 1 }

/-- The READ CLOCK and SET CLOCK result (Table 11-9). -/
def Clock.result (c : Clock) : List Byte := be2 c.day ++ be2 c.minute ++ [boolByte (c.day != 0)]

/-- READ CLOCK (R132). -/
def execReadClock (l : Line) (b : BufId) (s : State) : Out :=
  .next (s.onRequest l b codeReadClock fun _ s => s.answer l b (.ok s.clock.result))

/-- The clock as SET CLOCK sets it (R132 items 1 to 3). -/
def setClock (day minute : Nat) : Clock :=
  if day = 0 then { day := 0, minute := 0, second := 0 }
  else { day := min 366 day, minute := min 1439 minute, second := 0 }

/-- SET CLOCK (R132): either clamp of item 1 sets the note CLAMPED, whatever item 2 then makes of the minute. -/
def execSetClock (l : Line) (b : BufId) (s : State) : Out :=
  .next (s.onRequest l b codeSetClock fun h s =>
    let day := nat2 h.body 0
    let minute := nat2 h.body 2
    let s1 : State := { s with clock := setClock day minute }
    s1.answer l b (.done (366 < day || 1439 < minute) false s1.clock.result))

/-- CLOCK_SECOND (R131). -/
def execClockSecond (s : State) : Out :=
  .next (if s.part.extReset then s else { s with clock := s.clock.tick })

end Sys2Proof.Machine
end

