-- ==== Sys2Proof/Machine/Configure.lean ====
section
/-! DEFINITION. CONFIGURE (R188): the checks, the clamping, the record's layout (R196), and what each block does with a
change (R20, R62, R81, R89). -/
namespace Sys2Proof.Machine

/-! ### The body (R196) -/

/-- Where each item of the CONFIGURE body stands: its present byte; its value follows. -/
def offDrives : Nat := 0
def offRate (l : Line) : Nat := 2 + 3 * l.val
def offClass (l : Line) : Nat := 26 + 2 * l.val
def offSilence : Nat := 42
def offStep : Nat := 45
def offSettle : Nat := 48
def offHeadLoad : Nat := 51
def offUnload : Nat := 54
def offInner : Nat := 56
def offPrecomp : Nat := 58
def offStrobe : Nat := 61
def offWriteCheck : Nat := 64
def offBypass : Nat := 66
def offPeriod : Nat := 68
def offMask (l : Line) : Nat := 70 + 3 * l.val

/-! ### First pass: the enumerated items -/

/-- A present class, strobe or write-check value that names none (R188, first pass). -/
def configRefused (body : List Byte) : Bool :=
  (allLines.any fun l => flagAt body (offClass l) && (lineClassOf (byteAt body (offClass l + 1))).isNone)
    || (flagAt body offWriteCheck && !(byteAt body (offWriteCheck + 1) ≤ 1))
    || (flagAt body offStrobe
        && ((strobeOf (byteAt body (offStrobe + 1))).isNone || (strobeOf (byteAt body (offStrobe + 2))).isNone))

/-! ### Second pass: clamping -/

/-- The value of an ascending list nearest to `v`, the lower of two as near (R188, second pass, item 2). -/
def nearest (v : Nat) : List Nat → Nat
  | [] => v
  | x :: rest =>
    rest.foldl (fun best y => if cylinderDistance v y < cylinderDistance v best then y else best) x

/-- A value clamped into a range (R188, second pass, item 1). -/
def clampTo (lo hi v : Nat) : Nat := max lo (min hi v)

def rateValues : List Nat := [96, 192, 384, 768]
def stepValues : List Nat := [3000, 6000, 10000, 15000]
def settleValues : List Nat := (List.range 21).map fun i => 10000 + 1000 * i
def headLoadValues : List Nat := (List.range 9).map fun i => 20000 + 5000 * i
def precompValues : List Nat := [0, 125, 250]

/-- The rate of a figure in hundreds of baud. -/
def rateOf (n : Nat) : Rate :=
  if n = 192 then .b19200 else if n = 384 then .b38400 else if n = 768 then .b76800 else .b9600

/-- A present item's value, or the standing one. -/
def pickNat (body : List Byte) (off old : Nat) (f : Nat → Nat) (two : Bool) : Nat :=
  if flagAt body off then f (if two then nat2 body (off + 1) else byteAt body (off + 1)) else old

/-- Whether clamping changed a present item. -/
def clampsNat (body : List Byte) (off : Nat) (f : Nat → Nat) (two : Bool) : Bool :=
  let v := if two then nat2 body (off + 1) else byteAt body (off + 1)
  flagAt body off && f v != v

/-- The strobe at a byte of the body (the first pass has refused any other value). -/
def strobeAt (body : List Byte) (i : Nat) : Strobe := (strobeOf (byteAt body i)).getD .normal

/-- The larger of two strobes (R188, second pass, item 3). -/
def laterStrobe (a b : Strobe) : Strobe := if strobeLe a b then b else a

/-- The record with every present item taken (R188). -/
def ConfigRecord.taken (c : ConfigRecord) (body : List Byte) : ConfigRecord :=
  { drivesInUse := if flagAt body offDrives then BitVec.ofNat 4 (byteAt body (offDrives + 1)) else c.drivesInUse,
    rates := Vector.ofFn fun l =>
      if flagAt body (offRate l) then rateOf (nearest (nat2 body (offRate l + 1)) rateValues) else c.rates.get l,
    classes := Vector.ofFn fun l =>
      if flagAt body (offClass l) then (lineClassOf (byteAt body (offClass l + 1))).getD .reporter else c.classes.get l,
    silence := pickNat body offSilence c.silence (clampTo 10 600) true,
    stepPeriod := pickNat body offStep c.stepPeriod (fun v => nearest v stepValues) true,
    settle := pickNat body offSettle c.settle (fun v => nearest v settleValues) true,
    headLoad := pickNat body offHeadLoad c.headLoad (fun v => nearest v headLoadValues) true,
    unloadDelay := pickNat body offUnload c.unloadDelay (clampTo 1 15) false,
    innerStart := pickNat body offInner c.innerStart (clampTo 30 76) false,
    precomp := pickNat body offPrecomp c.precomp (fun v => nearest v precompValues) true,
    strobeMin := if flagAt body offStrobe then strobeAt body (offStrobe + 1) else c.strobeMin,
    strobeMax := if flagAt body offStrobe then
        laterStrobe (strobeAt body (offStrobe + 1)) (strobeAt body (offStrobe + 2)) else c.strobeMax,
    writeCheck := if flagAt body offWriteCheck then byteAt body (offWriteCheck + 1) == 1 else c.writeCheck,
    bypass := pickNat body offBypass c.bypass (clampTo 1 15) false,
    period := pickNat body offPeriod c.period (clampTo 1 16) false,
    masks := Vector.ofFn fun l =>
      if flagAt body (offMask l) then setField body (offMask l + 1) else c.masks.get l }

/-- The items that clamping changed, in the order of Table 10-1 (R188). -/
def clampedItems (body : List Byte) : List Bool :=
  [false,
   allLines.any fun l => clampsNat body (offRate l) (fun v => nearest v rateValues) true,
   false,
   clampsNat body offSilence (clampTo 10 600) true,
   clampsNat body offStep (fun v => nearest v stepValues) true,
   clampsNat body offSettle (fun v => nearest v settleValues) true,
   clampsNat body offHeadLoad (fun v => nearest v headLoadValues) true,
   clampsNat body offUnload (clampTo 1 15) false,
   clampsNat body offInner (clampTo 30 76) false,
   clampsNat body offPrecomp (fun v => nearest v precompValues) true,
   flagAt body offStrobe && !strobeLe (strobeAt body (offStrobe + 1)) (strobeAt body (offStrobe + 2)),
   false,
   clampsNat body offBypass (clampTo 1 15) false,
   clampsNat body offPeriod (clampTo 1 16) false,
   false]

/-- A set as a two-byte number, member n as bit n (R195). -/
def setNat : List Bool → Nat
  | [] => 0
  | b :: rest => (if b then 1 else 0) + 2 * setNat rest

/-! ### The reply (R188, R196) -/

/-- A present byte 1 before an item. -/
def present (bs : List Byte) : List Byte := 1#8 :: bs

/-- The record in the 94-byte layout, every present byte 1 (R196). -/
def ConfigRecord.encode (c : ConfigRecord) : List Byte :=
  present [toByte c.drivesInUse.toNat]
    ++ allLines.flatMap (fun l => present (be2 (rateHundreds (c.rates.get l))))
    ++ allLines.flatMap (fun l => present [toByte (c.classes.get l).code])
    ++ present (be2 c.silence) ++ present (be2 c.stepPeriod) ++ present (be2 c.settle) ++ present (be2 c.headLoad)
    ++ present [toByte c.unloadDelay] ++ present [toByte c.innerStart] ++ present (be2 c.precomp)
    ++ present [toByte c.strobeMin.code, toByte c.strobeMax.code] ++ present [boolByte c.writeCheck]
    ++ present [toByte c.bypass] ++ present [toByte c.period]
    ++ allLines.flatMap (fun l => present (be2 (c.masks.get l).toNat))

/-- The DONE reply (R188). -/
def configReply (c : ConfigRecord) (body : List Byte) : Reply :=
  .done ((clampedItems body).any id) false (c.encode ++ be2 (setNat (clampedItems body)))

/-! ### Application to the blocks (R188, last part) -/

/-- What an operation would take back is adjusted with the records (R62, R68 item 4, DEDUCED, unsafe: log 15). -/
def OpRecord.adjustUndo (o : OpRecord) (lo hi : Strobe) : OpRecord :=
  { o with undo := o.undo.map fun x => (x.1, x.2.adjust lo hi) }

/-- Every margin record adjusted to the allowed range (R62). -/
def State.adjustMargins (s : State) : State :=
  let adjust (m : Margin) : Margin := m.adjust s.cfg.strobeMin s.cfg.strobeMax
  s.modChannel fun c =>
    { c with outer := Vector.ofFn fun d => adjust (c.outer.get d), inner := Vector.ofFn fun d => adjust (c.inner.get d),
             ops := Vector.ofFn fun d => (c.ops.get d).map fun o => o.adjustUndo s.cfg.strobeMin s.cfg.strobeMax }

/-- R89 item 1 and items 3: passed counts above the limit come down to it; a changed period sets the step to 0. -/
def DriveSeq.reconfigured (u : DriveSeq) (limit : Nat) (periodChanged : Bool) : DriveSeq :=
  { u with queue := u.queue.map fun r => { r with passed := min limit r.passed },
           patternStep := if periodChanged then 0 else u.patternStep }

/-- A drive taken out of use or brought back by a change of the drives-in-use item (R20). -/
def State.applyInUse (s : State) (before : BitVec 4) (d : DriveId) : State :=
  let was := driveInUse s.part.straps before d
  let now := driveInUse s.part.straps s.cfg.drivesInUse d
  if was && !now then s.takeOffline d else if !was && now then s.enterByReady d else s

/-- The new record is applied to the blocks (R188). -/
def State.applyConfig (s : State) (new : ConfigRecord) : State :=
  let old := s.cfg
  let s1 : State := { s with cfg := new }
  let s2 := if old.strobeMin = new.strobeMin ∧ old.strobeMax = new.strobeMax then s1 else s1.adjustMargins
  let s3 := s2.eachDrive fun s d => s.modDrive d fun u => u.reconfigured new.bypass (old.period != new.period)
  s3.eachDrive fun s d => s.applyInUse old.drivesInUse d

end Sys2Proof.Machine
end

