-- ==== Sys2Proof/Machine/ConfigRequests.lean ====
section
/-! DEFINITION. The requests of Configuration and Start-up (sections 10.2, 10.4 to 10.6): CONFIGURE, DRIVE STATUS,
STATISTICS, CLEAR DRIVE, SWEEP, RAW READ, RESTART. -/
namespace Sys2Proof.Machine

/-- CONFIGURE (R188). The reply joins its line's order before the change is applied, and is sent at the old rate when the
CONFIGURE changes the rate of that line (R182 item 1). -/
def execConfigure (l : Line) (b : BufId) (s : State) : Out :=
  .next (s.onRequest l b codeConfigure fun h s =>
    if configRefused h.body then s.answer l b (.refuse .outOfRange)
    else
      let new := s.cfg.taken h.body
      let changed := s.cfg.rates.get l != new.rates.get l
      ((s.keepRate l b changed).answer l b (configReply new h.body)).applyConfig new)

/-! ### DRIVE STATUS (R192, Table 11-8) -/

/-- The DRIVE STATUS result (14 bytes). -/
def State.driveStatusBytes (s : State) (d : DriveId) : List Byte :=
  let u := s.drive d
  [toByte d.val, toByte u.condition.code, toByte u.cause.code]
    ++ (match u.index.lastPeriod with
      | some n => be3 n
      | none => absentField 3)
    ++ [toByte u.pos.state.code] ++ optByte u.pos.cylinder
    ++ [toByte u.pos.remaining,
        bitsByte [u.pos.headLoaded, u.levels.ready, u.levels.writeProtect, u.levels.twoSided, u.levels.driveFault,
                  s.busyLamp d, s.channel.sweepFlag.get d, (s.region d).failed],
        bitsByte [s.part.straps.drivesPresent.get d, s.cfg.drivesInUse.getLsbD d.val],
        toByte u.deskPlaces, toByte u.volumePlaces, toByte u.patternStep]

/-- DRIVE STATUS (R192). -/
def execDriveStatus (l : Line) (b : BufId) (s : State) : Out :=
  .next (s.onRequest l b codeDriveStatus fun h s =>
    match driveOf (byteAt h.body 0) with
    | none => s.answer l b (.refuse .outOfRange)
    | some d => s.answer l b (.ok (s.driveStatusBytes d)))

/-! ### STATISTICS (R193, Table 11-9) -/

def marginBytes (m : Margin) : List Byte :=
  [toByte m.preferred.code, toByte m.leanEarly, toByte m.leanNormal, toByte m.leanLate]

/-- The STATISTICS result (170 bytes). -/
def State.statisticsBytes (s : State) : List Byte :=
  let c := s.channel
  be2 c.recovered ++ be2 c.failed ++ be2 c.rewrites ++ be2 c.checksFailed ++ be2 c.seekFaults ++ be2 c.inhibits
    ++ [boolByte c.inhibit, boolByte c.longInhibit]
    ++ allDrives.flatMap (fun d => marginBytes (c.outer.get d) ++ marginBytes (c.inner.get d))
    ++ allDrives.flatMap (fun d =>
        be2 (s.drive d).selections ++ be2 (s.drive d).bypasses ++ be2 (s.drive d).opens ++ be2 (s.drive d).refused)
    ++ allDrives.flatMap (fun d =>
        [toByte (s.region d).state.code, toByte (s.region d).frames.length, boolByte (s.region d).failed]
          ++ be2 (s.region d).hits ++ be2 (s.region d).fills ++ be2 (s.region d).directs ++ be2 (s.region d).evicts)
    ++ allLines.flatMap (fun l =>
        be2 (s.line l).framesTaken ++ be2 (s.line l).checkErrors ++ be2 (s.line l).abandoned)

/-- The counts of R69, R90, R109 and R184 set to 0 (R193). -/
def State.clearCounts (s : State) : State :=
  { s with
    channel := { s.channel with
      recovered := 0, failed := 0, rewrites := 0, checksFailed := 0, seekFaults := 0, inhibits := 0 },
    drives := Vector.ofFn fun d => { s.drive d with selections := 0, bypasses := 0, opens := 0, refused := 0 },
    regions := Vector.ofFn fun d => { s.region d with hits := 0, fills := 0, directs := 0, evicts := 0 },
    lines := Vector.ofFn fun l => { s.line l with framesTaken := 0, checkErrors := 0, abandoned := 0 } }

/-- STATISTICS (R193). -/
def execStatistics (l : Line) (b : BufId) (s : State) : Out :=
  .next (s.onRequest l b codeStatistics fun h s =>
    (if flagAt h.body 0 then s.clearCounts else s).answer l b (.ok s.statisticsBytes))

/-! ### CLEAR DRIVE (R40) -/

/-- CLEAR DRIVE (R40). -/
def execClearDrive (l : Line) (b : BufId) (s : State) : Out :=
  .next (s.onRequest l b codeClearDrive fun h s =>
    match driveOf (byteAt h.body 0) with
    | none => s.answer l b (.refuse .outOfRange)
    | some d =>
      match (s.drive d).condition with
      | .faulted => (s.enterByReady d).answer l b (.ok [])
      | .offline => s.answer l b (.refuse .notReady)
      | _ => s.answer l b (.refuse .wrongState))

/-! ### SWEEP and RAW READ (R194) -/

/-- R194 items 2 and 3: the reason of a refusal. -/
def State.maintenanceRefused (s : State) (d : DriveId) : Option Reason :=
  if (s.drive d).condition.refusesWork then some .notReady
  else if (s.drive d).condition = .empty then some .noVolume
  else if (s.vol d).state = .mounting ∨ (s.vol d).state = .preparing then some .notReady
  else none

/-- SWEEP and RAW READ up to the checks that differ (R194 items 1 to 3); `p` is the read profile of the body, absent when
out of range. Head 1 is taken on a one-sided volume too (R1; DEDUCED, unsafe: log 62). -/
def State.onMaintenance (s : State) (l : Line) (b : BufId) (body : List Byte) (p : Option ReadProfile)
    (f : DriveId → ReadProfile → State → State) : State :=
  match driveOf (byteAt body 0), p with
  | some d, some p =>
    if lastCylinder < byteAt body 1 ∨ 1 < byteAt body 2 then s.answer l b (.refuse .outOfRange)
    else
      match s.maintenanceRefused d with
      | some r => s.answer l b (.refuse r)
      | none => f d p s
  | _, _ => s.answer l b (.refuse .outOfRange)

/-- The read profile of a SWEEP body. -/
def sweepFields (body : List Byte) : Option ReadProfile :=
  BodyProfile.decode { recording := byteAt body 3, sizeCode := byteAt body 4, spt := byteAt body 5 }

/-- A SWEEP that has passed its checks but for the flag and the place (R194 items 4 and 5). -/
def State.sweepAt (s : State) (l : Line) (b : BufId) (d : DriveId) (p : ReadProfile) (c h : Nat) : State :=
  if s.channel.sweepFlag.get d then s.answer l b (.busy .sweepPending)
  else if (s.drive d).deskFull then s.refusePlace d l b
  else (s.setSweepFlag d true).place d (Request.fresh (.desk l) (.sweep b) c h none none p)

/-- SWEEP (R194). -/
def execSweep (l : Line) (b : BufId) (s : State) : Out :=
  .next (s.onRequest l b codeSweep fun h s => s.onMaintenance l b h.body (sweepFields h.body) fun d p s =>
    s.sweepAt l b d p (byteAt h.body 1) (byteAt h.body 2))

/-- The read profile of a RAW READ body, absent too for a sector ID out of its range (R194 item 1). -/
def rawFields (body : List Byte) : Option ReadProfile :=
  match BodyProfile.decode { recording := byteAt body 4, sizeCode := byteAt body 5, spt := byteAt body 6 } with
  | some p => if byteAt body 3 = 0 ∨ p.spt < byteAt body 3 then none else some p
  | none => none

/-- A RAW READ that has passed its checks but for the place (R194 item 5, R84 item 4). -/
def State.rawAt (s : State) (l : Line) (b : BufId) (d : DriveId) (p : ReadProfile) (c h k : Nat) : State :=
  if (s.drive d).deskFull then s.refusePlace d l b
  else s.place d (Request.fresh (.desk l) (.rawRead b) c h (some k) (some ((k - 1) % (s.vol d).serviceSpt)) p)

/-- RAW READ (R194). -/
def execRawRead (l : Line) (b : BufId) (s : State) : Out :=
  .next (s.onRequest l b codeRawRead fun h s => s.onMaintenance l b h.body (rawFields h.body) fun d p s =>
    s.rawAt l b d p (byteAt h.body 1) (byteAt h.body 2) (byteAt h.body 3))

/-! ### RESTART (R190) -/

/-- The part after a RESTART is taken: the drain timer started, the reply waited for unless it is an orphan's. -/
def Part.drain (p : Part) (l : Line) (b : BufId) (orphan : Bool) : Part :=
  { p with state := .draining, drainTimer := !p.drainOver,
           restarts := if orphan then p.restarts else p.restarts ++ [(l, b)] }

/-- RESTART (R190). -/
def execRestart (l : Line) (b : BufId) (s : State) : Out :=
  .next (s.onRequest l b codeRestart fun h s => (s.modPart fun p => p.drain l b h.orphan).answer l b (.ok []))

end Sys2Proof.Machine
end

