-- ==== Sys2Proof/Machine/DriveEvents.lean ====
section
/-! DEFINITION. The events of a drive: its condition and index timing (sections 2.2, 2.3), its positioner (section 2.4), a
selection (R75) and the end of a volume's drain (R122). -/
namespace Sys2Proof.Machine

/-! ### Levels and conditions -/

/-- One sensed level changed. -/
def senseSet (v : DriveLevels) (x : SenseLine) (level : Bool) : DriveLevels :=
  match x with
  | .trackZero => { v with trackZero := level }
  | .writeProtect => { v with writeProtect := level }
  | .twoSided => { v with twoSided := level }
  | .driveFault => { v with driveFault := level }

def State.setReady (s : State) (d : DriveId) (level : Bool) : State :=
  s.modDrive d fun u => { u with levels := { u.levels with ready := level } }

def State.setSense (s : State) (d : DriveId) (x : SenseLine) (level : Bool) : State :=
  s.modDrive d fun u => { u with levels := senseSet u.levels x level }

/-- READY_RISES (R21). During an external reset only the level is taken (DEDUCED, unsafe: log 27). -/
def execReadyRises (d : DriveId) (s : State) : Out :=
  let s1 := s.setReady d true
  .next (if s.part.extReset = false ∧ (s.drive d).levels.ready = false ∧ (s.drive d).condition = .empty then
      s1.enterSpeedCheck d
    else s1)

/-- READY_DROPS (R21, R35, R36). -/
def execReadyDrops (d : DriveId) (s : State) : Out :=
  let s1 := s.setReady d false
  let c := (s.drive d).condition
  .next (if s.part.extReset = false ∧ (c = .speedCheck ∨ c = .ready ∨ c = .faulted) then s1.removal d .empty else s1)

/-- DRIVE-FAULT asserted: acted on in SPEED-CHECK and READY alone (R25). -/
def State.driveFaultRises (s : State) (d : DriveId) : State :=
  let c := (s.drive d).condition
  if s.part.extReset = false ∧ (c = .speedCheck ∨ c = .ready) then s.fault d .driveFault else s

/-- DRIVE_FAULT_ASSERTED (R25). -/
def execDriveFaultAsserted (d : DriveId) (s : State) : Out :=
  .next ((s.setSense d .driveFault true).driveFaultRises d)

/-- SENSE_LEVEL_CHANGE (R19, R33). -/
def execSenseLevelChange (d : DriveId) (which : SenseLine) (level : Bool) (s : State) : Out :=
  let s1 := s.setSense d which level
  .next (if which = .driveFault ∧ level = true then s1.driveFaultRises d else s1)

/-! ### Index timing (R22 to R24) -/

/-- The speed window (R22). -/
def inWindow (us : Nat) : Bool := 156000 ≤ us && us ≤ 177000

/-- A period outside the window has ended (R22). -/
def IndexTiming.outside (t : IndexTiming) (us : Nat) : IndexTiming :=
  { t with lastPeriod := some us, miss := min 2 (t.miss + 1), run := 0 }

/-- A period has ended with a pulse (R22 item 1). -/
def IndexTiming.period (t : IndexTiming) (us : Nat) : IndexTiming :=
  if inWindow us then { t with lastPeriod := some us, run := min 2 (t.run + 1), miss := 0 } else t.outside us

/-- An index pulse is timed (R22 items 1 and 2). -/
def IndexTiming.pulse (t : IndexTiming) (us : Nat) : IndexTiming :=
  { (if t.pulseSeen then t.period us else t) with pulseSeen := true }

/-- The pattern step advances (R81). -/
def nextStep (period step : Nat) : Nat := if step + 1 < period then step + 1 else 0

/-- The unload count at an index pulse (R31). One above a delay lowered meanwhile comes down to it (DESIGN CHOICE, unsafe:
log 63). -/
def DriveSeq.countIdle (u : DriveSeq) (delay : Nat) : DriveSeq :=
  if u.pos.state = .onTrack ∧ u.selected = none then
    { u with pos := { u.pos with unload := min delay (u.pos.unload + 1) } }
  else u

/-- What an index pulse does to the drive sequencer of a READY drive (R26, R31, R81). -/
def DriveSeq.revolved (u : DriveSeq) (cfg : ConfigRecord) : DriveSeq :=
  { u with patternStep := nextStep cfg.period u.patternStep }.countIdle cfg.unloadDelay

/-- INDEX_PULSE (R22, R26, R31, R81; R47, R59, R63 at the channel). -/
def execIndexPulse (d : DriveId) (elapsedUs : Nat) (s : State) : Out :=
  let c := (s.drive d).condition
  .next (if s.part.extReset = true ∨ (c ≠ .speedCheck ∧ c ≠ .ready) then s
    else
      let s1 := s.modDrive d fun u => { u with index := u.index.pulse elapsedUs }
      if c = .ready then (s1.modDrive d fun u => u.revolved s.cfg).channelPulse d else s1)

/-- INDEX_PERIOD_TIMEOUT (R22, R26). -/
def execIndexPeriodTimeout (d : DriveId) (s : State) : Out :=
  .next (if (s.drive d).condition = .ready ∧ (s.drive d).index.pulseSeen then
      s.modDrive d fun u => { u with index := u.index.outside 177000 }
    else s)

/-- SPEED_REACHED (R23). -/
def execSpeedReached (d : DriveId) (s : State) : Out :=
  .next (if s.part.extReset = false ∧ (s.drive d).condition = .speedCheck ∧ (s.drive d).index.run = 2 then s.enterReady d
    else s)

/-- SPEED_FAULT (R24). -/
def execSpeedFault (d : DriveId) (s : State) : Out :=
  .next (if (s.drive d).condition = .ready ∧ (s.drive d).index.miss = 2 then s.fault d .speed else s)

/-- NO_INDEX_TIMEOUT (R23). -/
def execNoIndexTimeout (d : DriveId) (s : State) : Out :=
  .next (if s.part.extReset = false ∧ (s.drive d).condition = .speedCheck ∧ (s.drive d).noIndexTimer then
      s.fault d .noIndex
    else s)

/-! ### The positioner (R27 to R31) -/

/-- RECAL_STEP_END (R27 steps 3 and 4, R28). -/
def execRecalStepEnd (d : DriveId) (s : State) : Out :=
  let p := (s.drive d).pos
  .next (if p.state = .recalibrating ∧ p.stepTimer.isSome then
      if (s.drive d).levels.trackZero then
        s.modPos d fun p => { p with stepTimer := none, settleTimer := some s.cfg.settle }
      else if p.remaining = 0 then s.fault d .trackZero
      else s.modPos d fun p => { p with remaining := p.remaining - 1, stepTimer := some s.cfg.stepPeriod }
    else s)

/-- RECAL_SETTLE_END (R27 step 4). -/
def execRecalSettleEnd (d : DriveId) (s : State) : Out :=
  let p := (s.drive d).pos
  .next (if p.state = .recalibrating ∧ p.settleTimer.isSome then s.restedAtZero d 0 else s)

/-- MOVE_STEP_END (R29). -/
def execMoveStepEnd (d : DriveId) (s : State) : Out :=
  let p := (s.drive d).pos
  .next (if p.state = .moving ∧ p.stepTimer.isSome then
      if p.remaining = 0 then
        s.modPos d fun p => { p with state := .settling, stepTimer := none, settleTimer := some s.cfg.settle }
      else s.modPos d fun p => p.stepPulse s.cfg.stepPeriod
    else s)

/-- SETTLE_TIMER_END (R30). -/
def execSettleTimerEnd (d : DriveId) (s : State) : Out :=
  let p := (s.drive d).pos
  .next (if p.state = .settling ∧ p.settleTimer.isSome then
      let s1 := s.modPos d fun p => { p with settleTimer := none }
      if p.loadTimer.isNone then s1.arrive d else s1
    else s)

/-- HEAD_LOAD_TIMER_END (R29, R30). -/
def execHeadLoadTimerEnd (d : DriveId) (s : State) : Out :=
  let p := (s.drive d).pos
  .next (if p.loadTimer.isSome then
      let s1 := s.modPos d fun p => { p with loadTimer := none }
      if (p.state = .settling ∧ p.settleTimer = none) ∨ (p.state = .moving ∧ p.stepTimer = none) then s1.arrive d else s1
    else s)

/-- UNLOAD_DELAY_REACHED (R31), at once too when CONFIGURE has lowered the delay to the standing count or below it (DESIGN
CHOICE, unsafe: log 63). -/
def execUnloadDelayReached (d : DriveId) (s : State) : Out :=
  let p := (s.drive d).pos
  .next (if p.state = .onTrack ∧ (s.drive d).selected = none ∧ s.cfg.unloadDelay ≤ p.unload then
      s.modPos d Positioner.unloaded
    else s)

/-! ### Service and release -/

/-- SELECTION (R75). -/
def execSelection (d : DriveId) (elapsedUs : Nat) (s : State) : Out := .next (s.select d elapsedUs)

/-- VOLUME_DRAIN_COMPLETE (R122). -/
def execVolumeDrainComplete (d : DriveId) (s : State) : Out :=
  .next (if s.drainComplete d then (s.releaseVolume d).answerEject (s.vol d).pendingReq else s)

end Sys2Proof.Machine
end

