-- ==== Sys2Proof/Machine/LineEvents.lean ====
section
/-! DEFINITION. LINE STATUS (R183) and the events of a desk line (Chapter 9). -/
namespace Sys2Proof.Machine

/-! ### LINE STATUS (R183, Table 11-9) -/

/-- A buffer (5 bytes). -/
def bufferBytes : Option Held → List Byte
  | none => 0#8 :: absentField 4
  | some h => [1#8, h.tag, h.code, toByte h.stage.code, boolByte h.orphan]

/-- The whole seconds remaining of a silence timer, `elapsedUs` after its start. -/
def SilenceTimer.seconds (t : SilenceTimer) (elapsedUs : Nat) : Option Nat :=
  match t with
  | .stopped => none
  | .running limitS => some ((limitS * 1000000 - elapsedUs) / 1000000)

/-- A claim record (4 bytes). -/
def claimBytes (c : Claim) : List Byte := [toByte c.drive.val] ++ be2 c.serial ++ [toByte c.handle]

/-- The LINE STATUS result; the rate is the one in use on the line (DEDUCED, unsafe: log 22). -/
def State.lineStatusBytes (s : State) (n : Line) (elapsedUs : Nat) : List Byte :=
  let u := s.line n
  let claims := s.cw.ofLine n
  [toByte n.val, toByte u.portState.code, bitsByte [u.present, s.attention n, u.pendingReply.isSome],
   toByte (s.classOf n).code]
    ++ be2 (rateHundreds u.rate) ++ bufferBytes (u.bufs.get 0) ++ bufferBytes (u.bufs.get 1)
    ++ [toByte u.order.length] ++ optBe2 (u.silence.seconds elapsedUs)
    ++ be2 u.framesTaken ++ be2 u.checkErrors ++ be2 u.abandoned ++ [toByte claims.length] ++ claims.flatMap claimBytes

/-- LINE STATUS (R183). -/
def execLineStatus (l : Line) (b : BufId) (elapsedUs : Nat) (s : State) : Out :=
  .next (s.onRequest l b codeLineStatus fun h s =>
    match lineOf (byteAt h.body 0) with
    | none => s.answer l b (.refuse .outOfRange)
    | some n => s.answer l b (.ok (s.lineStatusBytes n elapsedUs)))

/-! ### Receiving -/

/-- CHARACTER_RECEIVED (R172). -/
def execCharacterReceived (l : Line) (c : Byte) (framingError : Bool) (s : State) : Out :=
  .next (if s.part.extReset then s else s.modLine l fun u => u.receive c framingError)

/-- The frame timer runs in RECEIVING alone (R172 item 3). -/
def LineUnit.timeout (u : LineUnit) : LineUnit :=
  match u.rx with
  | .receiving _ => u.abandon .timeout
  | _ => u

/-- FRAME_TIMER_EXPIRY (R172). -/
def execFrameTimerExpiry (l : Line) (s : State) : Out :=
  .next (if s.part.extReset then s else s.modLine l LineUnit.timeout)

/-- FRAME_COMPLETE (R173). -/
def execFrameComplete (l : Line) (s : State) : Out :=
  .next (if s.part.extReset then s else s.modLine l fun u => u.frameDone (s.lineCtx l) s.cfg.silence)

/-! ### Sending -/

/-- The reply of a RESTART that leaves the line is no longer waited for (R190 item 1). -/
def Part.replySent (p : Part) (l : Line) (u : LineUnit) : Part :=
  match u.tx, u.order with
  | some _, .buf b :: _ => { p with restarts := p.restarts.filter fun x => x != (l, b) }
  | _, _ => p

/-- REPLY_FRAME_SENT (R177); a line that has emptied its reply order after the drain resets (R185). -/
def execReplyFrameSent (l : Line) (s : State) : Out :=
  .next (if s.part.extReset then s
    else (((s.modPart fun p => p.replySent l (s.line l)).modLine l fun u => u.sent (s.lineCtx l)).lineReset l))

/-- RATE_CHANGE_EFFECT (R182 item 1). -/
def execRateChangeEffect (l : Line) (s : State) : Out :=
  .next (if s.part.extReset then s
    else s.modLine l fun u => u.takeRate (s.cfg.rates.get l))

/-! ### The desk (R159, R179 to R181) -/

/-- LINE_PRESENT_FALLS (R180). During an external reset only the level is taken (DEDUCED, unsafe: log 27). -/
def execLinePresentFalls (l : Line) (s : State) : Out :=
  .next (if s.part.extReset then s.modLine l fun u => { u with present := false }
    else if (s.line l).present = false then s
    else (((s.modLine l LineUnit.lose).deskLost l).modPart fun p =>
      { p with restarts := p.restarts.filter fun x => x.1 != l }).lineReset l)

/-- LINE_PRESENT_RISES (R181). -/
def execLinePresentRises (l : Line) (s : State) : Out :=
  .next (if s.part.extReset then s.modLine l fun u => { u with present := true }
    else if (s.line l).present then s
    else s.modLine l fun u => { u with present := true, silence := .running s.cfg.silence })

/-- SILENCE_TIMER_EXPIRY (R179 item 2, R159 item 2). -/
def execSilenceTimerExpiry (l : Line) (s : State) : Out :=
  .next (if s.part.extReset ∨ (s.line l).silence = .stopped then s
    else (s.modLine l fun u => { u with silence := .stopped }).dropClaims l)

end Sys2Proof.Machine
end

