-- ==== Sys2Proof/Machine/Power.lean ====
section
/-! DEFINITION. The write-inhibit guard (R64, R66, R67) and the part: reset (R189), the RESTART drain (R190, R191). -/
namespace Sys2Proof.Machine

/-! ### The write-inhibit guard -/

/-- The supply falls below the inhibit threshold (R64); it is then below the restore level too (R67). -/
def Channel.fallBelow (c : Channel) : Channel :=
  if c.inhibit then { c with supply := .belowInhibit, restoreTimer := false }
  else { c with supply := .belowInhibit, restoreTimer := false, inhibit := true, longTimer := true,
                inhibits := bump c.inhibits }

/-- The state returns to NORMAL (R67). -/
def Channel.restored (c : Channel) : Channel :=
  { c with inhibit := false, longInhibit := false, restoreTimer := false, longTimer := false }

/-- A write waits on the guard: its drive asks and is not grantable (R66). -/
def State.writeWaits (s : State) (d : DriveId) (r : Request) : Bool :=
  s.channel.asking.get d && s.channel.inhibit && r.kind.isWrite

/-- The selected write of a drive is withdrawn if it waits (R66). -/
def State.giveUpSelected (s : State) (d : DriveId) : State :=
  match (s.drive d).selected with
  | some r => if s.writeWaits d r then s.withdrawSelected d r else s
  | none => s

/-- The QUEUED writes of a drive are given up (R66 items 1 to 3). -/
def State.giveUpQueued (s : State) (d : DriveId) : State :=
  let ours (r : Request) : Bool := r.kind.isWrite && r.state == .queued
  let gone := (s.drive d).queue.filter ours
  gone.foldl (fun s r => s.givenUp d r) (s.modQueue d fun q => q.filter fun r => !ours r)

/-- The long inhibit begins (R66). -/
def State.beginLongInhibit (s : State) : State :=
  (s.modChannel fun c => { c with longTimer := false, longInhibit := true }).eachDrive fun s d =>
    (s.giveUpSelected d).giveUpQueued d

/-! ### Start-up (R189) -/

/-- Every block in its state after power-on or external reset (R42, R70, R91, R110, R128, R131, R153, R168, R185), from
the straps and the levels the inputs read. The queue of waiting commands is the outside's and is kept. -/
def State.afterReset (s : State) (i : Inputs) : State :=
  let cfg := defaultConfig i.straps.rate0
  { lines := Vector.ofFn fun l => freshLine (i.linePresent.get l) cfg.silence (cfg.rates.get l),
    drives := Vector.ofFn fun d => freshDrive (driveInUse i.straps cfg.drivesInUse d) (i.drives.get d),
    channel := freshChannel cfg i.supply,
    regions := Vector.replicate 4 freshRegion,
    vols := Vector.replicate 4 freshVolume,
    cw := freshClaimUnit, cfg := cfg, part := freshPart i.straps, clock := unsetClock, mem := [], arrival := 0,
    pending := s.pending }

/-- The levels the inputs read now, with straps given. -/
def State.inputsNow (s : State) (straps : Straps) : Inputs :=
  { straps := straps, drives := Vector.ofFn fun d => (s.drive d).levels,
    linePresent := Vector.ofFn fun l => (s.line l).present, supply := s.channel.supply }

/-- The external reset is held (R189): every block in its reset state, no self-test running. -/
def State.holdReset (s : State) (lowCurrentHigh : Bool) : State :=
  (s.afterReset (s.inputsNow { s.part.straps with lowCurrentHigh := lowCurrentHigh })).modPart fun p =>
    { p with extReset := true, selfTest := false }

/-! ### The RESTART drain (R190, R191) -/

/-- Items 1 to 4 of R190. -/
def State.drainIdle (s : State) : Bool :=
  s.part.restarts.isEmpty
    && allDrives.all fun d =>
        !((s.drive d).queue.any fun r => r.kind.isWrite)
          && ((s.vol d).dirtySet.isEmpty || (s.vol d).hasReason)
          && (s.vol d).state != .preparing

/-- The drain may end now: its conditions hold or its timer has expired, and no gate is open (R190, R191). -/
def State.drainMayEnd (s : State) : Bool :=
  s.part.state == .draining && (s.part.drainOver || s.drainIdle) && s.channel.gate.isNone

/-- The request in a buffer is ended at the drain's end (R191); only one IN-PROGRESS completes. -/
def State.endRequest (s : State) (l : Line) (b : BufId) : State := s.answer l b (.failed .removed)

/-- Every request still at an owner is answered FAILED REMOVED (R191). -/
def State.endRequests (s : State) : State := s.eachLine fun s l => (s.endRequest l 0).endRequest l 1

/-- A line unit at the drain's end (R185): it discards characters until its reply order is empty; a frame being received
is lost. -/
def LineUnit.drained (u : LineUnit) : LineUnit :=
  { u with resetDue := true, rx := match u.rx with
    | .receiving _ => .hunt
    | x => x }

/-- The drive sequencer after RESTART (R42, R91): its counts and fault cause are kept. -/
def DriveSeq.restarted (u : DriveSeq) (used : Bool) : DriveSeq :=
  let f := freshDrive used u.levels
  { f with cause := if f.condition = .faulted then f.cause else u.cause, selections := u.selections,
           bypasses := u.bypasses, opens := u.opens, refused := u.refused }

/-- The channel after RESTART (R70): its counts are kept. -/
def Channel.restarted (c : Channel) (cfg : ConfigRecord) : Channel :=
  { freshChannel cfg c.supply with
    recovered := c.recovered, failed := c.failed, rewrites := c.rewrites, checksFailed := c.checksFailed,
    seekFaults := c.seekFaults, inhibits := c.inhibits }

/-- A region after RESTART (R110): its counts are kept, and its flag until the new self-test (R108). -/
def Region.restarted (g : Region) : Region :=
  { freshRegion with failed := g.failed, hits := g.hits, fills := g.fills, directs := g.directs, evicts := g.evicts }

/-- Every block but the line units takes its state after RESTART (R191). -/
def State.blocksRestart (s : State) (straps : Straps) : State :=
  { s with
    drives := Vector.ofFn fun d => (s.drive d).restarted (driveInUse straps s.cfg.drivesInUse d),
    channel := s.channel.restarted s.cfg,
    regions := Vector.ofFn fun d => (s.region d).restarted,
    vols := Vector.replicate 4 freshVolume,
    cw := freshClaimUnit, part := freshPart straps, mem := [], arrival := 0 }

/-- The drain ends (R191): the requests left are answered, the blocks restart, and each line unit resets when its reply
order is empty, a frame that it has not yet judged going with it (DESIGN CHOICE, unsafe: log 30). -/
def State.drainEnds (s : State) (straps : Straps) : State :=
  (s.endRequests.blocksRestart straps).eachLine fun s l => (s.modLine l LineUnit.drained).lineReset l

/-- The part becomes RUNNING and acts on a held report (R189). -/
def State.releaseReport (s : State) (d : DriveId) : State :=
  if (s.drive d).reportHeld then (s.modDrive d fun u => { u with reportHeld := false }).mountReport d else s

/-- The part may become RUNNING: the self-test is complete and every line unit is in its reset state (R189). -/
def State.mayRun (s : State) : Bool :=
  s.part.state == .startUp && !s.part.extReset && !s.part.selfTest && allLines.all fun l => !(s.line l).resetDue

end Sys2Proof.Machine
end

