-- ==== Sys2Proof/Machine/PartEvents.lean ====
section
/-! DEFINITION. The events of the supply (R64, R66, R67) and of the part (R189 to R191). -/
namespace Sys2Proof.Machine

/-! ### The supply -/

/-- SUPPLY_BELOW_INHIBIT (R64), `us` microseconds after the open gate opened. During an external reset only the level is
taken (DEDUCED, unsafe: log 27). In a state that is INHIBIT already nothing begins. -/
def execSupplyBelowInhibit (s : State) (us : Nat := 0) : Out :=
  .next (if s.part.extReset then s.modChannel fun c => { c with supply := .belowInhibit }
    else if s.channel.inhibit then s.modChannel Channel.fallBelow
    else (s.modChannel Channel.fallBelow).cutInGap us)

/-- SUPPLY_AT_RESTORE (R67). -/
def execSupplyAtRestore (s : State) : Out :=
  .next (if s.channel.supply = .restored then s
    else s.modChannel fun c =>
      { c with supply := .restored, restoreTimer := c.inhibit && !s.part.extReset })

/-- SUPPLY_BELOW_RESTORE (R67). -/
def execSupplyBelowRestore (s : State) : Out :=
  .next (if s.channel.supply = .restored then
      s.modChannel fun c => { c with supply := .between, restoreTimer := false }
    else s)

/-- RESTORE_TIMER_EXPIRY (R67, R149). -/
def execRestoreTimerExpiry (s : State) : Out :=
  .next (if s.channel.inhibit ∧ s.channel.restoreTimer then
      (s.modChannel Channel.restored).eachDrive fun s d => s.offers d
    else s)

/-- LONG_INHIBIT_TIMER_EXPIRY (R66). -/
def execLongInhibitTimerExpiry (s : State) : Out :=
  .next (if s.part.extReset = false ∧ s.channel.inhibit ∧ s.channel.longTimer then s.beginLongInhibit else s)

/-! ### The part -/

/-- POWER_ON (R189), the external reset input taken as released (DESIGN CHOICE, unsafe: log 59). -/
def execPowerOn (i : Inputs) (s : State) : Out := .next (s.afterReset i)

/-- EXTERNAL_RESET_ASSERTED (R189). -/
def execExternalResetAsserted (lowCurrentHigh : Bool) (s : State) : Out := .next (s.holdReset lowCurrentHigh)

/-- EXTERNAL_RESET_RELEASED (R189). -/
def execExternalResetReleased (straps : Straps) (s : State) : Out :=
  .next (if s.part.extReset then s.afterReset (s.inputsNow straps) else s)

/-- SELF_TEST_COMPLETE (R108). The patterns are not stated, and the buffer memory is left as it stood (DESIGN CHOICE,
unsafe: log 8). -/
def execSelfTestComplete (failed : Vector Bool 4) (s : State) : Out :=
  .next (if s.part.state = .startUp ∧ s.part.selfTest then
      ({ s with regions := Vector.ofFn fun d => { s.region d with failed := failed.get d } } : State).modPart fun p =>
        { p with selfTest := false }
    else s)

/-- PART_RUNNING (R189). -/
def execPartRunning (s : State) : Out :=
  .next (if s.mayRun then
      (s.modPart fun p => { p with state := .running }).eachDrive fun s d => s.releaseReport d
    else s)

/-- DRAIN_TIMER_EXPIRY (R190, R191), `us` microseconds after the open gate opened. -/
def execDrainTimerExpiry (s : State) (us : Nat := 0) : Out :=
  .next (if s.part.state = .draining ∧ s.part.drainTimer then
      (s.modPart fun p => { p with drainTimer := false, drainOver := true }).cutInGap us
    else s)

/-- DRAIN_END (R190, R191). -/
def execDrainEnd (straps : Straps) (s : State) : Out := .next (if s.drainMayEnd then s.drainEnds straps else s)

end Sys2Proof.Machine
end

