-- ==== Sys2Proof/Machine/StoryRequests.lean ====
section
/-! DEFINITION. The story requests (sections 7.3 to 7.6): LOOKUP, LIST, READ BLOCK, WRITE BLOCK, CREATE, FILE, MOVE, SPIKE,
REVIVE, PURGE. -/
namespace Sys2Proof.Machine

/-! ### Checks of R133 -/

/-- A request that names a handle passes the gate and the handle check (R133 item 1); `f` takes it from there with the
drive, the profile, the handle and the entry. -/
def State.onStory (s : State) (l : Line) (b : BufId) (body : List Byte) (g : Group)
    (f : DriveId → Profile → Nat → Entry → State → State) : State :=
  s.gated l b body g true fun d s =>
    match (s.vol d).profile with
    | none => s.answer l b (.refuse .outOfRange)
    | some p =>
      if p.capacity ≤ byteAt body 1 then s.answer l b (.refuse .outOfRange)
      else f d p (byteAt body 1) ((s.vol d).entry (byteAt body 1)) s

/-- The claim barred to another holder (R133 item 3): REFUSED CLAIMED, naming the holder. -/
def State.unlessClaimed (s : State) (l : Line) (b : BufId) (d : DriveId) (h : Nat) (f : State → State) : State :=
  match s.cw.holder d h with
  | some o => if o = l then f s else s.answer l b (.refused .claimed (some o))
  | none => f s

/-- The claim required of the requester (R133 item 3): REFUSED NOT-CLAIMED. -/
def State.ifHolder (s : State) (l : Line) (b : BufId) (d : DriveId) (h : Nat) (f : State → State) : State :=
  if s.cw.holder d h = some l then f s else s.answer l b (.refuse .notClaimed)

/-- The requester's own claim, if it holds it, is released (R157). -/
def State.freeOwn (s : State) (d : DriveId) (h : Nat) (l : Line) : State :=
  if s.cw.holder d h = some l then s.freeClaim d h l else s

/-- A change whose reply waits for write-back: its waiter is registered and the offers of R149 follow (R148). -/
def State.awaitChange (s : State) (d : DriveId) (p : Profile) (h : Nat) (l : Line) (b : BufId) (clamped : Bool) : State :=
  (s.await d { sector := p.sectorOf h, line := l, buf := b, covered := false, handle := h, clamped := clamped,
               kind := .change }).offers d

/-! ### LOOKUP (R134) and LIST (R135) -/

/-- The lowest handle of a LIVE or RETIRED entry with a slug (R134). -/
def Volume.findSlug (v : Volume) (slug : List Byte) : Option Nat :=
  (List.range 256).find? fun h => (v.entry h).isStory && (v.entry h).slug == slug

/-- LOOKUP (R134). -/
def execLookup (l : Line) (b : BufId) (s : State) : Out :=
  .next (s.onRequest l b codeLookup fun h s => s.gated l b h.body .reads false fun d s =>
    let slug := slugField h.body 1
    if slugOk slug = false then s.answer l b (.refuse .outOfRange)
    else
      match (s.vol d).findSlug slug with
      | some n => s.answer l b (.ok (s.summary d n))
      | none => s.answer l b (.refuse .noStory))

/-- The bit of an entry state in the state filter (Table 11-2). -/
def filterBit : EntryState → Option Nat
  | .free => none
  | .live => some 0
  | .retired => some 1
  | .damaged => some 2

/-- An entry matches a LIST (R135). -/
def listMatches (baskets : BitVec 16) (filter : BitVec 3) (e : Entry) : Bool :=
  (match filterBit e.state with
    | none => false
    | some i => filter == 0#3 || filter.getLsbD i)
  && (baskets == 0#16 || (e.decoded && baskets.getLsbD e.basket))

/-- The handles a LIST examines that match, ascending. -/
def Volume.listed (v : Volume) (start : Nat) (baskets : BitVec 16) (filter : BitVec 3) : List Nat :=
  (List.range v.capacity).filter fun h => start ≤ h && listMatches baskets filter (v.entry h)

/-- The next handle of a LIST (R135): `hs` are the handles that match. -/
def nextHandle (capacity : Nat) (hs : List Nat) : Nat :=
  match hs[7]? with
  | some h => if h + 1 < capacity then h + 1 else 256
  | none => 256

/-- The LIST result (R198). -/
def State.listResult (s : State) (d : DriveId) (start : Nat) (baskets : BitVec 16) (filter : BitVec 3) : List Byte :=
  let hs := (s.vol d).listed start baskets filter
  [toByte (hs.take 8).length] ++ be2 (nextHandle (s.vol d).capacity hs) ++ (hs.take 8).flatMap (s.summary d)

/-- LIST (R135). -/
def execListStories (l : Line) (b : BufId) (s : State) : Out :=
  .next (s.onRequest l b codeList fun h s => s.gated l b h.body .reads false fun d s =>
    if 255 < nat2 h.body 4 then s.answer l b (.refuse .outOfRange)
    else s.answer l b (.ok (s.listResult d (nat2 h.body 4) (setField h.body 1) (BitVec.ofNat 3 (byteAt h.body 3)))))

/-! ### CREATE (R140) -/

/-- The entry a CREATE makes. -/
def newEntry (slug : List Byte) (basket priority : Nat) (c : Clock) (l : Line) : Entry :=
  { state := .live, slug := slug, basket := basket, priority := priority, length := 0, extents := [], day := c.day,
    minute := c.minute, version := 0, author := l.val, decoded := true }

/-- The lowest FREE handle below the capacity (R140). -/
def Volume.lowestFreeEntry (v : Volume) (p : Profile) : Option Nat :=
  (List.range p.capacity).find? fun h => (v.entry h).state == .free

/-- The volume serial (R154). -/
def Volume.serial (v : Volume) : Nat :=
  match v.label with
  | some i => i.serial
  | none => 0

/-- A CREATE is taken: the entry, the claim (none for an orphan, R159), the event, the waiter (R140). -/
def State.createAt (s : State) (d : DriveId) (p : Profile) (n : Nat) (l : Line) (b : BufId) (orphan : Bool)
    (slug : List Byte) (basket priority : Nat) : State :=
  let s1 := s.changeEntry d p n (newEntry slug basket priority s.clock l)
  let s2 := if orphan then s1 else s1.modClaims fun c => c.grant d (s.vol d).serial n l
  (s2.raiseEvent .created d n basket l).awaitChange d p n l b false

/-- CREATE (R140). -/
def execCreateStory (l : Line) (b : BufId) (s : State) : Out :=
  .next (s.onRequest l b codeCreate fun h s => s.gated l b h.body .changes true fun d s =>
    match (s.vol d).profile with
    | none => s.answer l b (.refuse .indexFull)
    | some p =>
      let slug := slugField h.body 1
      if slugOk slug = false ∨ 15 < byteAt h.body 13 ∨ 3 < byteAt h.body 14 then s.answer l b (.refuse .outOfRange)
      else if ((s.vol d).findSlug slug).isSome then s.answer l b (.refuse .duplicate)
      else if s.cw.hasRoom l = false then s.answer l b (.refuse .tableFull)
      else
        match (s.vol d).lowestFreeEntry p with
        | none => s.answer l b (.refuse .indexFull)
        | some n => s.createAt d p n l b h.orphan slug (byteAt h.body 13) (byteAt h.body 14))

/-! ### READ BLOCK (R136) -/

/-- READ BLOCK (R136). -/
def execReadBlock (l : Line) (b : BufId) (s : State) : Out :=
  .next (s.onRequest l b codeReadBlock fun h s => s.onStory l b h.body .reads fun d p _ e s =>
    if e.isStory = false then s.answer l b (.refuse .noStory)
    else if p.blocks e ≤ nat2 h.body 2 then s.answer l b (.refuse .outOfRange)
    else
      match p.locate e.extents (nat2 h.body 2) with
      | none => s.answer l b (.refuse .outOfRange)
      | some pl => s.cacheRead d pl (p.slot pl.cylinder pl.head pl.sectorId) p.read l b)

/-! ### WRITE BLOCK (R137, R138) -/

/-- The desk WRITE of a sector. -/
def writeRequest (p : Profile) (pl : Place) (l : Line) (b : BufId) (ext : Option WriteBack) : Request :=
  Request.fresh (.desk l) (.write b ext) pl.cylinder pl.head (some pl.sectorId)
    (some (p.slot pl.cylinder pl.head pl.sectorId)) p.read

/-- A WRITE is placed by `f`, or answered FAILED POWER-LOW in the long inhibit (R66) or BUSY with no desk place free (R71);
the long inhibit is looked at first (DESIGN CHOICE, unsafe: log 40). -/
def State.placeWrite (s : State) (d : DriveId) (l : Line) (b : BufId) (f : State → State) : State :=
  if s.channel.longInhibit then s.answer l b (.failed .powerLow)
  else if (s.drive d).deskFull then s.refusePlace d l b
  else f s

/-- An extending WRITE BLOCK with its granule found (R138, last step). -/
def State.extendAt (s : State) (d : DriveId) (p : Profile) (n : Nat) (e : Entry) (l : Line) (b : BufId) (granule : Nat)
    (es : List Extent) (block : Nat) : State :=
  match p.locate es block with
  | none => s.answer l b (.refuse .outOfRange)
  | some pl =>
    let s1 := (s.modVol d fun v => { v with free := v.free.filter (· != granule) }).changeEntry d p n
      { e with extents := es }
    ((s1.place d (writeRequest p pl l b (some .waiting))).await d
      { sector := p.sectorOf n, line := l, buf := b, covered := false, handle := n, clamped := false,
        kind := .extending none }).offers d

/-- An accepted WRITE BLOCK, within the allocation or extending (R137 items 5 and 6). -/
def State.writeAt (s : State) (d : DriveId) (p : Profile) (n : Nat) (e : Entry) (l : Line) (b : BufId) (block : Nat) :
    State :=
  if block = p.blocks e then
    match (s.vol d).allocate e.extents with
    | .refused r => s.answer l b (.refuse r)
    | .took g es => s.placeWrite d l b fun s => s.extendAt d p n e l b g es block
  else
    match p.locate e.extents block with
    | none => s.answer l b (.refuse .outOfRange)
    | some pl => s.placeWrite d l b fun s => s.place d (writeRequest p pl l b none)

/-- WRITE BLOCK (R137). -/
def execWriteBlock (l : Line) (b : BufId) (s : State) : Out :=
  .next (s.onRequest l b codeWriteBlock fun h s => s.onStory l b h.body .changes fun d p n e s =>
    if e.state ≠ .live then s.answer l b (.refuse .noStory)
    else s.ifHolder l b d n fun s =>
      if nat2 h.body 4 ≠ p.bytes ∨ p.blocks e < nat2 h.body 2 then s.answer l b (.refuse .outOfRange)
      else s.writeAt d p n e l b (nat2 h.body 2))

/-! ### FILE (R141) -/

/-- The entry after FILE with a length already clamped (R141 items 1 to 5, R146). -/
def filedEntry (p : Profile) (e : Entry) (length : Nat) (c : Clock) (l : Line) : Entry :=
  { e with length := length, day := c.day, minute := c.minute, version := (e.version + 1) % 256, author := l.val,
           extents := cutExtents (neededGranules p length) e.extents }

/-- A FILE is taken (R141). -/
def State.fileAt (s : State) (d : DriveId) (p : Profile) (n : Nat) (e : Entry) (l : Line) (b : BufId) (length : Nat)
    (release : Bool) : State :=
  let len := min length (p.storyCapacity e)
  let gone := (extentGranules e.extents).drop (neededGranules p len)
  let s1 := (s.changeEntry d p n (filedEntry p e len s.clock l)).releaseGranules d p gone
  let s2 := s1.raiseEvent .filed d n e.basket l
  (if release then s2.freeClaim d n l else s2).awaitChange d p n l b (p.storyCapacity e < length)

/-- FILE (R141). -/
def execFileStory (l : Line) (b : BufId) (s : State) : Out :=
  .next (s.onRequest l b codeFile fun h s => s.onStory l b h.body .changes fun d p n e s =>
    if e.state ≠ .live then s.answer l b (.refuse .noStory)
    else s.ifHolder l b d n fun s => s.fileAt d p n e l b (nat3 h.body 2) (flagAt h.body 5))

/-! ### MOVE (R142) -/

/-- A MOVE is taken (R142). -/
def State.moveAt (s : State) (d : DriveId) (p : Profile) (n : Nat) (e : Entry) (l : Line) (b : BufId)
    (basket priority : Nat) : State :=
  if basket = e.basket ∧ priority = e.priority then s.answer l b (.ok (s.summary d n))
  else
    let s1 := s.changeEntry d p n { e with basket := basket, priority := priority }
    (if basket = e.basket then s1 else s1.raiseEvent .movedIn d n basket l).awaitChange d p n l b false

/-- MOVE (R142), its checks in the order of R133. -/
def execMoveStory (l : Line) (b : BufId) (s : State) : Out :=
  .next (s.onRequest l b codeMove fun h s => s.onStory l b h.body .changes fun d p n e s =>
    if e.isStory = false then s.answer l b (.refuse .noStory)
    else s.unlessClaimed l b d n fun s =>
      if 15 < byteAt h.body 2 ∨ 3 < byteAt h.body 3 then s.answer l b (.refuse .outOfRange)
      else s.moveAt d p n e l b (byteAt h.body 2) (byteAt h.body 3))

/-! ### SPIKE (R143), REVIVE (R144), PURGE (R145) -/

/-- A SPIKE is taken (R143). -/
def State.spikeAt (s : State) (d : DriveId) (p : Profile) (n : Nat) (e : Entry) (l : Line) (b : BufId) : State :=
  (((s.changeEntry d p n { e with state := .retired }).raiseEvent .spiked d n e.basket l).freeOwn d n l).awaitChange
    d p n l b false

/-- SPIKE (R143). -/
def execSpike (l : Line) (b : BufId) (s : State) : Out :=
  .next (s.onRequest l b codeSpike fun h s => s.onStory l b h.body .changes fun d p n e s =>
    match e.state with
    | .live => s.unlessClaimed l b d n fun s => s.spikeAt d p n e l b
    | .retired => s.answer l b (.refuse .wrongState)
    | _ => s.answer l b (.refuse .noStory))

/-- REVIVE (R144). -/
def execRevive (l : Line) (b : BufId) (s : State) : Out :=
  .next (s.onRequest l b codeRevive fun h s => s.onStory l b h.body .changes fun d p n e s =>
    match e.state with
    | .retired => s.unlessClaimed l b d n fun s =>
        (s.changeEntry d p n { e with state := .live }).awaitChange d p n l b false
    | .live => s.answer l b (.refuse .wrongState)
    | _ => s.answer l b (.refuse .noStory))

/-- A PURGE is taken (R145): the claim goes while the entry still holds its basket (R157). -/
def State.purgeAt (s : State) (d : DriveId) (p : Profile) (n : Nat) (e : Entry) (l : Line) (b : BufId) : State :=
  (((s.releaseGranules d p (extentGranules e.extents)).freeOwn d n l).changeEntry d p n freeEntry).awaitChange
    d p n l b false

/-- PURGE (R145). -/
def execPurge (l : Line) (b : BufId) (s : State) : Out :=
  .next (s.onRequest l b codePurge fun h s => s.onStory l b h.body .changes fun d p n e s =>
    if e.isStory = false then s.answer l b (.refuse .noStory)
    else s.unlessClaimed l b d n fun s => s.purgeAt d p n e l b)

end Sys2Proof.Machine
end

