-- ==== Sys2Proof/Machine/VolumeRequests.lean ====
section
/-! DEFINITION. VOLUME STATUS (R127), EJECT (R121) and PREPARE VOLUME (R124). -/
namespace Sys2Proof.Machine

/-! ### VOLUME STATUS (R127, Table 11-8) -/

/-- Bytes that are absent where `c` does not hold. -/
def presentIf (c : Bool) (n : Nat) (bs : List Byte) : List Byte := if c then bs else absentField n

/-- The profile fields, 13 bytes. -/
def profileBytes : Option Profile → List Byte
  | none => absentField 13
  | some p =>
    [toByte (recordingCode p.recording)] ++ be2 p.bytes
      ++ [toByte p.spt, toByte p.sides, toByte p.interleave, toByte p.skew, toByte p.granule, toByte p.indexSectors]
      ++ be2 p.capacity ++ be2 p.granules

/-- The label fields, 14 bytes. -/
def labelBytes : Option LabelInfo → List Byte
  | none => absentField 14
  | some i => padTo 8 0x20#8 i.name ++ be2 i.serial ++ be2 i.day ++ be2 i.minute

/-- The number of entries in a state. -/
def Volume.countState (v : Volume) (x : EntryState) : Nat := (v.entries.toList.filter fun e => e.state == x).length

/-- The index counts, 9 bytes, present in MOUNTED, READ-ONLY and DRAINING (R127). -/
def Volume.countBytes (v : Volume) : List Byte :=
  presentIf (v.state == .mounted || v.state == .readOnly || v.state == .draining) 9
    (be2 (v.countState .live) ++ be2 (v.countState .retired) ++ be2 (v.countState .damaged) ++ be2 v.free.length
      ++ [toByte v.dirtySet.length])

def pendingCode : Option PendingVolume → Nat
  | none => 0
  | some (.eject ..) => 1
  | some (.prepare ..) => 2

/-- The VOLUME STATUS result. -/
def volumeStatusBytes (d : DriveId) (c : DriveCondition) (v : Volume) : List Byte :=
  [toByte d.val, toByte c.code, toByte v.state.code,
   bitsByte [v.dirtyRemoval, v.wpReason, v.inconsistent, v.indexFault, v.limited, v.interleaveIgnored]]
    ++ optByte (v.foreign.map ForeignCause.code) ++ [toByte (pendingCode v.pendingReq)]
    ++ labelBytes v.label ++ profileBytes v.profile ++ v.countBytes
    ++ presentIf (v.state == .preparing) 1 [toByte v.tracksFormatted]

/-- VOLUME STATUS (R127). -/
def execVolumeStatus (l : Line) (b : BufId) (s : State) : Out :=
  .next (s.onRequest l b codeVolumeStatus fun h s =>
    match driveOf (byteAt h.body 0) with
    | none => s.answer l b (.refuse .outOfRange)
    | some d => s.answer l b (.ok (volumeStatusBytes d (s.drive d).condition (s.vol d))))

/-! ### EJECT (R121) -/

/-- The volume becomes DRAINING, the EJECT pending (R121 item 2). -/
def State.beginDrain (s : State) (d : DriveId) (l : Line) (b : BufId) : State :=
  s.modVol d fun v => { v with state := .draining, pendingReq := some (.eject l b) }

/-- An EJECT that the gate has admitted (R121 items 1 to 4). -/
def State.ejectAt (s : State) (l : Line) (b : BufId) (d : DriveId) (force : Bool) : State :=
  if (s.vol d).state = .foreign then (s.releaseVolume d).answer l b (.ok [])
  else
    match s.cw.others d l with
    | [] => s.beginDrain d l b
    | c :: _ =>
      if force then (s.breakOthers d l).beginDrain d l b else s.answer l b (.refused .claimed (some c.holder))

/-- EJECT (R121); a set force flag from another class than CONSOLE, as the line had it when the request was examined (R182
item 2), is refused first (DEDUCED, unsafe: log 21). -/
def execEject (l : Line) (b : BufId) (s : State) : Out :=
  .next (s.onRequest l b codeEject fun h s =>
    if flagAt h.body 1 ∧ h.cls ≠ .console then s.answer l b (.refuse .notPermitted)
    else s.gated l b h.body .eject true fun d s => s.ejectAt l b d (flagAt h.body 1))

/-! ### PREPARE VOLUME (R124) -/

/-- R124 item 2: a MOUNTED volume that is not safe to prepare. -/
def State.unsafeToPrepare (s : State) (d : DriveId) : Bool :=
  (s.vol d).state == .mounted
    && (s.cw.claims.any (fun c => c.drive == d) || (s.drive d).queue.any Request.isDeskWrite
        || !(s.vol d).dirtySet.isEmpty)

/-- A PREPARE VOLUME that the gate has admitted (R124 items 1 to 4). -/
def State.prepareAt (s : State) (l : Line) (b : BufId) (d : DriveId) (body : List Byte) : State :=
  let lv := (s.drive d).levels
  let r := prepareFields body
  if lv.writeProtect then s.answer l b (.refuse .writeProtected)
  else if s.unsafeToPrepare d then s.answer l b (.refuse .wrongState)
  else
    match quantize r lv.twoSided with
    | none => s.answer l b (.refuse .outOfRange)
    | some q => s.beginPrepare d l b r.info q

/-- PREPARE VOLUME (R124). -/
def execPrepareVolume (l : Line) (b : BufId) (s : State) : Out :=
  .next (s.onRequest l b codePrepareVolume fun h s =>
    s.gated l b h.body .prepare true fun d s => s.prepareAt l b d h.body)

end Sys2Proof.Machine
end

