-- ==== Sys2Proof/Machine/Dispatch.lean ====
section
/-! DEFINITION. The dispatcher: one arm per command, in the order of spec/opcode_table.json. -/
namespace Sys2Proof.Machine

def exec (i : Instr) (s : State) : Host.Outcome State Fault Refusal :=
  match i with
  | .volumeStatus l b => Sys2Proof.Machine.execVolumeStatus l b s
  | .eject l b => Sys2Proof.Machine.execEject l b s
  | .prepareVolume l b => Sys2Proof.Machine.execPrepareVolume l b s
  | .lookup l b => Sys2Proof.Machine.execLookup l b s
  | .listStories l b => Sys2Proof.Machine.execListStories l b s
  | .createStory l b => Sys2Proof.Machine.execCreateStory l b s
  | .readBlock l b => Sys2Proof.Machine.execReadBlock l b s
  | .writeBlock l b => Sys2Proof.Machine.execWriteBlock l b s
  | .fileStory l b => Sys2Proof.Machine.execFileStory l b s
  | .moveStory l b => Sys2Proof.Machine.execMoveStory l b s
  | .spike l b => Sys2Proof.Machine.execSpike l b s
  | .revive l b => Sys2Proof.Machine.execRevive l b s
  | .purge l b => Sys2Proof.Machine.execPurge l b s
  | .readClock l b => Sys2Proof.Machine.execReadClock l b s
  | .setClock l b => Sys2Proof.Machine.execSetClock l b s
  | .openStory l b => Sys2Proof.Machine.execOpenStory l b s
  | .release l b => Sys2Proof.Machine.execRelease l b s
  | .breakClaim l b => Sys2Proof.Machine.execBreakClaim l b s
  | .watchSet l b => Sys2Proof.Machine.execWatchSet l b s
  | .watchStatus l b => Sys2Proof.Machine.execWatchStatus l b s
  | .watchClear l b => Sys2Proof.Machine.execWatchClear l b s
  | .lineStatus l b elapsedUs => Sys2Proof.Machine.execLineStatus l b elapsedUs s
  | .configure l b => Sys2Proof.Machine.execConfigure l b s
  | .driveStatus l b => Sys2Proof.Machine.execDriveStatus l b s
  | .statistics l b => Sys2Proof.Machine.execStatistics l b s
  | .clearDrive l b => Sys2Proof.Machine.execClearDrive l b s
  | .sweep l b => Sys2Proof.Machine.execSweep l b s
  | .rawRead l b => Sys2Proof.Machine.execRawRead l b s
  | .restart l b => Sys2Proof.Machine.execRestart l b s
  | .characterReceived l c framingError => Sys2Proof.Machine.execCharacterReceived l c framingError s
  | .frameTimerExpiry l => Sys2Proof.Machine.execFrameTimerExpiry l s
  | .frameComplete l => Sys2Proof.Machine.execFrameComplete l s
  | .replyFrameSent l => Sys2Proof.Machine.execReplyFrameSent l s
  | .rateChangeEffect l => Sys2Proof.Machine.execRateChangeEffect l s
  | .linePresentFalls l => Sys2Proof.Machine.execLinePresentFalls l s
  | .linePresentRises l => Sys2Proof.Machine.execLinePresentRises l s
  | .silenceTimerExpiry l => Sys2Proof.Machine.execSilenceTimerExpiry l s
  | .readyRises d => Sys2Proof.Machine.execReadyRises d s
  | .readyDrops d => Sys2Proof.Machine.execReadyDrops d s
  | .indexPulse d elapsedUs => Sys2Proof.Machine.execIndexPulse d elapsedUs s
  | .indexPeriodTimeout d => Sys2Proof.Machine.execIndexPeriodTimeout d s
  | .speedReached d => Sys2Proof.Machine.execSpeedReached d s
  | .speedFault d => Sys2Proof.Machine.execSpeedFault d s
  | .noIndexTimeout d => Sys2Proof.Machine.execNoIndexTimeout d s
  | .driveFaultAsserted d => Sys2Proof.Machine.execDriveFaultAsserted d s
  | .senseLevelChange d which level => Sys2Proof.Machine.execSenseLevelChange d which level s
  | .recalStepEnd d => Sys2Proof.Machine.execRecalStepEnd d s
  | .recalSettleEnd d => Sys2Proof.Machine.execRecalSettleEnd d s
  | .moveStepEnd d => Sys2Proof.Machine.execMoveStepEnd d s
  | .settleTimerEnd d => Sys2Proof.Machine.execSettleTimerEnd d s
  | .headLoadTimerEnd d => Sys2Proof.Machine.execHeadLoadTimerEnd d s
  | .unloadDelayReached d => Sys2Proof.Machine.execUnloadDelayReached d s
  | .selection d elapsedUs => Sys2Proof.Machine.execSelection d elapsedUs s
  | .channelGrant => Sys2Proof.Machine.execChannelGrant s
  | .idFieldAccepted f => Sys2Proof.Machine.execIdFieldAccepted f s
  | .dataWindowExpired => Sys2Proof.Machine.execDataWindowExpired s
  | .dataFieldRead f => Sys2Proof.Machine.execDataFieldRead f s
  | .dataFieldWritten => Sys2Proof.Machine.execDataFieldWritten s
  | .attemptEnd => Sys2Proof.Machine.execAttemptEnd s
  | .volumeDrainComplete d => Sys2Proof.Machine.execVolumeDrainComplete d s
  | .supplyBelowInhibit us => Sys2Proof.Machine.execSupplyBelowInhibit s us
  | .supplyAtRestore => Sys2Proof.Machine.execSupplyAtRestore s
  | .supplyBelowRestore => Sys2Proof.Machine.execSupplyBelowRestore s
  | .restoreTimerExpiry => Sys2Proof.Machine.execRestoreTimerExpiry s
  | .longInhibitTimerExpiry => Sys2Proof.Machine.execLongInhibitTimerExpiry s
  | .clockSecond => Sys2Proof.Machine.execClockSecond s
  | .powerOn inputs => Sys2Proof.Machine.execPowerOn inputs s
  | .externalResetAsserted lowCurrentHigh => Sys2Proof.Machine.execExternalResetAsserted lowCurrentHigh s
  | .externalResetReleased straps => Sys2Proof.Machine.execExternalResetReleased straps s
  | .selfTestComplete failed => Sys2Proof.Machine.execSelfTestComplete failed s
  | .partRunning => Sys2Proof.Machine.execPartRunning s
  | .drainTimerExpiry us => Sys2Proof.Machine.execDrainTimerExpiry s us
  | .drainEnd straps => Sys2Proof.Machine.execDrainEnd straps s
  | .formatFieldFinished => Sys2Proof.Machine.execFormatFieldFinished s

end Sys2Proof.Machine
end

