-- ==== Sys2Proof/Safety.lean ====
section
/-! DEFINITION. The terms in which claims about the part are made: a request that waits for its owner, a reply that has
joined its line's reply order, what a change of the index leaves alone, and the spec's promises about every state that can
be reached, as invariants. -/
namespace Sys2Proof.Machine

/-! ### Requests and their replies -/

/-- The request `h` with a code waits for its owner in buffer `b` of line `l` (R174 item 4): its desk is there (no orphan
mark), the part is not held in reset, and the transmitter is idle exactly when no reply waits (R177). -/
structure State.Waiting (s : State) (l : Line) (b : BufId) (code : Byte) (h : Held) : Prop where
  live    : s.part.extReset = false
  held    : s.buffer l b = some h
  named   : h.code = code
  stage   : h.stage = .inProgress
  untaken : h.taken = false
  owned   : h.orphan = false
  sending : (s.line l).tx = none ↔ (s.line l).order = []

/-- The line unit with the reply `r` of the request `h` of buffer `b` at the end of its reply order (R176); on the line at
once when no other waits (R177). -/
def LineUnit.replied (u : LineUnit) (b : BufId) (h : Held) (r : Reply) : LineUnit :=
  { u with
    bufs := u.bufs.set b.val (some { h with
      taken := true, stage := if u.order = [] then .sending else .complete, reply := some r }) b.isLt,
    order := u.order ++ [ReplySlot.buf b],
    tx := if u.order = [] then some (replyFrame h.tag h.code r) else u.tx }

/-- The line unit with the reply `p`, which has no buffer, in the pending place and at the end of the reply order, its
receive area in HUNT (R173, R177); on the line at once when no other reply waits. -/
def LineUnit.pended (u : LineUnit) (p : PendingReply) : LineUnit :=
  { u with
    rx := .hunt, pendingReply := some p, order := u.order ++ [ReplySlot.pendingPlace],
    tx := if u.order = [] then some (replyFrame p.tag p.code p.reply) else u.tx }

/-- The line unit with a frame abandoned (R172): counted, and a LINE-FAULT with tag 0 in the pending place if it is
free. -/
def LineUnit.abandoning (u : LineUnit) (k : LineFaultKind) : LineUnit :=
  let u1 := { u with rx := .hunt, abandoned := min 65535 (u.abandoned + 1) }
  if u.pendingReply = none then u1.pended { tag := 0#8, code := 0#8, reply := .lineFault k } else u1

/-- `s` with the request `h` of buffer `b` of line `l` answered by `r`, and nothing else changed. -/
def State.replied (s : State) (l : Line) (b : BufId) (h : Held) (r : Reply) : State :=
  s.modLine l fun u => u.replied b h r

/-- `s` with the request `h` of buffer `b` of line `l` in its owner's hands, not answered, and nothing else changed. -/
def State.takenBy (s : State) (l : Line) (b : BufId) (h : Held) : State :=
  s.modLine l fun u => u.setBuf b (some { h with taken := true })

/-- The request held in a buffer has been given the reply `r`. -/
def State.hasReply (s : State) (l : Line) (b : BufId) (r : Reply) : Prop :=
  ∃ h, s.buffer l b = some h ∧ h.stage ≠ .inProgress ∧ h.reply = some r

/-! ### What a command leaves alone -/

/-- Of the drives, regions and volumes only those of drive `d` may differ. -/
structure State.OthersKept (s t : State) (d : DriveId) : Prop where
  drives  : ∀ e, e ≠ d → t.drive e = s.drive e
  regions : ∀ e, e ≠ d → t.region e = s.region e
  vols    : ∀ e, e ≠ d → t.vol e = s.vol e

/-- The write-back waiter of a request that changed the entry `n` (R148). -/
def changeWaiter (p : Profile) (n : Nat) (l : Line) (b : BufId) (clamped : Bool) : Waiter :=
  { sector := p.sectorOf n, line := l, buf := b, covered := false, handle := n, clamped := clamped, kind := .change }

/-- What a story request that changes one entry leaves: the entry `n` of drive `d` has changed to `e` and is alone in
that; the request waits in the hands of its owner as the last write-back waiter of the entry's index sector, which is
no longer CLEAN (R148); at most two INDEX-WRITEs have joined the drive queue (R149); the free set is `free`; nothing else
of the part has changed, but for the claim and watch unit and the arrival counter. -/
structure State.ChangedEntry (s t : State) (l : Line) (b : BufId) (h : Held) (d : DriveId) (p : Profile) (n : Nat)
    (e : Entry) (clamped : Bool) (free : List Nat) : Prop where
  lines   : t.lines = (s.takenBy l b h).lines
  others  : s.OthersKept t d
  rest    : t.channel = s.channel ∧ t.regions = s.regions ∧ t.cfg = s.cfg ∧ t.part = s.part ∧ t.clock = s.clock
              ∧ t.mem = s.mem ∧ t.pending = s.pending
  queue   : ∃ q, t.drive d = { s.drive d with queue := (s.drive d).queue ++ q } ∧ q.length ≤ 2
              ∧ ∀ r ∈ q, ∃ j, r.kind = .indexWrite j
  volume  : t.vol d = { s.vol d with
              entries := (t.vol d).entries, sectors := (t.vol d).sectors, waiters := (t.vol d).waiters, free := free }
  entry   : (t.vol d).entry n = e
  alone   : ∀ m, m ≠ n → (t.vol d).entry m = (s.vol d).entry m
  dirty   : (t.vol d).sector (p.sectorOf n) ≠ .clean
  waiter  : (t.vol d).waiters = (s.vol d).waiters ++ [changeWaiter p n l b clamped]

/-- A story request that names the handle `n` of drive `d` waits for the Volume Manager, has passed the gate for its group
and names an entry below the index capacity of the volume's profile `p`, which holds `e` (R112, R133 item 1); the entry's
index sector is one of the volume's (R14). -/
structure State.StoryAsked (s : State) (l : Line) (b : BufId) (h : Held) (code : Byte) (g : Group) (d : DriveId)
    (p : Profile) (n : Nat) (e : Entry) : Prop where
  waiting  : s.Waiting l b code h
  drive    : driveOf (byteAt h.body 0) = some d
  admitted : s.gateReason d g true = none
  profile  : (s.vol d).profile = some p
  handle   : byteAt h.body 1 = n
  below    : n < p.capacity
  entry    : (s.vol d).entry n = e
  sector   : p.sectorOf n < (s.vol d).sectors.length

/-- The event `k` of the story `n` of drive `d`, in a basket, caused by line `l` (R161). -/
def storyEvent (k : EventKind) (d : DriveId) (n basket : Nat) (l : Line) : Event :=
  { kind := k, drive := d, handle := n, basket := basket, cause := l }

/-- The claim and watch unit after the claim on a story is released (R157). -/
def ClaimUnit.freed (c : ClaimUnit) (d : DriveId) (n basket : Nat) (l : Line) : ClaimUnit :=
  (c.remove d n).raise (storyEvent .claimFreed d n basket l)

/-- The basket of the story a claim is on (R161). -/
def State.claimBasket (s : State) (x : Claim) : Nat := ((s.vol x.drive).entry x.handle).basket

/-- The claim and watch unit after claims `xs` are released one after the other by line `l`, each CLAIM-FREED with the
basket of its story (R159, R161). -/
def ClaimUnit.freedAll (c : ClaimUnit) (xs : List Claim) (basket : Claim → Nat) (l : Line) : ClaimUnit :=
  xs.foldl (fun c x => c.freed x.drive x.handle (basket x) l) c

/-- The claim and watch unit after claims `xs` on drive `d` are broken one after the other by line `l` (R158 item 3, R160):
each former holder's claim-broken flag names the story, and CLAIM-FREED is raised. -/
def ClaimUnit.brokenAll (c : ClaimUnit) (d : DriveId) (xs : List Claim) (basket : Claim → Nat) (l : Line) : ClaimUnit :=
  xs.foldl (fun c x =>
    ({ c with broken := c.broken.set x.holder.val (some (d, x.handle)) x.holder.isLt } : ClaimUnit).freed d x.handle
      (basket x) l) c

/-- A request record of desk origin as it is placed (R71 item 1): QUEUED, passed over by none. -/
def Request.Placed (r : Request) (l : Line) (k : ReqKind) (pl : Place) (arrival : Nat) : Prop :=
  r.origin = .desk l ∧ r.kind = k ∧ r.cylinder = pl.cylinder ∧ r.head = pl.head ∧ r.state = .queued ∧ r.passed = 0
    ∧ r.arrival = arrival

/-! ### The operation in service -/

/-- The channel is granted to drive `d`, whose selected request `r` it serves with the operation record `o` (R46). -/
structure State.Serving (s : State) (d : DriveId) (r : Request) (o : OpRecord) : Prop where
  granted  : s.channel.granted = some d
  selected : (s.drive d).selected = some r
  record   : s.op d = some o

/-- The channel is looking for ID fields on cylinder `c`, no data field being awaited (R47, R48). -/
structure State.Seeking (s : State) (d : DriveId) (r : Request) (o : OpRecord) (c : Nat) : Prop extends
    s.Serving d r o where
  gate     : s.channel.gate = none
  awaiting : o.awaiting = none
  pulses   : o.pulses < 2
  wrong    : o.wrong < 2
  cylinder : (s.drive d).pos.cylinder = some c

/-- The channel awaits the data field of sector `k` (R5). -/
structure State.Awaiting (s : State) (d : DriveId) (r : Request) (o : OpRecord) (k : Nat) : Prop extends
    s.Serving d r o where
  gate     : s.channel.gate = none
  awaiting : o.awaiting = some k
  pulses   : o.pulses < 2
  wrong    : o.wrong < 2

/-- An ID field that the channel accepts (R3, R6, R9): it follows a sync field and its check is good. -/
def IdAccepted (f : IdField) : Prop := 4 ≤ f.sync ∧ idGood f = true

/-- R6 items 1 to 3: the ID field names a sector of the request's profile on the head being read. -/
def Request.FitsId (r : Request) (f : IdField) : Prop :=
  f.sizeCode.toNat = r.profile.sizeCode ∧ 1 ≤ f.sectorId.toNat ∧ f.sectorId.toNat ≤ r.profile.spt
    ∧ f.head.toNat = r.head

/-- An accepted ID field that names sector `k` of the request's track on cylinder `c` (R6 item 5). -/
structure Request.NamedBy (r : Request) (f : IdField) (c k : Nat) : Prop where
  accepted : IdAccepted f
  fits     : r.FitsId f
  cylinder : f.cylinder.toNat = c
  sector   : f.sectorId.toNat = k

/-- A data field of the request's profile that the channel reads good (R3, R7, R9). -/
def Request.GoodData (r : Request) (f : DataField) : Prop := 4 ≤ f.sync ∧ dataGood r.profile.bytes f = true

/-- A data field of the request's profile that the channel reads as a data-field failure (R3, R7, R9), one of another length
among them (DESIGN CHOICE, unsafe: log 25). -/
def Request.BadData (r : Request) (f : DataField) : Prop := 4 ≤ f.sync ∧ dataGood r.profile.bytes f = false

/-- The requests of drive `d` that are left when the selected one leaves its queue (R74). -/
def State.left (s : State) (d : DriveId) : List Request := (s.drive d).queue.filter fun x => x.state == .queued

/-- The operation of drive `d` has ended and its request has left the queue (R44, R74): the channel is IDLE and granted to
no drive, nothing is kept of the operation, and no other drive, region or volume has changed. -/
def State.EndedTo (s t : State) (d : DriveId) : Prop :=
  t.channel.granted = none ∧ t.channel.state = .idle ∧ t.channel.gate = none ∧ t.op d = none
    ∧ (t.drive d).queue = s.left d ∧ s.OthersKept t d

/-- The buffer holds the request `h`, in progress at its owner and without the orphan mark (R175). -/
def State.InProgress (s : State) (l : Line) (b : BufId) (h : Held) : Prop :=
  s.buffer l b = some h ∧ h.stage = .inProgress ∧ h.orphan = false

/-- The buffer memory is in its canonical form. -/
def State.memoryCanonical (s : State) : Prop := s.mem.wf = true

/-- Of the buffer memory only the bytes of sector `k` of frame `i` of region `d` may have changed, on tracks of the profile `p`,
and they hold `data` (R92, R103). -/
def State.StoredAt (s t : State) (d : DriveId) (i : Nat) (p : ReadProfile) (k : Nat) (data : List Byte) : Prop :=
  t.frameData d i p k = data
    ∧ ∀ a, (a < frameAddr d i p.spt p.bytes k ∨ frameAddr d i p.spt p.bytes k + p.bytes ≤ a) → t.mem.read a = s.mem.read a

/-- A write of `data` to sector `k` of the track of `r` that has ended successfully has been written through (R103): into the
VALID frame of its track, where the sector is now GOOD and the fill number as it was; no other byte of the buffer memory and
no other frame has changed. With no such frame nothing is stored and the region is as it was. -/
structure State.WroteThrough (s t : State) (d : DriveId) (r : Request) (k : Nat) (data : List Byte) : Prop where
  stored  : ∀ i n conds, s.memoryCanonical → frameWhere (Frame.validFor r.cylinder r.head) (s.region d).frames = some i →
              (s.region d).frame i = .valid r.cylinder r.head n conds → data.length = r.profile.bytes →
              s.StoredAt t d i r.profile k data
              ∧ (t.region d).frame i = .valid r.cylinder r.head n (conds.set (k - 1) .good)
              ∧ ∀ j, j ≠ i → (t.region d).frame j = (s.region d).frame j
  nowhere : (∀ f ∈ (s.region d).frames, f.validFor r.cylinder r.head = false) →
              t.mem = s.mem ∧ t.region d = s.region d

/-- The FILL `r` of frame `i` has ended with the conditions `notes` and the sectors `recovered`, `n` wanted ones failing
(R53, R69, R100): the frame is VALID with the next fill number (in a CLOSING region the region is SHUT), each reader is
answered by the condition of its sector, and the operation is over. -/
structure State.FillEnds (s t : State) (d : DriveId) (r : Request) (i : Nat) (notes : List SectorNote)
    (recovered : List Nat) (n : Nat) : Prop where
  ended   : s.EndedTo t d
  failed  : t.channel.failed = min 65535 (s.channel.failed + n)
  valid   : (s.region d).state ≠ .closing → i < (s.region d).frames.length →
              (t.region d).frame i = .valid r.cylinder r.head ((s.region d).validCount + 1) (notes.map fun x =>
                match x with
                | .good => .good
                | .bad => .bad
                | .absent | .unrecorded => .absent)
              ∧ ∀ j, j ≠ i → (t.region d).frame j = (s.region d).frame j
  shut    : (s.region d).state = .closing → (t.region d).state = .shut ∧ (t.region d).frames = []
  answers : ∀ rd h, rd ∈ ((s.region d).frame i).readers → s.InProgress rd.line rd.buf h → h.reply = none →
              (∀ x ∈ ((s.region d).frame i).readers, x.line = rd.line → x.buf = rd.buf → x = rd) →
              t.hasReply rd.line rd.buf
                (match (notes[rd.sector - 1]?).getD .absent with
                 | .good => .done false (recovered.contains rd.sector) (h.body.take 4
                     ++ be2 (t.frameData d i r.profile rd.sector).length ++ t.frameData d i r.profile rd.sector)
                 | .bad => .failed .readCheck
                 | .absent | .unrecorded => .failed .notFound)
  rest    : t.vols = s.vols ∧ t.cw = s.cw ∧ t.cfg = s.cfg ∧ t.part = s.part ∧ t.clock = s.clock

/-- The margin records of drive `d` after its operation has been cut off (R68 item 4, DEDUCED, unsafe: log 15): those that it
had taught are put back, adjusted to the allowed range (R62), and every other one stays. -/
def State.MarginsBack (s t : State) (d : DriveId) : Prop :=
  (s.op d = none → ∀ e z, t.margin e z = s.margin e z)
  ∧ ∀ o, s.op d = some o →
      (∀ e z, (e ≠ d ∨ ∀ m, (z, m) ∉ o.undo) → t.margin e z = s.margin e z)
      ∧ ∀ z m, (z, m) ∈ o.undo → (∀ m', (z, m') ∈ o.undo → m' = m) →
          t.margin d z = m.adjust s.cfg.strobeMin s.cfg.strobeMax

/-- A good data field read at ladder step 2 with the strobe of `o` has taught the margin record of its drive and zone (R61):
the strobe's lean count rises by one, once for the operation, and from 2 the strobe becomes preferred with every lean count
0. Nothing is taught by the strobe that is preferred already (DEDUCED, unsafe: log 50), nor to another record. -/
structure State.Taught (s t : State) (d : DriveId) (o : OpRecord) : Prop where
  kept  : ∀ e z, (e ≠ d ∨ z ≠ o.zone ∨ o.strobe ∈ o.learned ∨ o.strobe = (s.margin d o.zone).preferred) →
            t.margin e z = s.margin e z
  rises : o.strobe ∉ o.learned → o.strobe ≠ (s.margin d o.zone).preferred → (s.margin d o.zone).lean o.strobe < 2 →
            (t.margin d o.zone).preferred = (s.margin d o.zone).preferred
            ∧ ∀ x, (t.margin d o.zone).lean x =
                (s.margin d o.zone).lean x + if x = o.strobe then 1 else 0
  wins  : o.strobe ∉ o.learned → o.strobe ≠ (s.margin d o.zone).preferred → 2 ≤ (s.margin d o.zone).lean o.strobe →
            (t.margin d o.zone).preferred = o.strobe ∧ ∀ x, (t.margin d o.zone).lean x = 0

/-- The record of an operation after a strobe of step 2 has succeeded (R61): the strobe has counted, and what its record was
before the operation is kept, to be put back if the operation is cut off (R68 item 4, DEDUCED, unsafe: log 15). -/
def OpRecord.taught (o : OpRecord) (m : Margin) : OpRecord :=
  if o.strobe ∈ o.learned then o
  else { o with learned := o.learned ++ [o.strobe],
                undo := if o.undo.any (fun x => x.1 == o.zone) then o.undo else (o.zone, m) :: o.undo }

/-- A write of one sector as its owner places it: a desk WRITE, an INDEX-WRITE, or a WRITE that carries a step of PREPARE
VOLUME (R56, R58). -/
def Request.WritesSector (r : Request) : Prop :=
  (∃ l b x, r.origin = .desk l ∧ r.kind = .write b x)
    ∨ r.origin = .volume ∧ ((∃ j, r.kind = .indexWrite j) ∨ ∃ st, r.kind = .prepWrite st)

/-- The preferred strobe of drive `d` in the zone of the request's cylinder (R46, R60). -/
def State.preferredFor (s : State) (d : DriveId) (r : Request) : Strobe :=
  (s.margin d (zoneOf s.cfg.innerStart r.cylinder)).preferred

/-- `s` with a new attempt of the operation `o` begun, with the strobe `x` and in the channel state `y` (R46 to R49). -/
def State.attempting (s : State) (d : DriveId) (r : Request) (o : OpRecord) (x : Strobe) (y : ChanState) : State :=
  (s.setOp d (some { o with zone := zoneOf s.cfg.innerStart r.cylinder, strobe := x, wrong := 0, pulses := 0,
                            awaiting := none, acted := false })).chanState y

/-- The operation has gone to ladder step 3 with the record `o` (R50): the channel is released, the request waits in
RECAL-WAIT and the drive recalibrates. The buffer memory stands. -/
def State.GivenUp (s t : State) (d : DriveId) (r : Request) (o : OpRecord) : Prop :=
  t.channel.granted = none ∧ t.channel.state = .idle ∧ t.op d = some { o with step := .three }
    ∧ (t.drive d).selected = some { r with state := .recalWait }
    ∧ ((s.drive d).levels.trackZero = false → (t.drive d).pos.state = .recalibrating ∧ (t.drive d).pos.remaining = 79)
    ∧ ((s.drive d).levels.trackZero = true → (s.drive d).reportDue = false →
        (t.drive d).pos.state = .moving ∧ (t.drive d).pos.target = some r.cylinder ∧ (t.drive d).pos.headLoaded = true)
    ∧ s.OthersKept t d ∧ t.lines = s.lines ∧ t.mem = s.mem ∧ ∀ e z, e ≠ d → t.margin e z = s.margin e z

/-- The write in service has been suspended with the record `o` (R65): the channel is free, the request stays selected and
its drive asks. The buffer memory stands. -/
def State.Suspended (s t : State) (d : DriveId) (r : Request) (o : OpRecord) : Prop :=
  t.channel.granted = none ∧ t.channel.state = .idle ∧ t.channel.gate = none ∧ t.channel.asking.get d = true
    ∧ t.op d = some o ∧ (t.drive d).selected = some { r with state := .selected } ∧ s.OthersKept t d
    ∧ t.lines = s.lines ∧ t.vols = s.vols ∧ t.regions = s.regions ∧ t.mem = s.mem

/-- The write `r` has ended with the cause `c` (R44, R51, R57, R104): a desk WRITE is answered with it and is a write-back
waiter no more (R139 item 1), an INDEX-WRITE is an index fault of the volume (R152), through which an extending WRITE BLOCK
with its data WRITE in the queue waits for that WRITE (R139 item 4), a step of PREPARE VOLUME ends the preparation (R126). No
byte of the buffer memory changes. No read is counted (DEDUCED, unsafe: log 17). -/
structure State.WriteFails (s t : State) (d : DriveId) (r : Request) (c : Cause) : Prop where
  freed   : t.channel.granted = none ∧ t.channel.state = .idle ∧ t.channel.gate = none ∧ t.op d = none
              ∧ s.OthersKept t d
  queue   : (∀ j, r.kind = .indexWrite j → ∀ w ∈ (s.vol d).waiters, w.kind ≠ .extending none) →
              (t.drive d).queue = s.left d
  desk    : ∀ l b x, r.origin = .desk l → r.kind = .write b x →
              t.vol d = { s.vol d with
                heldGranule := none, waiters := (s.vol d).waiters.filter fun w => !(w.line == l && w.buf == b) }
              ∧ ∀ h, s.InProgress l b h → t.hasReply l b (.failed c)
  index   : ∀ j, r.kind = .indexWrite j →
              t.vol d = { s.vol d with
                indexFault := true, state := if (s.vol d).state = .mounted then .readOnly else (s.vol d).state,
                free := [], heldGranule := none, waiters := [], sectors := (s.vol d).sectors.set j .dirty }
              ∧ (∀ w y, w ∈ (s.vol d).waiters → w.kind ≠ .extending none → s.InProgress w.line w.buf y →
                  t.hasReply w.line w.buf (.failed .indexFault))
              ∧ ∀ w x, w ∈ (s.vol d).waiters → w.kind = .extending none → x ∈ s.left d → x.origin = .desk w.line →
                  x.kind = .write w.buf (some .waiting) →
                  { x with kind := .write w.buf (some .faulted) } ∈ (t.drive d).queue
  prepare : ∀ st, r.kind = .prepWrite st →
              t.vol d = { s.vol d with
                state := .foreign, foreign := some .incomplete, profile := none, labelArea := [], staging := [],
                sectors := [], pendingReq := none, newLabel := none, tracksFormatted := 0 }
              ∧ ∀ l b h clamped, (s.vol d).pendingReq = some (.prepare l b clamped) → s.InProgress l b h →
                  t.hasReply l b (.failed c)
  frames  : r.granted = true → (s.region d).frames.countP (Frame.validFor r.cylinder r.head) ≤ 1 →
              ∀ g ∈ (t.region d).frames, g.validFor r.cylinder r.head = false
  counts  : t.channel.failed = s.channel.failed ∧ t.channel.recovered = s.channel.recovered
              ∧ t.channel.checksFailed =
                  if c = .writeCheck then min 65535 (s.channel.checksFailed + 1) else s.channel.checksFailed
  memory  : t.mem = s.mem

/-- The command `i` ends the write of sector `k` well (R57): the good data field that its write check awaits, or, with the
write-check item off, its own data field written. -/
def State.WritesGood (s : State) (d : DriveId) (r : Request) (o : OpRecord) (k : Nat) (i : Instr) : Prop :=
  (∃ f, i = .dataFieldRead f ∧ s.Awaiting d r o k ∧ s.channel.state = .writeCheck ∧ r.GoodData f)
    ∨ i = .dataFieldWritten ∧ s.Serving d r o ∧ s.channel.state = .write ∧ s.channel.gate ≠ none
        ∧ s.cfg.writeCheck = false ∧ s.part.drainOver = false

/-- A write of drive `d` that the long inhibit gives up: it is QUEUED, or SELECTED with its drive in the asking set (R66). -/
def State.HeldBack (s : State) (d : DriveId) (r : Request) : Prop :=
  r ∈ (s.drive d).queue ∧ r.kind.isWrite = true
    ∧ (r.state = .queued ∨ (s.drive d).selected = some r ∧ s.channel.asking.get d = true)

/-- The gate `g` of a format of the request `r`, open for `us` microseconds, is writing an ID field (mark, four bytes and two
check bytes) or a data field (mark, the profile's bytes and two check bytes) of its track (R4 item 2, R64 item 2). -/
def Request.InField (r : Request) (g : Gate) (us : Nat) : Prop :=
  let n := bytesIn g.recording us
  n < g.items.length ∧ ∃ j, j ≤ n
    ∧ (g.items[j]? = some (.mark .id) ∧ n < j + 7
        ∨ g.items[j]? = some (.mark .data) ∧ n < j + 1 + r.profile.bytes + 2)

/-- The check of a format that has collected the record `o` is good (R59): every sector ID of the track is named exactly once,
each data field read is good, and none is cut short. -/
def OpRecord.CheckedGood (o : OpRecord) (spt : Nat) : Prop :=
  o.awaiting = none ∧ o.checkBad = false ∧ ∀ k, 1 ≤ k → k ≤ spt → o.checkSeen.count k = 1 ∧ k ∈ o.checkGood

/-- The command `i` fails the check of the write of one sector in service (R57): its data field bad or missing, its attempt
ended without its sector, or a seek fault, in WRITE-CHECK or in the search of a rewrite. -/
def State.CheckFails (s : State) (d : DriveId) (r : Request) (o : OpRecord) (i : Instr) : Prop :=
  (∃ k, s.Awaiting d r o k ∧ s.channel.state = .writeCheck
      ∧ ((∃ f, i = .dataFieldRead f ∧ r.BadData f) ∨ i = .dataWindowExpired))
    ∨ (s.channel.state = .writeCheck ∨ 1 ≤ o.writes)
      ∧ (s.Serving d r o ∧ s.channel.gate = none ∧ o.pulses = 2 ∧ i = .attemptEnd
        ∨ ∃ c f, s.Seeking d r o c ∧ o.wrong = 1 ∧ IdAccepted f ∧ r.FitsId f ∧ f.cylinder.toNat ≠ c
            ∧ i = .idFieldAccepted f)

/-- The format in service has been cut off before its check (R64, R191): the gate is closed, the channel granted to none and
IDLE, and nothing outside the drive and the channel has changed. -/
def State.FormatCut (s t : State) (d : DriveId) : Prop :=
  t.channel.gate = none ∧ t.channel.granted = none ∧ t.channel.state = .idle ∧ s.OthersKept t d
    ∧ t = { s with drives := t.drives, channel := t.channel }

/-- The write `r` of drive `d` has come to wait during the long inhibit and is withdrawn at that moment (R66): its drive asks
no more and nothing is kept of it. A desk WRITE is answered FAILED POWER-LOW and is a write-back waiter no more; the sector of
an INDEX-WRITE is DIRTY again, its waiters uncovered and waiting; a step of PREPARE VOLUME ends the preparation FAILED
POWER-LOW with the volume FOREIGN, INCOMPLETE (R126). The VALID frame of a track that the channel had served for it is
emptied (R104), the bytes of the buffer memory standing. -/
structure State.PowerLow (s t : State) (d : DriveId) (r : Request) : Prop where
  gone    : t.op d = none ∧ t.channel.asking.get d = false ∧ s.OthersKept t d
  desk    : ∀ l b x, r.origin = .desk l → r.kind = .write b x →
              t.vol d = { s.vol d with
                heldGranule := none, waiters := (s.vol d).waiters.filter fun w => !(w.line == l && w.buf == b) }
              ∧ ∀ h, s.InProgress l b h → t.hasReply l b (.failed .powerLow)
  index   : ∀ j, r.kind = .indexWrite j → t.lines = s.lines
              ∧ t.vol d = { s.vol d with
                sectors := (s.vol d).sectors.set j .dirty,
                waiters := (s.vol d).waiters.map fun w => if w.sector = j then { w with covered := false } else w }
  prepare : (r.kind = .formatTrack ∨ ∃ st, r.kind = .prepWrite st) →
              t.vol d = { s.vol d with
                state := .foreign, foreign := some .incomplete, profile := none, labelArea := [], staging := [],
                sectors := [], pendingReq := none, newLabel := none, tracksFormatted := 0 }
              ∧ ∀ l b h clamped, (s.vol d).pendingReq = some (.prepare l b clamped) → s.InProgress l b h →
                  t.hasReply l b (.failed .powerLow)
  frames  : (r.granted = true ∨ r.kind = .formatTrack) →
              (s.region d).frames.countP (Frame.validFor r.cylinder r.head) ≤ 1 →
              ∀ g ∈ (t.region d).frames, g.validFor r.cylinder r.head = false
  memory  : t.mem = s.mem

/-- The selection rule (R75 to R80) chooses the request `r`, in place `k` of the queue of drive `d` with its head on cylinder
`c`, `us` microseconds after the last pulse: of the QUEUED requests that no older one bars, the oldest at the bypass limit;
else the cheapest eligible one; else the cheapest of all; the older of two as cheap. -/
def State.Chosen (s : State) (d : DriveId) (us c k : Nat) (r : Request) : Prop :=
  let q := (s.drive d).queue
  let cost (r : Request) : Nat := costOf s.cfg (s.vol d).serviceSpt (s.drive d).pos.headLoaded c us r
  let cand (i : Nat) (r : Request) : Prop := q[i]? = some r ∧ r.state = .queued
    ∧ ∀ j y, j < i → q[j]? = some y → y.bars r = false
  let forced (i : Nat) (r : Request) : Prop := cand i r ∧ r.passed = s.cfg.bypass
  let able (i : Nat) (r : Request) : Prop := cand i r ∧ r.eligible s.cfg (s.drive d).patternStep = true
  let best (ok : Nat → Request → Prop) : Prop := ok k r ∧ ∀ i x, ok i x → cost r ≤ cost x ∧ (cost x = cost r → k ≤ i)
  (forced k r ∧ ∀ i x, forced i x → k ≤ i)
    ∨ ((∀ i x, ¬ forced i x) ∧ best able)
    ∨ ((∀ i x, ¬ forced i x) ∧ (∀ i x, ¬ able i x) ∧ best cand)

/-- The drain of a RESTART has nothing left to wait for (R190 items 1 to 4): every reply DONE of a RESTART has been sent or
its line lost; no drive queue holds a WRITE, INDEX-WRITE or FORMAT-TRACK, in any state; the dirty set of every volume is
empty, or its read-only reasons are not; no volume is PREPARING. -/
structure State.Drained (s : State) : Prop where
  replies : s.part.restarts = []
  queues  : ∀ d, ∀ r ∈ (s.drive d).queue, (∀ b x, r.kind ≠ .write b x) ∧ (∀ st, r.kind ≠ .prepWrite st)
              ∧ (∀ j, r.kind ≠ .indexWrite j) ∧ r.kind ≠ .formatTrack
  dirty   : ∀ d, (∀ j, (s.vol d).sector j = .clean)
              ∨ (s.vol d).wpReason = true ∨ (s.vol d).inconsistent = true ∨ (s.vol d).indexFault = true
  volumes : ∀ d, (s.vol d).state ≠ .preparing

/-- A volume request as it is placed (R71 item 3, R72). -/
def Request.VolumePlaced (x : Request) (k : ReqKind) (cylinder head : Nat) (p : ReadProfile) (arrival : Nat) : Prop :=
  x.origin = .volume ∧ x.kind = k ∧ x.cylinder = cylinder ∧ x.head = head ∧ x.profile = p ∧ x.state = .queued
    ∧ x.passed = 0 ∧ x.arrival = arrival

/-! ### The reset state of the blocks -/

/-- The condition a drive comes out of reset in (R42, R20, R25). -/
def resetCondition (used : Bool) (v : DriveLevels) : DriveCondition :=
  if used = false then .offline
  else if v.ready = false then .empty
  else if v.driveFault then .faulted
  else .speedCheck

/-- The blocks but the line units stand as they do after a reset (R42, R70, R91, R110, R128, R168), with the levels and
straps of `i`; the counts and the fault causes aside. -/
structure State.BlocksAtReset (t : State) (i : Inputs) : Prop where
  drives  : ∀ d, (t.drive d).levels = i.drives.get d
              ∧ (t.drive d).condition =
                  resetCondition (i.straps.drivesPresent.get d && t.cfg.drivesInUse.getLsbD d.val) (i.drives.get d)
              ∧ (t.drive d).index = { pulseSeen := false, lastPeriod := none, run := 0, miss := 0 }
              ∧ ((t.drive d).noIndexTimer = true ↔ (t.drive d).condition = .speedCheck)
              ∧ (t.drive d).pos.state = .unknown ∧ (t.drive d).pos.remaining = 0 ∧ (t.drive d).pos.unload = 0
              ∧ (t.drive d).pos.headLoaded = false ∧ (t.drive d).queue = [] ∧ (t.drive d).patternStep = 0
              ∧ t.busyLamp d = false ∧ t.writeGate d = false
  channel : t.channel.state = .idle ∧ t.channel.granted = none ∧ t.channel.last = 3 ∧ t.channel.gate = none
              ∧ t.channel.supply = i.supply ∧ (t.channel.inhibit = true ↔ i.supply ≠ .restored)
              ∧ t.channel.longTimer = t.channel.inhibit ∧ t.channel.longInhibit = false
              ∧ t.channel.restoreTimer = false
  margins : ∀ d, t.channel.asking.get d = false ∧ t.op d = none ∧ t.channel.sweepFlag.get d = false
              ∧ ∀ z, t.margin d z = { preferred := clampStrobe t.cfg.strobeMin t.cfg.strobeMax .normal,
                                      leanEarly := 0, leanNormal := 0, leanLate := 0 }
  regions : ∀ d, (t.region d).state = .shut ∧ (t.region d).frames = []
  vols    : ∀ d, (t.vol d).state = .noVolume ∧ (t.vol d).profile = none ∧ (t.vol d).label = none
              ∧ (t.vol d).hasReason = false ∧ (t.vol d).foreign = none ∧ (∀ n, (t.vol d).entry n = freeEntry)
              ∧ (t.vol d).sectors = [] ∧ (t.vol d).waiters = [] ∧ (t.vol d).free = []
              ∧ (t.vol d).pendingReq = none ∧ (t.vol d).dirtyRemoval = false
  claims  : t.cw.claims = [] ∧ t.cw.counter = 0 ∧ (∀ l n, (t.cw.watches.get l).get n = .unused)
              ∧ ∀ l, t.cw.broken.get l = none ∧ t.attention l = false
  arrival : t.arrival = 0

/-- A line unit as it stands after a reset (R185), with its level, silence limit in seconds and rate, but for its
counts. -/
structure LineUnit.AtReset (u : LineUnit) (present : Bool) (limitS : Nat) (rate : Rate) : Prop where
  port    : u.present = present ∧ u.portState = if present then .idle else .absent
  buffers : ∀ b, u.bufs.get b = none
  replies : u.order = [] ∧ u.pendingReply = none ∧ u.tx = none
  receive : u.rx = .hunt
  silence : u.silence = if present then .running limitS else .stopped
  rate    : u.rate = rate

/-! ### Promises about every state -/

/-- A drive's service-pattern step is always less than its pattern period (R81). -/
def State.stepsBelowPeriod (s : State) : Prop := ∀ d : DriveId, (s.drive d).patternStep < s.cfg.period

/-- A line holds at most 6 claims, and the claim table at most 32 (R154). -/
def State.claimsBounded (s : State) : Prop :=
  s.cw.claims.length ≤ 32 ∧ ∀ l : Line, (s.cw.ofLine l).length ≤ 6

/-- A drive's queue holds at most twelve desk-originated requests and at most two volume requests (R71). -/
def State.queuesBounded (s : State) : Prop :=
  ∀ d : DriveId, (s.drive d).deskPlaces ≤ 12 ∧ (s.drive d).volumePlaces ≤ 2

/-- The queue of a FAULTED drive holds, QUEUED, only the volume requests that a fault keeps (R38 item 5, R39). -/
def State.faultedQueues (s : State) : Prop :=
  ∀ d : DriveId, (s.drive d).condition = .faulted → ∀ r ∈ (s.drive d).queue,
    r.origin = .volume ∧ r.state = .queued ∧ (r.kind = .labelRead ∨ r.kind = .indexLoad ∨ ∃ j, r.kind = .indexWrite j)

/-- A positioner as Table 2-3 gives its states: the head loaded or loading exactly in MOVING, SETTLING and ON-TRACK, the
cylinder absent exactly in UNKNOWN and RECALIBRATING, a target in MOVING and SETTLING alone. -/
def Positioner.legal (p : Positioner) : Prop :=
  (p.headLoaded = true ↔ p.state = .moving ∨ p.state = .settling ∨ p.state = .onTrack)
  ∧ (p.cylinder = none ↔ p.state = .unknown ∨ p.state = .recalibrating)
  ∧ (p.target.isSome = true ↔ p.state = .moving ∨ p.state = .settling)

/-- Every positioner is as Table 2-3 gives it. -/
def State.positionersLegal (s : State) : Prop := ∀ d : DriveId, (s.drive d).pos.legal

/-- The reply order of a line unit (R175 to R177): it lists, each once, the buffers whose request is complete, and the
pending place when it holds a reply; every complete request has a reply; the transmitter is idle exactly when the order is
empty, and a buffer is SENDING exactly when it stands first. -/
structure LineUnit.Orderly (u : LineUnit) : Prop where
  once    : u.order.Nodup
  buffers : ∀ b : BufId, ReplySlot.buf b ∈ u.order ↔ ∃ h, u.bufs.get b = some h ∧ h.stage ≠ .inProgress
  replies : ∀ b h, u.bufs.get b = some h → (h.stage ≠ .inProgress ↔ h.reply.isSome = true)
  place   : ReplySlot.pendingPlace ∈ u.order ↔ u.pendingReply.isSome = true
  idle    : u.tx = none ↔ u.order = []
  sending : ∀ b h, u.bufs.get b = some h → (h.stage = .sending ↔ u.order.head? = some (.buf b))

/-- The transmitter sends the oldest reply of the reply order, or nothing when it is empty (R177). -/
def LineUnit.Sends (u : LineUnit) : Prop :=
  (u.order = [] → u.tx = none)
  ∧ (∀ b, u.order.head? = some (.buf b) → ∃ h r, u.bufs.get b = some h ∧ h.stage = .sending ∧ h.reply = some r
      ∧ u.tx = some (replyFrame h.tag h.code r))
  ∧ ∀ p, u.order.head? = some .pendingPlace → u.pendingReply = some p → u.tx = some (replyFrame p.tag p.code p.reply)

/-- The rate of a line after a reply has been sent, `rest` being the replies that were left in its order (R182 item 1): the
configured one once the receive area is in HUNT, unless the DONE reply of a CONFIGURE of the line that changed it still waits
(DEDUCED, unsafe: log 54). -/
def State.rateAfter (s : State) (l : Line) (rest : List ReplySlot) (rx : RxArea) : Rate :=
  if rx = .hunt ∧ ({ s.line l with order := rest } : LineUnit).owesOldRate = false then s.cfg.rates.get l
  else (s.line l).rate

/-- Every line unit's reply order is as R175 to R177 give it. -/
def State.linesOrderly (s : State) : Prop := ∀ l : Line, (s.line l).Orderly

/-- Nothing of a desk is left on its line (R180, R159 item 1, R167): the receive area is in HUNT, no reply is waiting, every
request still at an owner is an orphan, and the line has no claim, no watch in use and no claim-broken flag. -/
structure State.DeskGone (s : State) (l : Line) : Prop where
  receive : (s.line l).rx = .hunt
  buffers : ∀ b h, s.buffer l b = some h → h.stage = .inProgress ∧ h.orphan = true
  replies : (s.line l).order = [] ∧ (s.line l).pendingReply = none ∧ (s.line l).tx = none
  claims  : ∀ c ∈ s.cw.claims, c.holder ≠ l
  watches : ∀ n, (s.cw.watches.get l).get n = .unused
  flag    : s.cw.broken.get l = none

/-- Nothing of a desk is left on a line without its desk, nor on any line while the external reset is held. -/
def State.absentLinesQuiet (s : State) : Prop :=
  ∀ l : Line, (s.line l).present = false ∨ s.part.extReset = true → s.DeskGone l

/-- A state that meets the promises above. -/
structure State.Safe (s : State) : Prop where
  steps   : s.stepsBelowPeriod
  claims  : s.claimsBounded
  memory  : s.memoryCanonical
  queues  : s.queuesBounded
  faults  : s.faultedQueues
  heads   : s.positionersLegal
  replies : s.linesOrderly
  desks   : s.absentLinesQuiet

end Sys2Proof.Machine
end

