-- ==== Sys2Proof/Certificates/Slice0/Obligations.lean ====
section
/-! DEFINITION. The statements about the part, for the provers. They follow the chapters of spec/: the queue and the reset,
the desk lines, status, volumes, stories, the cache, claims and watches, configuration, drives, service order, the channel,
the supply, the recorded diskette, and the promises that every step keeps. -/
open Sys2Proof Sys2Proof.Machine

/-! ### The queue of commands and the reset (Chapter 10) -/

/-- A step runs the command at the front of the queue on the state with the queue's rest; an empty queue idles (DESIGN
CHOICE, safe: log 4). -/
def Obligations.StepRunsTheFrontCommand : Prop :=
  ∀ s : State,
    (∀ c rest, s.pending = c :: rest → step s = exec c { s with pending := rest })
    ∧ (s.pending = [] → step s = .next s)

/-- POWER_ON (R189 with R42, R70, R91, R110, R128, R131, R168, R185, R187): from any state, every block takes its reset
state, the configuration record its defaults, the straps are sampled and the self-test runs. Each drive's fault cause is NONE
(R42), but for a drive that enters SPEED-CHECK with DRIVE-FAULT asserted and so is FAULTED at once (R25). The buffer memory
is then in the model's own cleared state (DESIGN CHOICE, unsafe: log 8), and the external reset input counts as released
(DESIGN CHOICE, unsafe: log 59). EXTERNAL_RESET_ASSERTED and EXTERNAL_RESET_RELEASED (R189): while the input is asserted
every block is in its reset state with the levels its inputs read, no self-test runs and each LOW-CURRENT pin stands at the
level its strap makes deasserted; at the release the part enters START-UP with the straps sampled. The fault causes are as at
a power-on in both. -/
def Obligations.PowerOnAndResetTakeTheResetState : Prop :=
  let causes (t : State) : Prop := ∀ d,
    ((t.drive d).condition ≠ .faulted → (t.drive d).cause = .noCause)
    ∧ ((t.drive d).condition = .faulted → (t.drive d).cause = .driveFault)
  (∀ (s : State) (i : Inputs), ∃ t, exec (.powerOn i) s = .next t
      ∧ t.part = { state := .startUp, extReset := false, selfTest := true, drainTimer := false, drainOver := false,
                   restarts := [], straps := i.straps }
      ∧ t.cfg = defaultConfig i.straps.rate0
      ∧ t.BlocksAtReset i ∧ causes t
      ∧ (∀ l, (t.line l).AtReset (i.linePresent.get l) 120 (if l = 0 then i.straps.rate0 else .b9600)
          ∧ (t.line l).framesTaken = 0 ∧ (t.line l).checkErrors = 0 ∧ (t.line l).abandoned = 0)
      ∧ (∀ d, (t.drive d).selections = 0 ∧ (t.drive d).bypasses = 0 ∧ (t.drive d).opens = 0 ∧ (t.drive d).refused = 0
          ∧ (t.region d).hits = 0 ∧ (t.region d).fills = 0 ∧ (t.region d).directs = 0 ∧ (t.region d).evicts = 0)
      ∧ t.channel.recovered = 0 ∧ t.channel.failed = 0 ∧ t.channel.rewrites = 0 ∧ t.channel.checksFailed = 0
      ∧ t.channel.seekFaults = 0 ∧ t.channel.inhibits = 0
      ∧ t.clock = { day := 0, minute := 0, second := 0 } ∧ t.mem = [] ∧ t.pending = s.pending)
  ∧ (∀ s : State,
      (∀ p : Bool, ∃ t, exec (.externalResetAsserted p) s = .next t
        ∧ t.part.extReset = true ∧ t.part.selfTest = false ∧ t.part.state = .startUp ∧ t.part.restarts = []
        ∧ t.BlocksAtReset (s.inputsNow { s.part.straps with lowCurrentHigh := p }) ∧ causes t
        ∧ (∀ l, (t.line l).AtReset (s.line l).present 120 (if l = 0 then s.part.straps.rate0 else .b9600))
        ∧ (∀ d, t.writeGate d = false ∧ t.lowCurrentPin d = !p)
        ∧ t.clock = { day := 0, minute := 0, second := 0 } ∧ t.pending = s.pending)
      ∧ (∀ straps : Straps, s.part.extReset = true → ∃ t, exec (.externalResetReleased straps) s = .next t
        ∧ t.part = { state := .startUp, extReset := false, selfTest := true, drainTimer := false, drainOver := false,
                     restarts := [], straps := straps }
        ∧ t.cfg = defaultConfig straps.rate0
        ∧ t.BlocksAtReset (s.inputsNow straps) ∧ causes t
        ∧ (∀ l, (t.line l).AtReset (s.line l).present 120 (if l = 0 then straps.rate0 else .b9600))
        ∧ t.clock = { day := 0, minute := 0, second := 0 } ∧ t.pending = s.pending))

/-- SELF_TEST_COMPLETE and PART_RUNNING (R108, R189): each region's flag is its self-test's result, and the buffer memory is
as it stood, whatever patterns the test wrote (DESIGN CHOICE, unsafe: log 8); the part then becomes
RUNNING, and with no mount report held nothing else changes. PART_RUNNING with a held mount report (R189, R113): the mount
of each such drive begins at that moment. -/
def Obligations.StartUpEndsInRunning : Prop :=
  (∀ s : State,
      (∀ failed, s.part.state = .startUp → s.part.selfTest = true →
        ∃ t, exec (.selfTestComplete failed) s = .next t
          ∧ (∀ d, t.region d = { s.region d with failed := failed.get d })
          ∧ t = { s with regions := t.regions, part := { s.part with selfTest := false } })
      ∧ (s.part.state = .startUp → s.part.selfTest = false → s.part.extReset = false →
          (∀ l, (s.line l).resetDue = false) → (∀ d, (s.drive d).reportHeld = false) →
          exec .partRunning s = .next { s with part := { s.part with state := .running } })
      ∧ (s.part.selfTest = true → exec .partRunning s = .next s))
  ∧ (∀ s : State, s.part.state = .startUp → s.part.selfTest = false → s.part.extReset = false →
      (∀ l, (s.line l).resetDue = false) →
      ∃ t, exec .partRunning s = .next t ∧ t.part = { s.part with state := .running }
        ∧ ∀ d, (s.drive d).reportHeld = true → (s.vol d).state = .noVolume → (s.drive d).queue = [] →
            (t.drive d).reportHeld = false ∧ (t.vol d).state = .mounting
            ∧ ∃ r, (t.drive d).queue = [r] ∧ r.kind = .labelRead ∧ r.origin = .volume ∧ r.cylinder = 0 ∧ r.head = 0
                ∧ r.state = .queued ∧ r.passed = 0)

/-! ### Desk lines (Chapter 9) -/

/-- CHARACTER_RECEIVED in HUNT, in HELD and in ABSENT (R170, R172): the start code without a framing error begins a frame;
every other character is discarded, as is every one while a frame is HELD, in ABSENT, and after the drain of a RESTART
(R185). CHARACTER_RECEIVED and FRAME_TIMER_EXPIRY in RECEIVING (R172): a character is stored, even a start code; a length
outside 2..1 100 abandons the frame at its second length byte, a framing error at that character, the timer when it
expires; the character that completes length and check makes the frame HELD. `bs` are the characters after the start code.
-/
def Obligations.ReceiverHuntsAssemblesAndAbandons : Prop :=
  (∀ (s : State) (l : Line) (c : Byte) (bad : Bool), s.part.extReset = false →
      ((s.line l).present = true → (s.line l).resetDue = false → (s.line l).rx = .hunt → c = 0xC3#8 → bad = false →
        exec (.characterReceived l c bad) s = .next (s.modLine l fun u => { u with rx := .receiving [] }))
      ∧ ((s.line l).rx = .hunt → (c ≠ 0xC3#8 ∨ bad = true) → exec (.characterReceived l c bad) s = .next s)
      ∧ (∀ bs j, (s.line l).rx = .held bs j → exec (.characterReceived l c bad) s = .next s)
      ∧ ((s.line l).present = false ∨ (s.line l).resetDue = true → exec (.characterReceived l c bad) s = .next s))
  ∧ (∀ (s : State) (l : Line) (bs : List Byte), s.part.extReset = false → (s.line l).present = true →
      (s.line l).resetDue = false → (s.line l).rx = .receiving bs → ((s.line l).tx = none ↔ (s.line l).order = []) →
      (∀ c, exec (.characterReceived l c true) s = .next (s.modLine l fun u => u.abandoning .framing))
      ∧ exec (.frameTimerExpiry l) s = .next (s.modLine l fun u => u.abandoning .timeout)
      ∧ (bs = [] → ∀ c, exec (.characterReceived l c false) s = .next (s.modLine l fun u => { u with rx := .receiving [c] }))
      ∧ (∀ a c, bs = [a] → (a.toNat * 256 + c.toNat < 2 ∨ 1100 < a.toNat * 256 + c.toNat) →
          exec (.characterReceived l c false) s = .next (s.modLine l fun u => u.abandoning .length))
      ∧ (∀ a c, bs = [a] → 2 ≤ a.toNat * 256 + c.toNat → a.toNat * 256 + c.toNat ≤ 1100 →
          exec (.characterReceived l c false) s = .next (s.modLine l fun u => { u with rx := .receiving [a, c] }))
      ∧ (∀ a c' rest c, bs = a :: c' :: rest → rest.length < a.toNat * 256 + c'.toNat →
          exec (.characterReceived l c false) s = .next (s.modLine l fun u => { u with rx := .receiving (bs ++ [c]) }))
      ∧ (∀ a c' rest c, bs = a :: c' :: rest → rest.length = a.toNat * 256 + c'.toNat →
          exec (.characterReceived l c false) s = .next (s.modLine l fun u => { u with rx := .held (bs ++ [c]) false })))

/-- FRAME_COMPLETE, the frames that are not taken (R173 items 1 to 3, R179, R184): the silence timer restarts and the
count of the first judging rises; the answer goes to the pending place, or the frame stays HELD when that place is held.
FRAME_COMPLETE, a frame that is taken (R173 item 4, R174): it goes into the FREE buffer of lower number; the line unit
itself refuses an unknown code, a body of another length than its code's, and a request its class may not make; every
other request waits there for its owner. -/
def Obligations.FramesAreJudgedAnsweredOrTaken : Prop :=
  (∀ (s : State) (l : Line) (bs : List Byte) (r : Reply), s.part.extReset = false → (s.line l).rx = .held bs false →
      ((s.line l).tx = none ↔ (s.line l).order = []) →
      ((frameGood bs = false ∧ r = .lineFault .check)
        ∨ (frameGood bs = true ∧ s.part.state ≠ .running ∧ r = .busy .starting)
        ∨ (frameGood bs = true ∧ s.part.state = .running ∧ (∀ b, ((s.line l).bufs.get b).isSome = true)
            ∧ r = .busy .noBuffer)) →
      let counted (u : LineUnit) : LineUnit :=
        { u with silence := .running s.cfg.silence,
                 framesTaken := if frameGood bs then min 65535 (u.framesTaken + 1) else u.framesTaken,
                 checkErrors := if frameGood bs then u.checkErrors else min 65535 (u.checkErrors + 1) }
      ((s.line l).pendingReply = none →
        exec (.frameComplete l) s =
          .next (s.modLine l fun u => (counted u).pended { tag := frameTag bs, code := frameCode bs, reply := r }))
      ∧ ((s.line l).pendingReply ≠ none →
        exec (.frameComplete l) s = .next (s.modLine l fun u => { counted u with rx := .held bs true })))
  ∧ (∀ (s : State) (l : Line) (bs : List Byte) (b : BufId), s.part.extReset = false → s.part.state = .running →
      (s.line l).rx = .held bs false → frameGood bs = true → ((s.line l).tx = none ↔ (s.line l).order = []) →
      (s.line l).bufs.get b = none → (∀ b', b' < b → (s.line l).bufs.get b' ≠ none) →
      let h : Held := { tag := frameTag bs, code := frameCode bs, body := frameBody bs, stage := .inProgress,
                        taken := false, orphan := false, reply := none, cls := s.classOf l }
      let counted (u : LineUnit) : LineUnit :=
        { u with silence := .running s.cfg.silence, framesTaken := min 65535 (u.framesTaken + 1), rx := .hunt }
      (bodyLength h.code h.body = some (some h.body.length) → permitted h.code h.body (s.classOf l) = true →
        exec (.frameComplete l) s = .next (s.modLine l fun u => (counted u).setBuf b (some h)))
      ∧ (∀ r, ((bodyLength h.code h.body ≠ some (some h.body.length) ∧ r = .badRequest)
            ∨ (bodyLength h.code h.body = some (some h.body.length) ∧ permitted h.code h.body (s.classOf l) = false
                ∧ r = .notPermitted)) →
          ∃ h', h'.tag = h.tag ∧ h'.code = h.code ∧ h'.body = h.body ∧ h'.reply = some (.refused r none)
            ∧ h'.stage = (if (s.line l).order = [] then .sending else .complete) ∧ h'.orphan = false
            ∧ exec (.frameComplete l) s = .next (s.modLine l fun u =>
                { (counted u).setBuf b (some h') with
                  order := u.order ++ [ReplySlot.buf b],
                  tx := if u.order = [] then some (replyFrame h.tag h.code (.refused r none)) else u.tx })))

/-- REPLY_FRAME_SENT (R177), no frame waiting to be judged again: the buffer or the pending place of the reply sent is freed,
and the transmitter takes the next reply of the order, if any; a RESTART whose reply this was no longer waits for it (R190).
A changed rate takes effect before the next reply begins, when the receive area is in HUNT (R182 item 1; between two replies,
and held back while the DONE reply of a CONFIGURE that changed it waits: DEDUCED, unsafe: log 54). A line whose order is
empty after the drain of a RESTART resets (R185), and a frame complete there but not yet judged is dropped with it, uncounted
and unanswered (DESIGN CHOICE, unsafe: log 30). FRAME_JUDGED_AGAIN (R173): a frame that waits for the place or the buffer
just freed is judged again, without a count: LINE-FAULT CHECK, BUSY STARTING or BUSY NO-BUFFER into a free pending place, the
frame staying HELD while that place is held, or the frame goes into the FREE buffer of lower number and is examined (R174). A
request that completes with its orphan mark set frees its buffer and sends no reply (R175, R180). -/
def Obligations.SentRepliesFreeTheirBuffer : Prop :=
  (∀ (s : State) (l : Line) (frame : List Byte) (slot : ReplySlot) (rest : List ReplySlot), s.part.extReset = false →
      (s.line l).Orderly → (s.line l).tx = some frame → (s.line l).order = slot :: rest →
      (∀ bs, (s.line l).rx ≠ .held bs true) → (s.line l).resetDue = false →
      ∃ t, exec (.replyFrameSent l) s = .next t
        ∧ (t.line l).order = rest
        ∧ (∀ b, slot = .buf b → (t.line l).bufs.get b = none ∧ (l, b) ∉ t.part.restarts
            ∧ (t.line l).pendingReply = (s.line l).pendingReply)
        ∧ (slot = .pendingPlace → (t.line l).pendingReply = none)
        ∧ (∀ b, slot ≠ .buf b → (t.line l).bufs.get b = (s.line l).bufs.get b
            ∨ ∃ h, (s.line l).bufs.get b = some h ∧ (t.line l).bufs.get b = some { h with stage := .sending })
        ∧ (rest = [] → (t.line l).tx = none)
        ∧ (∀ b, rest.head? = some (.buf b) → ∃ h r, (t.line l).bufs.get b = some h ∧ h.stage = .sending ∧ h.reply = some r
            ∧ (t.line l).tx = some (replyFrame h.tag h.code r))
        ∧ (∀ p, rest.head? = some .pendingPlace → (s.line l).pendingReply = some p →
            (t.line l).tx = some (replyFrame p.tag p.code p.reply))
        ∧ t.line l = { s.line l with
            bufs := (t.line l).bufs, order := rest, pendingReply := (t.line l).pendingReply, tx := (t.line l).tx,
            rate := s.rateAfter l rest (s.line l).rx }
        ∧ (∀ m, m ≠ l → t.line m = s.line m)
        ∧ t = { s with lines := t.lines, part := { s.part with restarts := t.part.restarts } }
        ∧ (∀ x, x ∈ t.part.restarts ↔ x ∈ s.part.restarts ∧ ∀ b, slot = .buf b → x ≠ (l, b)))
  ∧ (∀ (s : State) (l : Line) (frame : List Byte) (slot : ReplySlot), s.part.extReset = false → (s.line l).Orderly →
      (s.line l).tx = some frame → (s.line l).order = [slot] → (∀ bs, (s.line l).rx ≠ .held bs true) →
      (s.line l).resetDue = true →
      ∃ t, exec (.replyFrameSent l) s = .next t
        ∧ (t.line l).AtReset (s.line l).present s.cfg.silence (s.cfg.rates.get l) ∧ (t.line l).resetDue = false
        ∧ (t.line l).framesTaken = (s.line l).framesTaken ∧ (t.line l).checkErrors = (s.line l).checkErrors
        ∧ (t.line l).abandoned = (s.line l).abandoned)
  ∧ (∀ (s : State) (l : Line) (frame bs : List Byte) (slot : ReplySlot) (rest : List ReplySlot),
      s.part.extReset = false → (s.line l).Orderly → (s.line l).tx = some frame → (s.line l).order = slot :: rest →
      (s.line l).rx = .held bs true → (s.line l).resetDue = false →
      let bufs (b : BufId) : Option Held := if slot = .buf b then none else (s.line l).bufs.get b
      let place : Option PendingReply := if slot = .pendingPlace then none else (s.line l).pendingReply
      let held : Held := { tag := frameTag bs, code := frameCode bs, body := frameBody bs, stage := .inProgress,
                           taken := false, orphan := false, reply := none, cls := s.classOf l }
      ∃ t, exec (.replyFrameSent l) s = .next t
        ∧ (∀ r, ((frameGood bs = false ∧ r = .lineFault .check)
              ∨ (frameGood bs = true ∧ s.part.state ≠ .running ∧ r = .busy .starting)
              ∨ (frameGood bs = true ∧ s.part.state = .running ∧ (∀ b, bufs b ≠ none) ∧ r = .busy .noBuffer)) →
            (place = none → (t.line l).rx = .hunt ∧ (t.line l).order = rest ++ [.pendingPlace]
              ∧ (t.line l).pendingReply = some { tag := held.tag, code := held.code, reply := r })
            ∧ (place ≠ none → (t.line l).rx = .held bs true ∧ (t.line l).order = rest ∧ (t.line l).pendingReply = place))
        ∧ (∀ b, frameGood bs = true → s.part.state = .running → bufs b = none → (∀ b', b' < b → bufs b' ≠ none) →
            (t.line l).rx = .hunt ∧ (t.line l).pendingReply = place
            ∧ (bodyLength held.code held.body = some (some held.body.length) →
                permitted held.code held.body (s.classOf l) = true →
                (t.line l).bufs.get b = some held ∧ (t.line l).order = rest)
            ∧ (∀ r, ((bodyLength held.code held.body ≠ some (some held.body.length) ∧ r = .badRequest)
                  ∨ (bodyLength held.code held.body = some (some held.body.length)
                      ∧ permitted held.code held.body (s.classOf l) = false ∧ r = .notPermitted)) →
                (t.line l).order = rest ++ [.buf b]
                ∧ ∃ st, (t.line l).bufs.get b = some { held with stage := st, reply := some (.refused r none) }))
        ∧ (∀ b h, slot ≠ .buf b → (s.line l).bufs.get b = some h →
            ∃ st, (t.line l).bufs.get b = some { h with stage := st })
        ∧ (t.line l).Sends
        ∧ t.line l = { s.line l with
            bufs := (t.line l).bufs, order := (t.line l).order, pendingReply := (t.line l).pendingReply,
            tx := (t.line l).tx, rx := (t.line l).rx, rate := s.rateAfter l rest (t.line l).rx }
        ∧ (∀ m, m ≠ l → t.line m = s.line m)
        ∧ t = { s with lines := t.lines, part := { s.part with restarts := t.part.restarts } })
  ∧ (∀ (s : State) (l : Line) (b : BufId) (h : Held) (r : Reply), s.buffer l b = some h → h.stage = .inProgress →
      h.orphan = true → (∀ bs, (s.line l).rx ≠ .held bs true) →
      s.answer l b r = s.modLine l fun u => u.setBuf b none)

/-- LINE_PRESENT_FALLS (R180, R159 item 1): the port is ABSENT, replies and frames are discarded, a request in progress
keeps its buffer with its orphan mark set, the silence timer stops; the line's claims go, oldest first, each raising
CLAIM-FREED with its story's basket and the lost line as causing line (R157, R161, R164), and its watches and claim-broken
flag go. The rate and the counts are kept, and nothing else changes; a line that a drained RESTART has left to reset takes
its reset state (R185). LINE_PRESENT_RISES, RATE_CHANGE_EFFECT (R181, R182): a returning desk finds the silence timer
started and its line as the loss left it; a changed rate takes effect when the transmitter is idle and the receive area in
HUNT. SILENCE_TIMER_EXPIRY (R179 item 2, R159 item 2): the timer stops and the line's claims are released in the same way;
its watches, its buffers and its port state are not touched. An event that cannot happen changes nothing (DESIGN CHOICE,
safe: log 1); during an external reset only the level is taken (DEDUCED, unsafe: log 27). -/
def Obligations.LineLossReturnSilenceAndRate : Prop :=
  (∀ (s : State) (l : Line), s.part.extReset = false → (s.line l).present = true →
      let freed := s.cw.freedAll (s.cw.ofLine l) s.claimBasket l
      ∃ t, exec (.linePresentFalls l) s = .next t
        ∧ ((s.line l).resetDue = false →
            t.line l = { s.line l with present := false, rx := .hunt, bufs := (t.line l).bufs, order := [],
                                       pendingReply := none, tx := none, silence := .stopped }
            ∧ ∀ b, (t.line l).bufs.get b =
                match (s.line l).bufs.get b with
                | some h => if h.stage = .inProgress then some { h with orphan := true } else none
                | none => none)
        ∧ ((s.line l).resetDue = true →
            (t.line l).AtReset false s.cfg.silence (s.cfg.rates.get l) ∧ (t.line l).resetDue = false
            ∧ (t.line l).framesTaken = (s.line l).framesTaken ∧ (t.line l).checkErrors = (s.line l).checkErrors
            ∧ (t.line l).abandoned = (s.line l).abandoned)
        ∧ (t.line l).portState = .absent ∧ t.attention l = false
        ∧ t.cw = { freed with watches := freed.watches.set l.val (Vector.replicate 4 .unused) l.isLt,
                              broken := freed.broken.set l.val none l.isLt }
        ∧ (∀ c, c ∈ t.cw.claims ↔ c ∈ s.cw.claims ∧ ∀ x ∈ s.cw.ofLine l, ¬ (x.drive = c.drive ∧ x.handle = c.handle))
        ∧ (∀ m, m ≠ l → t.line m = s.line m)
        ∧ t = { s with lines := t.lines, cw := t.cw, part := { s.part with restarts := t.part.restarts } }
        ∧ (∀ x, x ∈ t.part.restarts ↔ x ∈ s.part.restarts ∧ x.1 ≠ l))
  ∧ (∀ (s : State) (l : Line), s.part.extReset = false →
      ((s.line l).present = false →
        exec (.linePresentRises l) s =
          .next (s.modLine l fun u => { u with present := true, silence := .running s.cfg.silence }))
      ∧ ((s.line l).tx = none → (s.line l).rx = .hunt →
          exec (.rateChangeEffect l) s = .next (s.modLine l fun u => { u with rate := s.cfg.rates.get l }))
      ∧ ((s.line l).tx ≠ none ∨ (s.line l).rx ≠ .hunt → exec (.rateChangeEffect l) s = .next s)
      ∧ ((s.line l).present = false → exec (.linePresentFalls l) s = .next s)
      ∧ ((s.line l).present = true → exec (.linePresentRises l) s = .next s)
      ∧ ((s.line l).silence = .stopped → exec (.silenceTimerExpiry l) s = .next s))
  ∧ (∀ (s : State) (l : Line) (limit : Nat), s.part.extReset = false → (s.line l).silence = .running limit →
      exec (.silenceTimerExpiry l) s = .next
        { s.modLine l fun u => { u with silence := .stopped } with
          cw := s.cw.freedAll (s.cw.ofLine l) s.claimBasket l })
  ∧ (∀ (s : State) (l : Line), s.part.extReset = true →
      exec (.linePresentFalls l) s = .next (s.modLine l fun u => { u with present := false })
      ∧ exec (.linePresentRises l) s = .next (s.modLine l fun u => { u with present := true })
      ∧ exec (.rateChangeEffect l) s = .next s ∧ exec (.silenceTimerExpiry l) s = .next s)

/-! ### Status, clock and statistics (Chapters 7 and 10) -/

/-- Requests that only report (R127, R132, R166, R183, R192): each is answered DONE from the state as it stands and
changes nothing else; a drive above 3 or a line above 7 is refused OUT-OF-RANGE. The rate in a LINE STATUS is the one in
effect while a change waits (DEDUCED, unsafe: log 22). The lengths of the result bodies (Tables
11-6, 11-8 and 11-9, R198): whatever the state holds. -/
def Obligations.StatusRequestsChangeNothingElse : Prop :=
  (∀ (s : State) (l : Line) (b : BufId) (h : Held),
      (s.Waiting l b codeReadClock h →
        exec (.readClock l b) s = .next (s.replied l b h
          (.done false false (be2 s.clock.day ++ be2 s.clock.minute ++ [if s.clock.day = 0 then 0#8 else 1#8]))))
      ∧ (s.Waiting l b codeWatchStatus h →
        exec (.watchStatus l b) s = .next (s.replied l b h (.done false false (watchStatusBytes s.cw l))))
      ∧ (s.Waiting l b codeVolumeStatus h →
        (∀ d, driveOf (byteAt h.body 0) = some d → exec (.volumeStatus l b) s = .next (s.replied l b h
          (.done false false (volumeStatusBytes d (s.drive d).condition (s.vol d)))))
        ∧ (driveOf (byteAt h.body 0) = none →
            exec (.volumeStatus l b) s = .next (s.replied l b h (.refused .outOfRange none))))
      ∧ (s.Waiting l b codeDriveStatus h →
        (∀ d, driveOf (byteAt h.body 0) = some d →
          exec (.driveStatus l b) s = .next (s.replied l b h (.done false false (s.driveStatusBytes d))))
        ∧ (driveOf (byteAt h.body 0) = none →
            exec (.driveStatus l b) s = .next (s.replied l b h (.refused .outOfRange none))))
      ∧ ∀ us, s.Waiting l b codeLineStatus h →
        (∀ n, lineOf (byteAt h.body 0) = some n →
          exec (.lineStatus l b us) s = .next (s.replied l b h (.done false false (s.lineStatusBytes n us))))
        ∧ (lineOf (byteAt h.body 0) = none →
            exec (.lineStatus l b us) s = .next (s.replied l b h (.refused .outOfRange none))))
  ∧ (∀ (s : State) (d : DriveId) (l : Line) (n us : Nat) (e : Entry) (o : Option Line),
      (summaryBytes n e o).length = 26
      ∧ (volumeStatusBytes d (s.drive d).condition (s.vol d)).length = 43
      ∧ (s.driveStatusBytes d).length = 14
      ∧ s.statisticsBytes.length = 170
      ∧ (watchStatusBytes s.cw l).length = 51
      ∧ (s.lineStatusBytes l us).length = 26 + 4 * (s.cw.ofLine l).length
      ∧ ∀ start g f, ∃ k, k ≤ 8 ∧ (s.listResult d start g f).length = 3 + 26 * k)

/-- SET CLOCK (R132): minute and day are clamped, either clamp setting the note CLAMPED; day 0 unsets the clock; otherwise
the clock takes both with the seconds at 0; the reply is DONE with the clock as set. The note with a day of 0 and a minute
above 1 439 is the model's reading (DEDUCED, unsafe: log 41). CLOCK_SECOND (R131): an unset clock stands still; a set
one counts seconds to
59, minutes to 1 439 and days from 366 back to 1. Nothing else changes. -/
def Obligations.TheClockIsSetAndCounts : Prop :=
  (∀ (s : State) (l : Line) (b : BufId) (h : Held), s.Waiting l b codeSetClock h →
      let day := min 366 (nat2 h.body 0)
      let minute := if day = 0 then 0 else min 1439 (nat2 h.body 2)
      let clamped := decide (366 < nat2 h.body 0 ∨ 1439 < nat2 h.body 2)
      exec (.setClock l b) s = .next { s.replied l b h
          (.done clamped false (be2 day ++ be2 minute ++ [if day = 0 then 0#8 else 1#8])) with
        clock := { day := day, minute := minute, second := 0 } })
  ∧ (∀ s : State, s.part.extReset = false → s.clock.second < 60 → s.clock.minute < 1440 → s.clock.day ≤ 366 →
      ∃ c, exec .clockSecond s = .next { s with clock := c }
        ∧ (s.clock.day = 0 → c = s.clock)
        ∧ (s.clock.day ≠ 0 → 1 ≤ c.day ∧ c.day ≤ 366 ∧ c.minute < 1440 ∧ c.second < 60
            ∧ ((c.day - 1) * 86400 + c.minute * 60 + c.second) =
                ((s.clock.day - 1) * 86400 + s.clock.minute * 60 + s.clock.second + 1) % (366 * 86400)))

/-- STATISTICS (R193): the reply reports the counts as they stand; with the clear flag the counts of R69, R90, R109 and
R184 become 0 in the same step, and nothing else changes. -/
def Obligations.StatisticsReportThenClear : Prop :=
  ∀ (s : State) (l : Line) (b : BufId) (h : Held), s.Waiting l b codeStatistics h →
    (byteAt h.body 0 = 0 →
      exec (.statistics l b) s = .next (s.replied l b h (.done false false s.statisticsBytes)))
    ∧ (byteAt h.body 0 ≠ 0 → ∃ t, exec (.statistics l b) s = .next t
      ∧ (∀ m, t.line m = { (s.replied l b h (.done false false s.statisticsBytes)).line m with
                            framesTaken := 0, checkErrors := 0, abandoned := 0 })
      ∧ (∀ d, t.drive d = { s.drive d with selections := 0, bypasses := 0, opens := 0, refused := 0 })
      ∧ (∀ d, t.region d = { s.region d with hits := 0, fills := 0, directs := 0, evicts := 0 })
      ∧ t.channel = { s.channel with
          recovered := 0, failed := 0, rewrites := 0, checksFailed := 0, seekFaults := 0, inhibits := 0 }
      ∧ t = { s with lines := t.lines, drives := t.drives, regions := t.regions, channel := t.channel })

/-! ### Volumes (Chapter 6) -/

/-- The gate of R41 and Table 6-3: what a request of each group meets at a drive, absent where it is taken. A request
refused at the gate changes nothing (R112, R41, R176): the one reply REFUSED, and for a drive above 3 OUT-OF-RANGE. -/
def Obligations.VolumeGateIsTableSixThree : Prop :=
  (∀ (s : State) (d : DriveId) (g : Group) (work : Bool),
      let c := (s.drive d).condition
      let v := s.vol d
      (work = true → (c = .offline ∨ c = .speedCheck ∨ c = .faulted) → s.gateReason d g work = some .notReady)
      ∧ ((work = false ∨ c = .empty ∨ c = .ready) →
          (v.state = .noVolume → c = .empty → s.gateReason d g work = some .noVolume)
          ∧ (v.state = .noVolume → c ≠ .empty → (c ≠ .ready ∨ g ≠ .prepare) → s.gateReason d g work = some .notReady)
          ∧ (v.state = .noVolume → c = .ready → g = .prepare → s.gateReason d g work = none)
          ∧ (v.state = .mounting ∨ v.state = .preparing →
              s.gateReason d g work = some (if g = .prepare then .wrongState else .notReady))
          ∧ (v.state = .mounted → s.gateReason d g work = none)
          ∧ (v.state = .readOnly → s.gateReason d g work =
              match g with
              | .reads | .eject => none
              | .prepare => some .wrongState
              | .changes => some v.readOnlyReason)
          ∧ (v.state = .foreign → s.gateReason d g work = if g = .reads ∨ g = .changes then some .foreign else none)
          ∧ (v.state = .draining → s.gateReason d g work = some (if g = .prepare then .wrongState else .unmounting))
          ∧ (v.state = .released → s.gateReason d g work = if g = .prepare then none else some .noVolume)))
  ∧ (∀ (s : State) (l : Line) (b : BufId) (h : Held) (i : Instr) (code : Byte) (g : Group) (work : Bool),
      (i, code, g, work) ∈
        [(Instr.lookup l b, codeLookup, Group.reads, false), (.listStories l b, codeList, .reads, false),
         (.createStory l b, codeCreate, .changes, true), (.readBlock l b, codeReadBlock, .reads, true),
         (.writeBlock l b, codeWriteBlock, .changes, true), (.fileStory l b, codeFile, .changes, true),
         (.moveStory l b, codeMove, .changes, true), (.spike l b, codeSpike, .changes, true),
         (.revive l b, codeRevive, .changes, true), (.purge l b, codePurge, .changes, true),
         (.openStory l b, codeOpen, .changes, false), (.prepareVolume l b, codePrepareVolume, .prepare, true)] →
      s.Waiting l b code h →
      (driveOf (byteAt h.body 0) = none → exec i s = .next (s.replied l b h (.refused .outOfRange none)))
      ∧ ∀ d r, driveOf (byteAt h.body 0) = some d → s.gateReason d g work = some r →
          exec i s = .next (s.replied l b h (.refused r none)))

/-- EJECT (R121): a set force flag from another class than CONSOLE, the class standing when the request was examined (R182
item 2), is refused first (DEDUCED, unsafe: log 21). A FOREIGN
volume is RELEASED at once, with the effects of a release by R122 (DEDUCED, unsafe: log 37); a region that is CLOSING
stays so until its FILL leaves (R93 item 3, R107 item 4). A MOUNTED or READ-ONLY volume that no other line has a claim on
becomes DRAINING with the EJECT pending; with such claims it is refused CLAIMED, naming the oldest one's holder, unless
the console sets the force flag, which breaks each of them first, oldest first, with its flag and CLAIM-FREED (R158, R160);
every other claim stays. VOLUME_DRAIN_COMPLETE (R122): with no WRITE or INDEX-WRITE in the queue, nothing left to write
back and the region quiet, the DRAINING volume becomes RELEASED and its EJECT is answered; the index, the free set, the
profile and the dirty set are discarded, the region shuts, the volume is gone for claims and watches (R160), and an idle
head is unloaded. Its label is kept (R121; the stamp and the notes with it: DEDUCED, unsafe: log 20). While one of these
conditions fails, or a drive fault or a long inhibit holds the drain, nothing is released (R120, R122; a fault holds it
until the drive has reported ready again: DEDUCED, unsafe: log 57). -/
def Obligations.EjectDrainsAndReleases : Prop :=
  (∀ (s : State) (l : Line) (b : BufId) (h : Held), s.Waiting l b codeEject h →
      (byteAt h.body 1 ≠ 0 → h.cls ≠ .console →
        exec (.eject l b) s = .next (s.replied l b h (.refused .notPermitted none)))
      ∧ ((byteAt h.body 1 = 0 ∨ h.cls = .console) → driveOf (byteAt h.body 0) = none →
          exec (.eject l b) s = .next (s.replied l b h (.refused .outOfRange none)))
      ∧ ∀ d, (byteAt h.body 1 = 0 ∨ h.cls = .console) → driveOf (byteAt h.body 0) = some d →
          (∀ r, s.gateReason d .eject true = some r → exec (.eject l b) s = .next (s.replied l b h (.refused r none)))
          ∧ (s.gateReason d .eject true = none → (s.vol d).state ≠ .foreign → s.cw.others d l = [] →
              exec (.eject l b) s = .next ((s.takenBy l b h).modVol d fun v =>
                { v with state := .draining, pendingReq := some (.eject l b) }))
          ∧ (∀ c rest, s.gateReason d .eject true = none → (s.vol d).state ≠ .foreign → s.cw.others d l = c :: rest →
              byteAt h.body 1 = 0 → exec (.eject l b) s = .next (s.replied l b h (.refused .claimed (some c.holder))))
          ∧ (s.gateReason d .eject true = none → (s.vol d).state ≠ .foreign → s.cw.others d l ≠ [] →
              byteAt h.body 1 ≠ 0 → ∃ t, exec (.eject l b) s = .next t
                ∧ (∀ c, c ∈ t.cw.claims → c.drive = d → c.holder = l)
                ∧ (∀ c, c ∈ s.cw.others d l → t.cw.broken.get c.holder ≠ none)
                ∧ t.cw = s.cw.brokenAll d (s.cw.others d l) s.claimBasket l
                ∧ (∀ c, c ∈ t.cw.claims ↔ c ∈ s.cw.claims
                    ∧ ∀ x ∈ s.cw.others d l, ¬ (c.drive = d ∧ c.handle = x.handle))
                ∧ t.vol d = { s.vol d with state := .draining, pendingReq := some (.eject l b) }
                ∧ s.OthersKept t d ∧ t = { s.takenBy l b h with vols := t.vols, cw := t.cw })
          ∧ (s.gateReason d .eject true = none → (s.vol d).state = .foreign → ∃ t, exec (.eject l b) s = .next t
              ∧ (t.vol d).state = .released ∧ (t.vol d).label = (s.vol d).label ∧ (t.vol d).profile = none
              ∧ ((s.region d).state ≠ .closing → (t.region d).state = .shut ∧ (t.region d).frames = [])
              ∧ ((s.region d).state = .closing → t.region d = s.region d)
              ∧ (∀ c, c ∈ t.cw.claims ↔ c ∈ s.cw.claims ∧ c.drive ≠ d) ∧ t.cw = s.cw.volumeGone d
              ∧ t.drive d = { s.drive d with pos := (t.drive d).pos } ∧ s.OthersKept t d
              ∧ t = { s.replied l b h (.done false false []) with
                  drives := t.drives, regions := t.regions, vols := t.vols, cw := t.cw }))
  ∧ (∀ (s : State) (d : DriveId),
      ((s.vol d).state ≠ .draining ∨ (∃ r ∈ (s.drive d).queue, r.kind.isSectorWrite = true)
        ∨ ((s.vol d).dirtySet ≠ [] ∧ (s.vol d).hasReason = false) ∨ s.quiet d = false ∨ (s.drive d).condition ≠ .ready
        ∨ (s.drive d).reportDue = true ∨ (s.drive d).reportHeld = true ∨ s.channel.longInhibit = true) →
      exec (.volumeDrainComplete d) s = .next s)
  ∧ (∀ (s : State) (d : DriveId) (l : Line) (b : BufId) (h : Held), (s.vol d).state = .draining →
      (s.drive d).condition = .ready → (s.drive d).reportDue = false → (s.drive d).reportHeld = false →
      s.channel.longInhibit = false → (∀ r ∈ (s.drive d).queue, r.kind.isSectorWrite = false) →
      ((s.vol d).dirtySet = [] ∨ (s.vol d).hasReason = true) → s.quiet d = true →
      (s.vol d).pendingReq = some (.eject l b) → s.buffer l b = some h → h.stage = .inProgress → h.orphan = false →
      ((s.line l).tx = none ↔ (s.line l).order = []) →
      ∃ t, exec (.volumeDrainComplete d) s = .next t
        ∧ (t.vol d).state = .released ∧ (t.vol d).profile = none ∧ (t.vol d).free = [] ∧ (t.vol d).sectors = []
        ∧ (t.vol d).pendingReq = none ∧ (t.vol d).label = (s.vol d).label
        ∧ ((t.vol d).dirtyRemoval = true ↔ (s.vol d).dirtyRemoval = true ∨ (s.vol d).dirtySet ≠ [])
        ∧ (∀ n, (t.vol d).entry n = freeEntry)
        ∧ ((s.region d).state ≠ .closing → (t.region d).state = .shut ∧ (t.region d).frames = [])
        ∧ (∀ c, c ∈ t.cw.claims ↔ c ∈ s.cw.claims ∧ c.drive ≠ d) ∧ t.cw = s.cw.volumeGone d
        ∧ t.hasReply l b (.done false false [])
        ∧ ((s.drive d).pos.state = .onTrack → (s.drive d).selected = none →
            (t.drive d).pos = { (s.drive d).pos with state := .resting, headLoaded := false, unload := 0 })
        ∧ t.drive d = { s.drive d with pos := (t.drive d).pos }
        ∧ (∀ m, m ≠ l → t.line m = s.line m) ∧ s.OthersKept t d
        ∧ t = { s with lines := t.lines, drives := t.drives, regions := t.regions, vols := t.vols, cw := t.cw })

/-- PREPARE VOLUME (R124, R125), taken: the volume is PREPARING with the profile of the clamped figures and nothing of its
old index, notes or label; the volume is gone for claims and watches (R160); the first FORMAT-TRACK, of track (0, 0), is
offered in a volume place. An OPEN region (R107): its VALID frames and those of QUEUED FILLs become EMPTY, the QUEUED FILLs
and DIRECT-READs are withdrawn and their readers answered FAILED REMOVED; it is SHUT, or CLOSING with the frame kept while a
FILL is selected. A region that is not OPEN is left as it is (DEDUCED, unsafe: log 36). The steps on sectors (R125 steps 2
and 3, R126): a WRITE read back good, or written with the write-check item off, offers the next index sector with every entry
FREE, or after the last one answers the PREPARE VOLUME DONE and begins the mount; one that fails twice (a data field of
another length fails: DESIGN CHOICE, unsafe: log 25) ends the preparation FAILED WRITE-CHECK with the volume FOREIGN,
INCOMPLETE. `left` are the requests left when the step leaves the queue. (The formats and the label WRITE they lead to are in
the statement on formats, the gates of these WRITEs in that on writes.) -/
def Obligations.PrepareVolumeBegins : Prop :=
  (∀ (s : State) (l : Line) (b : BufId) (h : Held) (d : DriveId), s.Waiting l b codePrepareVolume h →
    driveOf (byteAt h.body 0) = some d → s.gateReason d .prepare true = none →
    let q := quantize (prepareFields h.body) (s.drive d).levels.twoSided
    ((s.drive d).levels.writeProtect = true →
      exec (.prepareVolume l b) s = .next (s.replied l b h (.refused .writeProtected none)))
    ∧ ((s.drive d).levels.writeProtect = false → s.unsafeToPrepare d = true →
      exec (.prepareVolume l b) s = .next (s.replied l b h (.refused .wrongState none)))
    ∧ ((s.drive d).levels.writeProtect = false → s.unsafeToPrepare d = false → q = none →
      exec (.prepareVolume l b) s = .next (s.replied l b h (.refused .outOfRange none)))
    ∧ (∀ z, (s.drive d).levels.writeProtect = false → s.unsafeToPrepare d = false → q = some z →
      (s.drive d).volumePlaces < 2 →
      let opened := (s.region d).state = .opened
      let gone (r : Request) : Bool := r.isCacheRead && r.state == .queued
      ∃ t, exec (.prepareVolume l b) s = .next t
        ∧ t.vol d = { freshVolume with
            state := .preparing, profile := some z.profile, pendingReq := some (.prepare l b z.changed),
            newLabel := some (prepareFields h.body).info }
        ∧ (∃ r, r.VolumePlaced .formatTrack 0 0 labelProfile s.arrival
            ∧ (opened → (t.drive d).queue = (s.drive d).queue.filter (fun r => !gone r) ++ [r])
            ∧ (¬ opened → (t.drive d).queue = (s.drive d).queue ++ [r]))
        ∧ t.arrival = (s.arrival + 1) % 65536
        ∧ (∀ c, c ∈ t.cw.claims ↔ c ∈ s.cw.claims ∧ c.drive ≠ d) ∧ t.cw = s.cw.volumeGone d
        ∧ t.drive d = { s.drive d with queue := (t.drive d).queue } ∧ s.OthersKept t d
        ∧ (¬ opened → t.regions = s.regions
            ∧ t = { s.takenBy l b h with drives := t.drives, vols := t.vols, cw := t.cw, arrival := t.arrival })
        ∧ (opened →
            t = { s with lines := t.lines, drives := t.drives, regions := t.regions, vols := t.vols, cw := t.cw,
                         arrival := t.arrival }
            ∧ t.region d = { s.region d with state := (t.region d).state, frames := (t.region d).frames }
            ∧ ((∀ r i, (s.drive d).selected = some r → r.kind ≠ .fill i) →
                (t.region d).state = .shut ∧ (t.region d).frames = [])
            ∧ (∀ r i c hd rs, (s.drive d).selected = some r → r.kind = .fill i →
                (s.region d).frame i = .filling c hd rs →
                (∀ x ∈ (s.drive d).queue, x.state = .queued → x.kind ≠ .fill i) →
                (t.region d).state = .closing ∧ (t.region d).frame i = .filling c hd rs
                ∧ (t.region d).frames.length = (s.region d).frames.length
                ∧ (∀ j, ((s.region d).frame j).isValid = true → (t.region d).frame j = .empty)
                ∧ ∀ x j, x ∈ (s.drive d).queue → x.state = .queued → x.kind = .fill j → (t.region d).frame j = .empty)
            ∧ (∀ x j c hd rs rd y, x ∈ (s.drive d).queue → x.state = .queued → x.kind = .fill j →
                (s.region d).frame j = .filling c hd rs → rd ∈ rs → s.InProgress rd.line rd.buf y → y.reply = none →
                t.hasReply rd.line rd.buf (.failed .removed))
            ∧ (∀ x m n y, x ∈ (s.drive d).queue → x.state = .queued → x.origin = .desk m → x.kind = .directRead n →
                s.InProgress m n y → y.reply = none → t.hasReply m n (.failed .removed)))))
  ∧ (∀ (s : State) (d : DriveId) (r : Request) (o : OpRecord) (k : Nat) (st : PrepStep) (p : Profile)
      (i : LabelInfo) (l : Line) (b : BufId) (h : Held) (clamped : Bool),
      s.Serving d r o → r.kind = .prepWrite st → (s.vol d).profile = some p →
      (s.vol d).newLabel = some i → (s.vol d).pendingReq = some (.prepare l b clamped) → s.InProgress l b h →
      ((s.left d).filter fun x => x.origin == .volume).length < 2 →
      let next : Nat := match st with
        | .label => 0
        | .index j => j + 1
      (∀ c, s.WritesGood d r o k c → next < p.used → ∃ t x, exec c s = .next t
        ∧ t.channel.granted = none ∧ t.channel.state = .idle ∧ t.op d = none
        ∧ (t.drive d).queue = s.left d ++ [x]
        ∧ x.VolumePlaced (.prepWrite (.index next)) 1 (p.indexPlace next).1 p.read s.arrival
        ∧ x.sectorId = some (p.indexPlace next).2
        ∧ x.slot = some (p.slot 1 (p.indexPlace next).1 (p.indexPlace next).2)
        ∧ t.vol d = { s.vol d with staging := [(next, List.replicate p.bytes 0#8)] }
        ∧ s.OthersKept t d ∧ t.lines = s.lines ∧ t.cw = s.cw)
      ∧ (∀ c, s.WritesGood d r o k c → p.used ≤ next → ∃ t x, exec c s = .next t
        ∧ t.hasReply l b (.done clamped false (toByte d.val :: (encodeLabel i p).take 22))
        ∧ t.vol d = { freshVolume with state := .mounting } ∧ (∀ z, t.margin d z = freshMargin s.cfg)
        ∧ (t.drive d).queue = s.left d ++ [x] ∧ x.VolumePlaced .labelRead 0 0 labelProfile s.arrival ∧ x.wanted = [1]
        ∧ t.channel.granted = none ∧ t.channel.state = .idle ∧ t.op d = none ∧ s.OthersKept t d)
      ∧ (∀ f, s.Awaiting d r o k → s.channel.state = .writeCheck → r.BadData f → 2 ≤ o.writes →
        ∃ t, exec (.dataFieldRead f) s = .next t ∧ t.hasReply l b (.failed .writeCheck) ∧ s.EndedTo t d
        ∧ t.vol d = { s.vol d with
            state := .foreign, foreign := some .incomplete, profile := none, labelArea := [], staging := [],
            sectors := [], pendingReq := none, newLabel := none, tracksFormatted := 0 }
        ∧ t.channel.checksFailed = min 65535 (s.channel.checksFailed + 1)))

/-! ### Stories (Chapter 7) -/

/-- LOOKUP (R134): the summary of the lowest handle of a LIVE or RETIRED entry with the slug, NO-STORY when there is none,
OUT-OF-RANGE for a slug that is no slug (the bytes of its field after the first 0x00 are ignored: DESIGN CHOICE, unsafe:
log 39). LIST (R135): the summaries of the first eight matching handles from the start
upward, in handle order, with the next handle: the one after the eighth when eight matched and it is below the capacity,
256 otherwise. `hs` are the matching handles, ascending. -/
def Obligations.LookupAndListReadTheIndex : Prop :=
  (∀ (s : State) (l : Line) (b : BufId) (h : Held) (d : DriveId), s.Waiting l b codeLookup h →
      driveOf (byteAt h.body 0) = some d → s.gateReason d .reads false = none →
      let slug := slugField h.body 1
      let named (n : Nat) : Prop :=
        (((s.vol d).entry n).state = .live ∨ ((s.vol d).entry n).state = .retired) ∧ ((s.vol d).entry n).slug = slug
      (slugOk slug = false → exec (.lookup l b) s = .next (s.replied l b h (.refused .outOfRange none)))
      ∧ (∀ n, slugOk slug = true → n < 256 → named n → (∀ m, m < n → ¬ named m) →
          exec (.lookup l b) s = .next (s.replied l b h (.done false false (s.summary d n))))
      ∧ (slugOk slug = true → (∀ n, n < 256 → ¬ named n) →
          exec (.lookup l b) s = .next (s.replied l b h (.refused .noStory none))))
  ∧ (∀ (s : State) (l : Line) (b : BufId) (h : Held) (d : DriveId), s.Waiting l b codeList h →
      driveOf (byteAt h.body 0) = some d → s.gateReason d .reads false = none →
      let start := nat2 h.body 4
      let baskets := setField h.body 1
      let filter := BitVec.ofNat 3 (byteAt h.body 3)
      (255 < start → exec (.listStories l b) s = .next (s.replied l b h (.refused .outOfRange none)))
      ∧ (start ≤ 255 → ∃ hs : List Nat, hs.Pairwise (· < ·)
          ∧ (∀ n, n ∈ hs ↔ start ≤ n ∧ n < (s.vol d).capacity ∧ listMatches baskets filter ((s.vol d).entry n) = true)
          ∧ ∃ next, exec (.listStories l b) s = .next (s.replied l b h (.done false false
              ([toByte (hs.take 8).length] ++ be2 next ++ (hs.take 8).flatMap (s.summary d))))
            ∧ (hs.length < 8 → next = 256)
            ∧ ∀ n, hs[7]? = some n → next = if n + 1 < (s.vol d).capacity then n + 1 else 256))

/-- CREATE (R140): its checks in their order, and what it makes: the lowest FREE handle becomes LIVE with the slug, basket
and priority of the request, length 0, the clock's stamp, version 0 and the line as author; the line takes the claim on
it, CREATED is raised, and the reply waits for write-back. The bytes of the slug field after the first 0x00 are ignored
(DESIGN CHOICE, unsafe: log 39). A CREATE whose buffer carries the orphan mark (R159) makes the entry LIVE and raises CREATED
in the same way, and takes no claim; the claim table must have room for it all the same, or it makes nothing (DEDUCED,
unsafe: log 45). -/
def Obligations.CreateMakesAStoryAndClaimsIt : Prop :=
  ∀ (s : State) (l : Line) (b : BufId) (h : Held) (d : DriveId) (p : Profile), s.part.extReset = false →
    s.buffer l b = some h → h.code = codeCreate → h.stage = .inProgress → h.taken = false →
    driveOf (byteAt h.body 0) = some d → s.gateReason d .changes true = none → (s.vol d).profile = some p →
    let slug := slugField h.body 1
    let basket := byteAt h.body 13
    let priority := byteAt h.body 14
    let fits := slugOk slug = true ∧ basket ≤ 15 ∧ priority ≤ 3
    let taken := ∃ n, n < 256 ∧ ((s.vol d).entry n).isStory = true ∧ ((s.vol d).entry n).slug = slug
    let made : Entry :=
      { state := .live, slug := slug, basket := basket, priority := priority, length := 0, extents := [],
        day := s.clock.day, minute := s.clock.minute, version := 0, author := l.val, decoded := true }
    (s.Waiting l b codeCreate h →
      (¬ fits → exec (.createStory l b) s = .next (s.replied l b h (.refused .outOfRange none)))
      ∧ (fits → taken → exec (.createStory l b) s = .next (s.replied l b h (.refused .duplicate none)))
      ∧ (fits → ¬ taken → s.cw.hasRoom l = false →
          exec (.createStory l b) s = .next (s.replied l b h (.refused .tableFull none)))
      ∧ (fits → ¬ taken → s.cw.hasRoom l = true → (∀ n, n < p.capacity → ((s.vol d).entry n).state ≠ .free) →
          exec (.createStory l b) s = .next (s.replied l b h (.refused .indexFull none)))
      ∧ (∀ n, fits → ¬ taken → s.cw.hasRoom l = true → n < p.capacity → ((s.vol d).entry n).state = .free →
          (∀ m, m < n → ((s.vol d).entry m).state ≠ .free) → p.sectorOf n < (s.vol d).sectors.length →
          ∃ t, exec (.createStory l b) s = .next t
            ∧ s.ChangedEntry t l b h d p n made false (s.vol d).free
            ∧ t.cw = { s.cw.raise (storyEvent .created d n basket l) with
                claims := s.cw.claims ++ [{ drive := d, serial := (s.vol d).serial, handle := n, holder := l,
                                            arrival := s.cw.counter }],
                counter := (s.cw.counter + 1) % 65536 }))
    ∧ (h.orphan = true →
        (∀ n, fits → ¬ taken → s.cw.hasRoom l = true → n < p.capacity → ((s.vol d).entry n).state = .free →
          (∀ m, m < n → ((s.vol d).entry m).state ≠ .free) → p.sectorOf n < (s.vol d).sectors.length →
          ∃ t, exec (.createStory l b) s = .next t
            ∧ s.ChangedEntry t l b h d p n made false (s.vol d).free
            ∧ t.cw = s.cw.raise (storyEvent .created d n basket l))
        ∧ ((¬ fits ∨ taken ∨ s.cw.hasRoom l = false ∨ ∀ n, n < p.capacity → ((s.vol d).entry n).state ≠ .free) →
          ∃ t, exec (.createStory l b) s = .next t ∧ t.cw = s.cw ∧ t = { s with lines := t.lines }))

/-- FILE (R141, R146, R147), with no desk WRITE in the queue into a granule it releases: the length, clamped to the
entry's capacity, the clock's stamp, the version one higher, the author, and the first granules that the length needs;
the others return to the free set. FILED is raised, and the claim goes when the release flag is set. -/
def Obligations.FileSetsLengthAndFreesTheRest : Prop :=
  ∀ (s : State) (l : Line) (b : BufId) (h : Held) (d : DriveId) (p : Profile) (n : Nat) (e : Entry),
    s.StoryAsked l b h codeFile .changes d p n e →
    let len := min (nat3 h.body 2) (p.blocks e * p.bytes)
    let ng := ((len + p.bytes - 1) / p.bytes + p.granule - 1) / p.granule
    let gone := (extentGranules e.extents).drop ng
    (e.state ≠ .live → exec (.fileStory l b) s = .next (s.replied l b h (.refused .noStory none)))
    ∧ (e.state = .live → s.cw.holder d n ≠ some l →
        exec (.fileStory l b) s = .next (s.replied l b h (.refused .notClaimed none)))
    ∧ (e.state = .live → s.cw.holder d n = some l → (∀ r ∈ (s.drive d).queue, ∀ g ∈ gone, r.writesGranule p g = false) →
        ∃ t es, exec (.fileStory l b) s = .next t
          ∧ s.ChangedEntry t l b h d p n
              { e with length := len, day := s.clock.day, minute := s.clock.minute, version := (e.version + 1) % 256,
                       author := l.val, extents := es }
              (decide (p.blocks e * p.bytes < nat3 h.body 2)) (t.vol d).free
          ∧ extentGranules es = (extentGranules e.extents).take ng
          ∧ (∀ g, g ∈ (t.vol d).free ↔ g ∈ (s.vol d).free ∨ g ∈ gone)
          ∧ t.cw = (if byteAt h.body 5 = 0 then s.cw.raise (storyEvent .filed d n e.basket l)
                    else (s.cw.raise (storyEvent .filed d n e.basket l)).freed d n e.basket l))

/-- MOVE (R142): refused by entry state, then by another's claim, then by range (the order of R133, DEDUCED, unsafe:
log 43); answered at
once when nothing changes; else the new basket and priority are entered and written back, MOVED-IN being raised only when
the basket changed. -/
def Obligations.MoveChangesBasketAndPriority : Prop :=
  ∀ (s : State) (l : Line) (b : BufId) (h : Held) (d : DriveId) (p : Profile) (n : Nat) (e : Entry),
    s.StoryAsked l b h codeMove .changes d p n e →
    let basket := byteAt h.body 2
    let priority := byteAt h.body 3
    (e.isStory = false → exec (.moveStory l b) s = .next (s.replied l b h (.refused .noStory none)))
    ∧ (∀ o, e.isStory = true → s.cw.holder d n = some o → o ≠ l →
        exec (.moveStory l b) s = .next (s.replied l b h (.refused .claimed (some o))))
    ∧ (e.isStory = true → (s.cw.holder d n = none ∨ s.cw.holder d n = some l) →
        ((15 < basket ∨ 3 < priority) →
          exec (.moveStory l b) s = .next (s.replied l b h (.refused .outOfRange none)))
        ∧ (basket ≤ 15 → priority ≤ 3 → basket = e.basket → priority = e.priority →
            exec (.moveStory l b) s = .next (s.replied l b h (.done false false (s.summary d n))))
        ∧ (basket ≤ 15 → priority ≤ 3 → (basket ≠ e.basket ∨ priority ≠ e.priority) →
            ∃ t, exec (.moveStory l b) s = .next t
              ∧ s.ChangedEntry t l b h d p n { e with basket := basket, priority := priority } false (s.vol d).free
              ∧ t.cw = (if basket = e.basket then s.cw else s.cw.raise (storyEvent .movedIn d n basket l))))

/-- SPIKE and REVIVE (R143, R144): a LIVE entry becomes RETIRED, the requester's own claim going and SPIKED being raised; a
RETIRED one becomes LIVE without claim or event; every other field stays; the other state is refused WRONG-STATE, FREE and
DAMAGED NO-STORY, another's claim CLAIMED. -/
def Obligations.SpikeAndReviveChangeTheStateAlone : Prop :=
  ∀ (s : State) (l : Line) (b : BufId) (h : Held) (d : DriveId) (p : Profile) (n : Nat) (e : Entry),
    (s.StoryAsked l b h codeSpike .changes d p n e →
      (e.state = .retired → exec (.spike l b) s = .next (s.replied l b h (.refused .wrongState none)))
      ∧ (e.state = .free ∨ e.state = .damaged → exec (.spike l b) s = .next (s.replied l b h (.refused .noStory none)))
      ∧ (∀ o, e.state = .live → s.cw.holder d n = some o → o ≠ l →
          exec (.spike l b) s = .next (s.replied l b h (.refused .claimed (some o))))
      ∧ (e.state = .live → (s.cw.holder d n = none ∨ s.cw.holder d n = some l) → ∃ t, exec (.spike l b) s = .next t
          ∧ s.ChangedEntry t l b h d p n { e with state := .retired } false (s.vol d).free
          ∧ t.cw = (if s.cw.holder d n = none then s.cw.raise (storyEvent .spiked d n e.basket l)
                    else (s.cw.raise (storyEvent .spiked d n e.basket l)).freed d n e.basket l)))
    ∧ (s.StoryAsked l b h codeRevive .changes d p n e →
      (e.state = .live → exec (.revive l b) s = .next (s.replied l b h (.refused .wrongState none)))
      ∧ (e.state = .free ∨ e.state = .damaged → exec (.revive l b) s = .next (s.replied l b h (.refused .noStory none)))
      ∧ (∀ o, e.state = .retired → s.cw.holder d n = some o → o ≠ l →
          exec (.revive l b) s = .next (s.replied l b h (.refused .claimed (some o))))
      ∧ (e.state = .retired → (s.cw.holder d n = none ∨ s.cw.holder d n = some l) →
          ∃ t, exec (.revive l b) s = .next t
            ∧ s.ChangedEntry t l b h d p n { e with state := .live } false (s.vol d).free ∧ t.cw = s.cw))

/-- PURGE (R145, R147), with no desk WRITE in the queue into a granule of the story: every granule returns to the free
set, the requester's own claim goes, the entry becomes FREE. The release of a granule (R147): the QUEUED desk WRITEs into
it leave the queue, each answered FAILED TRIMMED; one that is selected stays and holds the granule, which is in the free
set either way. -/
def Obligations.PurgeFreesTheEntryAndItsGranules : Prop :=
  (∀ (s : State) (l : Line) (b : BufId) (h : Held) (d : DriveId) (p : Profile) (n : Nat) (e : Entry),
      s.StoryAsked l b h codePurge .changes d p n e →
      (e.isStory = false → exec (.purge l b) s = .next (s.replied l b h (.refused .noStory none)))
      ∧ (∀ o, e.isStory = true → s.cw.holder d n = some o → o ≠ l →
          exec (.purge l b) s = .next (s.replied l b h (.refused .claimed (some o))))
      ∧ (e.isStory = true → (s.cw.holder d n = none ∨ s.cw.holder d n = some l) →
          (∀ r ∈ (s.drive d).queue, ∀ g ∈ extentGranules e.extents, r.writesGranule p g = false) →
          ∃ t, exec (.purge l b) s = .next t
            ∧ s.ChangedEntry t l b h d p n freeEntry false (t.vol d).free
            ∧ (∀ g, g ∈ (t.vol d).free ↔ g ∈ (s.vol d).free ∨ g ∈ extentGranules e.extents)
            ∧ t.cw = (if s.cw.holder d n = none then s.cw else s.cw.freed d n e.basket l)))
  ∧ (∀ (s : State) (d : DriveId) (p : Profile) (g : Nat),
      let t := s.releaseGranule d p g
      (∀ x, x ∈ (t.vol d).free ↔ x = g ∨ x ∈ (s.vol d).free)
      ∧ (∀ r, r ∈ (t.drive d).queue ↔ r ∈ (s.drive d).queue ∧
          ¬ (r.origin ≠ .volume ∧ r.state = .queued ∧ r.writesGranule p g = true))
      ∧ (∀ r l b x h, r ∈ (s.drive d).queue → r.state = .queued → r.writesGranule p g = true → r.origin = .desk l →
          r.kind = .write b x → s.buffer l b = some h → h.stage = .inProgress → h.orphan = false → h.reply = none →
          t.hasReply l b (.failed .trimmed))
      ∧ ((∃ r ∈ (s.drive d).queue, r.state ≠ .queued ∧ r.writesGranule p g = true) →
          (t.vol d).heldGranule = some g ∧ (t.vol d).allocatable g = false))

/-- WRITE BLOCK, its checks and a write within the allocation (R137, R71, R66): a WRITE of the block's sector joins the drive
queue, the entry is not changed and the request stays in its buffer; POWER-LOW during the long inhibit, BUSY QUEUE-FULL when
every desk place is held; so is a write that would extend the story, which then allocates nothing (R138). That the long
inhibit is looked at before the queue, and the refusals of an extension before both, is the model's choice (DESIGN CHOICE,
unsafe: log 40). WRITE BLOCK at the end of the allocation (R138): the granule after the last extent when it is allocatable,
else the lowest allocatable one as a new extent; VOLUME-FULL and EXTENTS-FULL otherwise. The granule leaves the free set, the
WRITE is placed, the entry's sector is dirty and the request waits for both. -/
def Obligations.WriteBlockPlacesAWriteOrExtends : Prop :=
  (∀ (s : State) (l : Line) (b : BufId) (h : Held) (d : DriveId) (p : Profile) (n : Nat) (e : Entry) (pl : Place),
      s.StoryAsked l b h codeWriteBlock .changes d p n e →
      let block := nat2 h.body 2
      (e.state ≠ .live → exec (.writeBlock l b) s = .next (s.replied l b h (.refused .noStory none)))
      ∧ (e.state = .live → s.cw.holder d n ≠ some l →
          exec (.writeBlock l b) s = .next (s.replied l b h (.refused .notClaimed none)))
      ∧ (e.state = .live → s.cw.holder d n = some l →
          ((nat2 h.body 4 ≠ p.bytes ∨ p.blocks e < block) →
            exec (.writeBlock l b) s = .next (s.replied l b h (.refused .outOfRange none)))
          ∧ (nat2 h.body 4 = p.bytes → block < p.blocks e → p.locate e.extents block = some pl →
              (s.channel.longInhibit = true →
                exec (.writeBlock l b) s = .next (s.replied l b h (.failed .powerLow)))
              ∧ (s.channel.longInhibit = false → 12 ≤ (s.drive d).deskPlaces →
                  exec (.writeBlock l b) s = .next ((s.replied l b h (.busy .queueFull)).modDrive d fun u =>
                    { u with refused := min 65535 (u.refused + 1) }))
              ∧ (s.channel.longInhibit = false → (s.drive d).deskPlaces < 12 →
                  ∃ r, exec (.writeBlock l b) s = .next ({ s.takenBy l b h with
                      arrival := (s.arrival + 1) % 65536 }.modDrive d fun u => { u with queue := u.queue ++ [r] })
                    ∧ r.Placed l (.write b none) pl s.arrival ∧ r.sectorId = some pl.sectorId
                    ∧ r.slot = some (p.slot pl.cylinder pl.head pl.sectorId)))))
  ∧ (∀ (s : State) (l : Line) (b : BufId) (h : Held) (d : DriveId) (p : Profile) (n : Nat) (e : Entry),
      s.StoryAsked l b h codeWriteBlock .changes d p n e → e.state = .live → s.cw.holder d n = some l →
      nat2 h.body 4 = p.bytes → nat2 h.body 2 = p.blocks e → 0 < p.granule → (s.vol d).free.Pairwise (· < ·) →
      let after (g : Nat) : Prop := ∃ x, e.extents.getLast? = some x ∧ x.first + x.count = g ∧ (s.vol d).allocatable g = true
      let lowest (g : Nat) : Prop :=
        (s.vol d).allocatable g = true ∧ ∀ x, (s.vol d).allocatable x = true → g ≤ x
      ((∀ g, (s.vol d).allocatable g = false) →
        exec (.writeBlock l b) s = .next (s.replied l b h (.refused .volumeFull none)))
      ∧ ((∃ g, (s.vol d).allocatable g = true) → (∀ g, ¬ after g) → 4 ≤ e.extents.length →
          exec (.writeBlock l b) s = .next (s.replied l b h (.refused .extentsFull none)))
      ∧ (∀ g es, (after g ∧ ∃ init x, e.extents = init ++ [x] ∧ es = init ++ [{ x with count := x.count + 1 }])
            ∨ ((∀ y, ¬ after y) ∧ e.extents.length < 4 ∧ lowest g ∧ es = e.extents ++ [{ first := g, count := 1 }]) →
          (s.channel.longInhibit = true →
            exec (.writeBlock l b) s = .next (s.replied l b h (.failed .powerLow)))
          ∧ (s.channel.longInhibit = false → 12 ≤ (s.drive d).deskPlaces →
              exec (.writeBlock l b) s = .next ((s.replied l b h (.busy .queueFull)).modDrive d fun u =>
                { u with refused := min 65535 (u.refused + 1) }))
          ∧ (s.channel.longInhibit = false → (s.drive d).deskPlaces < 12 →
              ∃ t r q, exec (.writeBlock l b) s = .next t
                ∧ p.locate es (p.blocks e) = some { cylinder := r.cylinder, head := r.head, sectorId := r.sectorId.getD 0 }
                ∧ r.origin = .desk l ∧ r.kind = .write b (some .waiting) ∧ r.state = .queued ∧ r.arrival = s.arrival
                ∧ t.drive d = { s.drive d with queue := (s.drive d).queue ++ [r] ++ q } ∧ q.length ≤ 2
                ∧ (∀ x ∈ q, ∃ j, x.kind = .indexWrite j)
                ∧ (t.vol d).entry n = { e with extents := es }
                ∧ (∀ m, m ≠ n → (t.vol d).entry m = (s.vol d).entry m)
                ∧ (t.vol d).free = (s.vol d).free.filter (· != g)
                ∧ (t.vol d).sector (p.sectorOf n) ≠ .clean
                ∧ (t.vol d).waiters = (s.vol d).waiters ++ [{ changeWaiter p n l b false with kind := .extending none }]
                ∧ t.vol d = { s.vol d with entries := (t.vol d).entries, sectors := (t.vol d).sectors,
                                           waiters := (t.vol d).waiters, free := (t.vol d).free }
                ∧ t.lines = (s.takenBy l b h).lines ∧ s.OthersKept t d
                ∧ t = { s with lines := t.lines, drives := t.drives, vols := t.vols, arrival := t.arrival })))

/-- The arithmetic from a story block to its sector (R15 to R18): every block below the allocation has one place, on a
track of the data area, and distinct sectors of the data area have distinct places. The physical slots of a track (R18):
when the interleave is 1 or has no factor in common with the sectors per track, every slot holds one logical sector and
every sector stands in one slot, whatever the skew. -/
def Obligations.BlocksAndSlotsCoverTheDataArea : Prop :=
  (∀ (p : Profile) (e : Entry), 0 < p.granule → 0 < p.spt → (p.sides = 1 ∨ p.sides = 2) →
      (∀ x ∈ e.extents, x.first + x.count ≤ p.granules) →
      (∀ n, n < p.blocks e → ∃ pl, p.locate e.extents n = some pl
        ∧ 2 ≤ pl.cylinder ∧ pl.cylinder ≤ 76 ∧ pl.head < p.sides ∧ 1 ≤ pl.sectorId ∧ pl.sectorId ≤ p.spt
        ∧ (extentGranules e.extents)[n / p.granule]? = some (p.granuleOf pl.cylinder pl.head pl.sectorId))
      ∧ (∀ n, p.blocks e ≤ n → p.locate e.extents n = none)
      ∧ ∀ a c, p.place a = p.place c → a = c)
  ∧ (∀ spt interleave skew t : Nat, 0 < spt → Nat.gcd interleave spt = 1 →
      (∀ k, slotOf spt interleave skew k t < spt)
      ∧ (∀ j k, j < spt → k < spt → slotOf spt interleave skew j t = slotOf spt interleave skew k t → j = k)
      ∧ ∀ pos, pos < spt → ∃ k, sectorAt spt interleave skew t pos = some k ∧ k < spt
          ∧ slotOf spt interleave skew k t = pos)

/-! ### The track cache (Chapter 5) -/

/-- READ BLOCK, refused (R136): NO-STORY for an entry neither LIVE nor RETIRED, OUT-OF-RANGE for a block at or above the
allocated blocks. READ BLOCK answered at once (R95, R96): from the newest desk WRITE of the sector in the queue, else from
a VALID frame of the track by the sector's condition; a hit is counted and nothing else changes. -/
def Obligations.ReadBlockRefusalsAndHits : Prop :=
  (∀ (s : State) (l : Line) (b : BufId) (h : Held) (d : DriveId) (p : Profile) (n : Nat) (e : Entry),
      s.StoryAsked l b h codeReadBlock .reads d p n e →
      (e.isStory = false → exec (.readBlock l b) s = .next (s.replied l b h (.refused .noStory none)))
      ∧ (e.isStory = true → p.blocks e ≤ nat2 h.body 2 →
          exec (.readBlock l b) s = .next (s.replied l b h (.refused .outOfRange none))))
  ∧ (∀ (s : State) (l : Line) (b : BufId) (h : Held) (d : DriveId) (p : Profile) (n : Nat) (e : Entry) (pl : Place),
      s.StoryAsked l b h codeReadBlock .reads d p n e → e.isStory = true → nat2 h.body 2 < p.blocks e →
      p.locate e.extents (nat2 h.body 2) = some pl →
      let hit (r : Reply) : State := (s.replied l b h r).modRegion d fun g => { g with hits := min 65535 (g.hits + 1) }
      let bytes (data : List Byte) : Reply := .done false false (h.body.take 4 ++ be2 data.length ++ data)
      (∀ older w newer l' b' x, (s.drive d).queue = older ++ w :: newer → w.origin = .desk l' → w.kind = .write b' x →
          w.cylinder = pl.cylinder → w.head = pl.head → w.sectorId = some pl.sectorId →
          (∀ r ∈ newer, r.writesPlace pl = false) →
          exec (.readBlock l b) s = .next (hit (bytes (writeDataOf (s.bodyOf l' b')))))
      ∧ (∀ i f conds, (∀ r ∈ (s.drive d).queue, r.writesPlace pl = false) →
          (s.region d).frame i = .valid pl.cylinder pl.head f conds →
          (∀ j, j < i → ((s.region d).frame j).validFor pl.cylinder pl.head = false) →
          (conds[pl.sectorId - 1]? = some .good →
            exec (.readBlock l b) s = .next (hit (bytes (s.frameData d i p.read pl.sectorId))))
          ∧ (conds[pl.sectorId - 1]? = some .bad → exec (.readBlock l b) s = .next (hit (.failed .readCheck)))
          ∧ (conds[pl.sectorId - 1]? = some .absent → exec (.readBlock l b) s = .next (hit (.failed .notFound)))))

/-- READ BLOCK that must go to the diskette (R97 to R99): it joins the FILL of a FILLING frame of its track; else it takes
the lowest EMPTY frame, or the VALID frame with fill number 1, and places a FILL; with no frame to take it places a
DIRECT-READ; with every desk place held it is answered BUSY and the region is as it was. -/
def Obligations.ReadBlockMissesQueueWork : Prop :=
  ∀ (s : State) (l : Line) (b : BufId) (h : Held) (d : DriveId) (p : Profile) (n : Nat) (e : Entry) (pl : Place),
    s.StoryAsked l b h codeReadBlock .reads d p n e → e.isStory = true → nat2 h.body 2 < p.blocks e →
    p.locate e.extents (nat2 h.body 2) = some pl →
    (∀ r ∈ (s.drive d).queue, r.writesPlace pl = false) →
    (∀ f ∈ (s.region d).frames, f.validFor pl.cylinder pl.head = false) →
    let rd : Reader := { line := l, buf := b, sector := pl.sectorId }
    let nofill := ∀ f ∈ (s.region d).frames, f.fillingFor pl.cylinder pl.head = false
    (∀ pre rest rs, (s.region d).frames = pre ++ .filling pl.cylinder pl.head rs :: rest →
        (∀ f ∈ pre, f.fillingFor pl.cylinder pl.head = false) →
        ∃ t, exec (.readBlock l b) s = .next t
          ∧ t.region d = { s.region d with frames := pre ++ .filling pl.cylinder pl.head (rs ++ [rd]) :: rest }
          ∧ t.drive d = { s.drive d with queue := (s.drive d).queue.map (joinFill pre.length l pl.sectorId) }
          ∧ s.OthersKept t d ∧ t = { s.takenBy l b h with drives := t.drives, regions := t.regions })
    ∧ (nofill → 12 ≤ (s.drive d).deskPlaces → exec (.readBlock l b) s = .next
        ((s.replied l b h (.busy .queueFull)).modDrive d fun u => { u with refused := min 65535 (u.refused + 1) }))
    ∧ (∀ i, nofill → (s.drive d).deskPlaces < 12 → (s.region d).state = .opened → (s.region d).pick = some i →
        ∃ t r, exec (.readBlock l b) s = .next t
          ∧ t.drive d = { s.drive d with queue := (s.drive d).queue ++ [r] }
          ∧ r.Placed l (.fill i) pl s.arrival ∧ r.lines = [l] ∧ r.wanted = [pl.sectorId] ∧ r.sectorId = none
          ∧ (t.region d).frame i = .filling pl.cylinder pl.head [rd]
          ∧ (t.region d).fills = min 65535 ((s.region d).fills + 1)
          ∧ (t.region d).evicts = (if ((s.region d).frame i).isEmpty then (s.region d).evicts
                                   else min 65535 ((s.region d).evicts + 1))
          ∧ t.region d = { s.region d with frames := (t.region d).frames, fills := (t.region d).fills,
                                           evicts := (t.region d).evicts }
          ∧ s.OthersKept t d ∧ t.arrival = (s.arrival + 1) % 65536
          ∧ t = { s.takenBy l b h with drives := t.drives, regions := t.regions, arrival := t.arrival })
    ∧ (nofill → (s.drive d).deskPlaces < 12 → (s.region d).pick = none →
        ∃ t r, exec (.readBlock l b) s = .next t
          ∧ t.drive d = { s.drive d with queue := (s.drive d).queue ++ [r] }
          ∧ r.Placed l (.directRead b) pl s.arrival ∧ r.sectorId = some pl.sectorId
          ∧ r.slot = some (p.slot pl.cylinder pl.head pl.sectorId)
          ∧ t.region d = { s.region d with directs := min 65535 ((s.region d).directs + 1) }
          ∧ s.OthersKept t d ∧ t.arrival = (s.arrival + 1) % 65536
          ∧ t = { s.takenBy l b h with drives := t.drives, regions := t.regions, arrival := t.arrival })

/-- The frame an allocation takes (R98): the lowest EMPTY one, else the VALID one with fill number 1; none when every
frame is FILLING or there is none. A region whose fill numbers are ranked always has one to take unless all are FILLING.
Fill numbers stay ranked 1, 2, … each once (R94): when a frame is emptied or taken for a FILL, when a FILLING frame
becomes VALID, and when a write marks a sector good. -/
def Obligations.AllocationKeepsFillNumbersRanked : Prop :=
  (∀ g : Region,
      let fillNumbers := g.frames.filterMap fun f =>
        match f with
        | .valid _ _ n _ => some n
        | _ => none
      fillNumbers.Perm ((List.range fillNumbers.length).map (· + 1)) →
      (∀ i, g.pick = some i → (g.frame i = .empty ∧ i < g.frames.length ∧ ∀ j, j < i → g.frame j ≠ .empty)
          ∨ ((∀ f ∈ g.frames, f ≠ .empty) ∧ ∃ c h conds, g.frame i = .valid c h 1 conds))
      ∧ (g.pick = none ↔ ∀ f ∈ g.frames, f.isFilling = true))
  ∧ (∀ (g : Region) (i : Nat),
      let numbers (fs : List Frame) := fs.filterMap fun f =>
        match f with
        | .valid _ _ n _ => some n
        | _ => none
      let ranked (fs : List Frame) := (numbers fs).Perm ((List.range (numbers fs).length).map (· + 1))
      ranked g.frames → i < g.frames.length →
      (∀ f, f.isValid = false → ranked (g.setFrame i f).frames)
      ∧ (∀ c h conds, g.state = .opened → (g.frame i).isFilling = true →
          ranked (g.filled i c h conds).frames
          ∧ (g.filled i c h conds).frame i = .valid c h ((numbers g.frames).length + 1) conds)
      ∧ ∀ k, ranked (g.frames.set i ((g.frame i).markGood k)))

/-- The buffer memory under a sector's bytes (R92, R103): what is put at a sector of a frame is read back, and every byte
outside it reads as before; the memory stays canonical. Regions do not overlap and frames of a region do not (R92): with F
frames of the profile, sectors of distinct frames or of distinct regions lie at distinct addresses, inside the region's 32
768 bytes, region n beginning at n * 32 768 (DESIGN CHOICE, unsafe: log 61). What frames hold is put there by the data fields
of fills and by write-through alone (R100 to R103): every command leaves every byte of the buffer memory, but for
DATA_FIELD_READ, DATA_FIELD_WRITTEN and the commands that reset the blocks (the memory they leave, and that of the self-test:
DESIGN CHOICE, unsafe: log 8); so does a DATA_FIELD_READ of a read of one sector, of a SWEEP, of a format's check or of a
read of a mount (R12). What the others store is in the statements on writes and on fills. -/
def Obligations.FrameDataReadsBack : Prop :=
  (∀ (s : State) (d : DriveId) (i : Nat) (p : ReadProfile) (k : Nat) (data : List Byte), s.memoryCanonical →
      data.length = p.bytes →
      let t := s.putFrame d i p k data
      t.frameData d i p k = data ∧ t.memoryCanonical
      ∧ (∀ a, (a < frameAddr d i p.spt p.bytes k ∨ frameAddr d i p.spt p.bytes k + p.bytes ≤ a) → t.mem.read a = s.mem.read a)
      ∧ t = { s with mem := t.mem })
  ∧ (∀ (p : Profile) (d e : DriveId) (i j k m x y : Nat), 0 < p.spt →
      i < frameCount p → j < frameCount p → 1 ≤ k → k ≤ p.spt → 1 ≤ m → m ≤ p.spt → x < p.bytes → y < p.bytes →
      (d, i, k) ≠ (e, j, m) →
      frameAddr d i p.spt p.bytes k + x ≠ frameAddr e j p.spt p.bytes m + y
      ∧ d.val * 32768 ≤ frameAddr d i p.spt p.bytes k + x ∧ frameAddr d i p.spt p.bytes k + x < (d.val + 1) * 32768)
  ∧ (∀ (i : Instr) (s t : State), exec i s = .next t → (∀ f, i ≠ .dataFieldRead f) → i ≠ .dataFieldWritten →
      (∀ x, i ≠ .powerOn x) → (∀ x, i ≠ .externalResetAsserted x) → (∀ x, i ≠ .externalResetReleased x) →
      (∀ x, i ≠ .drainEnd x) → t.mem = s.mem)
  ∧ (∀ (f : DataField) (s t : State) (d : DriveId) (r : Request) (o : OpRecord), s.Serving d r o →
      (r.kind = .labelRead ∨ r.kind = .indexLoad ∨ r.kind = .formatTrack
        ∨ ∃ b, r.kind = .directRead b ∨ r.kind = .rawRead b ∨ r.kind = .sweep b) →
      exec (.dataFieldRead f) s = .next t → t.mem = s.mem)

/-! ### Claims and watches (Chapter 8) -/

/-- OPEN (R155): refused OUT-OF-RANGE above the capacity, NO-STORY for an entry that is not LIVE, CLAIMED by another's
claim, TABLE-FULL without room; answered without change to the line that already holds the claim; else a record joins the
end of the table with the volume serial and the next arrival number, and no event is raised. The DONE reply is the entry
summary with the requesting line as holder. An orphaned OPEN grants nothing (R159). -/
def Obligations.OpenGrantsAFreeClaim : Prop :=
  ∀ (s : State) (l : Line) (b : BufId) (h : Held),
    (∀ d, s.Waiting l b codeOpen h → driveOf (byteAt h.body 0) = some d → s.gateReason d .changes false = none →
      let n := byteAt h.body 1
      ((s.vol d).capacity ≤ n → exec (.openStory l b) s = .next (s.replied l b h (.refused .outOfRange none)))
      ∧ (n < (s.vol d).capacity → ((s.vol d).entry n).state ≠ .live →
          exec (.openStory l b) s = .next (s.replied l b h (.refused .noStory none)))
      ∧ (n < (s.vol d).capacity → ((s.vol d).entry n).state = .live →
          (∀ o, s.cw.holder d n = some o → o ≠ l →
            exec (.openStory l b) s = .next (s.replied l b h (.refused .claimed (some o))))
          ∧ (s.cw.holder d n = some l → exec (.openStory l b) s = .next (s.replied l b h (.done false false
              (summaryBytes n ((s.vol d).entry n) (some l)))))
          ∧ (s.cw.holder d n = none → s.cw.hasRoom l = false →
              exec (.openStory l b) s = .next (s.replied l b h (.refused .tableFull none)))
          ∧ (s.cw.holder d n = none → s.cw.hasRoom l = true →
              exec (.openStory l b) s = .next ((s.replied l b h (.done false false
                (summaryBytes n ((s.vol d).entry n) (some l)))).modClaims fun c =>
                  { c with
                    claims := c.claims ++ [{ drive := d, serial := (s.vol d).serial, handle := n, holder := l,
                                             arrival := c.counter }],
                    counter := (c.counter + 1) % 65536 }))))
    ∧ (s.buffer l b = some h → h.orphan = true → ∃ t, exec (.openStory l b) s = .next t ∧ t.cw = s.cw)

/-- RELEASE and BREAK CLAIM (R157, R158): the record goes and CLAIM-FREED is raised with the entry's basket; a break of
another line's claim sets that line's claim-broken flag and names it in the reply; NOT-CLAIMED otherwise. -/
def Obligations.ReleaseAndBreakEndAClaim : Prop :=
  ∀ (s : State) (l : Line) (b : BufId) (h : Held) (d : DriveId), driveOf (byteAt h.body 0) = some d →
    let n := byteAt h.body 1
    let basket := ((s.vol d).entry n).basket
    (s.Waiting l b codeRelease h →
      (s.cw.holder d n = some l → exec (.release l b) s = .next
        ((s.replied l b h (.done false false [])).modClaims fun c => c.freed d n basket l))
      ∧ (s.cw.holder d n ≠ some l → exec (.release l b) s = .next (s.replied l b h (.refused .notClaimed none))))
    ∧ (s.Waiting l b codeBreakClaim h →
      (s.cw.holder d n = none → exec (.breakClaim l b) s = .next (s.replied l b h (.refused .notClaimed none)))
      ∧ (s.cw.holder d n = some l → exec (.breakClaim l b) s = .next
          ((s.replied l b h (.done false false [0xFF#8])).modClaims fun c => c.freed d n basket l))
      ∧ (∀ o, s.cw.holder d n = some o → o ≠ l → exec (.breakClaim l b) s = .next
          ((s.replied l b h (.done false false [toByte o.val])).modClaims fun c =>
            ({ c with broken := c.broken.set o.val (some (d, n)) o.isLt } : ClaimUnit).freed d n basket l)))

/-- An event meets the watches (R161, R164): every watch in use of every line but the causing one whose drive, target and
event set fit becomes RAISED with the event as its last; every other watch, and all else of the unit, is as before. -/
def Obligations.EventsRaiseTheWatchesTheyMatch : Prop :=
  ∀ (c : ClaimUnit) (e : Event) (l : Line) (n : Fin 4),
    let fits (w : WatchSpec) : Prop := (w.drive = none ∨ w.drive = some e.drive)
      ∧ (∀ set, w.target = .baskets set → set.getLsbD e.basket = true) ∧ (∀ x, w.target = .story x → x = e.handle)
      ∧ w.events.getLsbD e.kind.code = true
    let last : LastEvent := { kind := e.kind, drive := e.drive, handle := e.handle }
    let before := (c.watches.get l).get n
    let after := ((c.raise e).watches.get l).get n
    (l = e.cause → after = before)
    ∧ (before = .unused → after = .unused)
    ∧ (∀ w, l ≠ e.cause → fits w → (before = .armed w ∨ ∃ x, before = .raised w x) → after = .raised w last)
    ∧ (∀ w, ¬ fits w → (before = .armed w ∨ ∃ x, before = .raised w x) → after = before)
    ∧ (c.raise e).claims = c.claims ∧ (c.raise e).counter = c.counter ∧ (c.raise e).broken = c.broken

/-- R167: a line's attention output is asserted exactly while one of its watches is RAISED with signal on or its
claim-broken flag is set, as the state stands; a line in ABSENT has its output deasserted (in every state that keeps the
promise of absent lines, which every step keeps). -/
def Obligations.AttentionFollowsWatchesAndFlag : Prop :=
  ∀ (s : State) (l : Line),
    (s.attention l = true ↔
      (∃ n w last, (s.cw.watches.get l).get n = .raised w last ∧ w.signal = true) ∨ s.cw.broken.get l ≠ none)
    ∧ (s.absentLinesQuiet → (s.line l).portState = .absent →
        (∀ n, (s.cw.watches.get l).get n = .unused) ∧ s.cw.broken.get l = none ∧ s.attention l = false)

/-- WATCH SET (R163): refused by range, by the volume of a STORY-mode watch, and with no UNUSED watch; else the line's
lowest UNUSED watch is ARMED with the fields of the request and the reply names it. An orphaned one arms nothing (R159).
WATCH CLEAR (R165): the reply carries the watch, or the claim-broken flag, as it stood; a RAISED watch becomes ARMED, with
the discard flag any becomes UNUSED, and the claim-broken flag is cleared; WRONG-STATE for an UNUSED watch, OUT-OF-RANGE
for another target or for discard with the flag. A volume that is gone (R160): its claims go without event or claim-broken
flag, STORY-mode watches naming the drive become UNUSED, and every other watch is kept. -/
def Obligations.WatchSetAndClear : Prop :=
  (∀ (s : State) (l : Line) (b : BufId) (h : Held),
      (s.Waiting l b codeWatchSet h →
        (watchSpecOf h.body = none → exec (.watchSet l b) s = .next (s.replied l b h (.refused .outOfRange none)))
        ∧ ∀ w, watchSpecOf h.body = some w →
          (∀ d x, w.drive = some d → w.target = .story x → (s.vol d).inService = false →
            exec (.watchSet l b) s = .next (s.replied l b h (.refused .noVolume none)))
          ∧ (∀ d x, w.drive = some d → w.target = .story x → (s.vol d).inService = true → (s.vol d).capacity ≤ x →
              exec (.watchSet l b) s = .next (s.replied l b h (.refused .outOfRange none)))
          ∧ (s.watchRefused w = none → (∀ n, (s.cw.watches.get l).get n ≠ .unused) →
              exec (.watchSet l b) s = .next (s.replied l b h (.refused .watchFull none)))
          ∧ (∀ n, s.watchRefused w = none → (s.cw.watches.get l).get n = .unused →
              (∀ m, m < n → (s.cw.watches.get l).get m ≠ .unused) →
              exec (.watchSet l b) s = .next ((s.replied l b h (.done false false [toByte n.val])).modClaims fun c =>
                c.setWatch l n (.armed w))))
      ∧ (s.buffer l b = some h → h.orphan = true → ∃ t, exec (.watchSet l b) s = .next t ∧ t.cw = s.cw))
  ∧ (∀ (s : State) (l : Line) (b : BufId) (h : Held), s.Waiting l b codeWatchClear h →
      (∀ n : Fin 4, byteAt h.body 0 = n.val →
        let w := (s.cw.watches.get l).get n
        let answer (after : Watch) : State :=
          (s.replied l b h (.done false false (watchBytes n.val w))).modClaims fun c => c.setWatch l n after
        (w = .unused → exec (.watchClear l b) s = .next (s.replied l b h (.refused .wrongState none)))
        ∧ (w ≠ .unused → byteAt h.body 1 ≠ 0 → exec (.watchClear l b) s = .next (answer .unused))
        ∧ (∀ x, byteAt h.body 1 = 0 → (w = .armed x ∨ ∃ e, w = .raised x e) →
            exec (.watchClear l b) s = .next (answer (.armed x))))
      ∧ (byteAt h.body 0 = 4 → byteAt h.body 1 = 0 → exec (.watchClear l b) s = .next
          ((s.replied l b h (.done false false (brokenBytes (s.cw.broken.get l)))).modClaims fun c =>
            { c with broken := c.broken.set l.val none l.isLt }))
      ∧ ((4 < byteAt h.body 0 ∨ (byteAt h.body 0 = 4 ∧ byteAt h.body 1 ≠ 0)) →
          exec (.watchClear l b) s = .next (s.replied l b h (.refused .outOfRange none))))
  ∧ (∀ (c : ClaimUnit) (d : DriveId),
      let t := c.volumeGone d
      (t.claims = c.claims.filter fun r => r.drive != d)
      ∧ t.broken = c.broken ∧ t.counter = c.counter
      ∧ ∀ l n, let w := (c.watches.get l).get n
          let names := ∃ x h, (w = .armed x ∨ ∃ y, w = .raised x y) ∧ x.drive = some d ∧ x.target = .story h
          (names → (t.watches.get l).get n = .unused) ∧ (¬ names → (t.watches.get l).get n = w))

/-! ### Configuration and maintenance (Chapter 10) -/

/-- The record CONFIGURE takes is legal (R188, Table 10-1): from a legal record and any body that the first pass lets
through, every item is in its range and one of its listed or stepped values. The nearest legal value (R188, second pass,
item 2): of an ascending list, one of least distance, and the lower of two as near. -/
def Obligations.ConfigureTakesALegalRecord : Prop :=
  (∀ (c : ConfigRecord) (body : List Byte),
      let legal (c : ConfigRecord) : Prop :=
        10 ≤ c.silence ∧ c.silence ≤ 600 ∧ c.stepPeriod ∈ [3000, 6000, 10000, 15000]
        ∧ (10000 ≤ c.settle ∧ c.settle ≤ 30000 ∧ c.settle % 1000 = 0)
        ∧ (20000 ≤ c.headLoad ∧ c.headLoad ≤ 60000 ∧ c.headLoad % 5000 = 0)
        ∧ 1 ≤ c.unloadDelay ∧ c.unloadDelay ≤ 15 ∧ 30 ≤ c.innerStart ∧ c.innerStart ≤ 76 ∧ c.precomp ∈ [0, 125, 250]
        ∧ c.strobeMin.code ≤ c.strobeMax.code ∧ 1 ≤ c.bypass ∧ c.bypass ≤ 15 ∧ 1 ≤ c.period ∧ c.period ≤ 16
      (∀ r, legal (defaultConfig r)) ∧ (legal c → configRefused body = false → legal (c.taken body)))
  ∧ (∀ (v : Nat) (xs : List Nat), xs ≠ [] → xs.Pairwise (· < ·) →
      nearest v xs ∈ xs ∧ ∀ y ∈ xs,
        cylinderDistance v (nearest v xs) < cylinderDistance v y
        ∨ (cylinderDistance v (nearest v xs) = cylinderDistance v y ∧ nearest v xs ≤ y))

/-- CONFIGURE (R188, R62, R81, R89), with the drives in use left as they are: refused OUT-OF-RANGE without any change, or
the record takes the present items, the margin records come into a changed strobe range, and with them what an operation
would put back (R68 item 4, DEDUCED, unsafe: log 15), passed counts come down to the
bypass limit, a changed period sets every step to 0, and the reply, made in the same step (DEDUCED, unsafe: log 26), carries
the record after the change; it is kept for the old rate when the rate of its own line changes (R182 item 1). -/
def Obligations.ConfigureAppliesTheRecord : Prop :=
  ∀ (s : State) (l : Line) (b : BufId) (h : Held), s.Waiting l b codeConfigure h →
    (configRefused h.body = true →
      exec (.configure l b) s = .next (s.replied l b h (.refused .outOfRange none)))
    ∧ (configRefused h.body = false → byteAt h.body 0 = 0 →
        let new := s.cfg.taken h.body
        ∃ t, exec (.configure l b) s = .next t
          ∧ t.cfg = new ∧ new.drivesInUse = s.cfg.drivesInUse
          ∧ t.lines = (s.replied l b { h with oldRate := decide (s.cfg.rates.get l ≠ new.rates.get l) }
              (.done ((clampedItems h.body).any id) false (new.encode ++ be2 (setNat (clampedItems h.body))))).lines
          ∧ (∀ d, t.drive d = { s.drive d with
              queue := (s.drive d).queue.map fun r => { r with passed := min new.bypass r.passed },
              patternStep := if new.period = s.cfg.period then (s.drive d).patternStep else 0 })
          ∧ (∀ d z, t.margin d z = if new.strobeMin = s.cfg.strobeMin ∧ new.strobeMax = s.cfg.strobeMax
              then s.margin d z else (s.margin d z).adjust new.strobeMin new.strobeMax)
          ∧ (∀ d, t.op d = if new.strobeMin = s.cfg.strobeMin ∧ new.strobeMax = s.cfg.strobeMax then s.op d
              else (s.op d).map fun o => { o with undo := o.undo.map fun x =>
                (x.1, x.2.adjust new.strobeMin new.strobeMax) })
          ∧ t.channel = { s.channel with outer := t.channel.outer, inner := t.channel.inner, ops := t.channel.ops }
          ∧ t = { s with lines := t.lines, drives := t.drives, channel := t.channel, cfg := t.cfg })

/-- R62: a CONFIGURE that changes the allowed strobe range adjusts every margin record as it is applied: a preferred
strobe out of the range becomes the nearer end, a changed one has every lean count 0, an unchanged one those of the
strobes out of the range. An attempt under way keeps its operation record, but for the margin records it would put back,
which are adjusted in the same way (R68 item 4, DEDUCED, unsafe: log 15), and step 2 takes only strobes of the new range.
(A drive that the same CONFIGURE takes out of use, or brings back with DRIVE-FAULT asserted, while an operation of it is
kept is R68's, log 15.)
-/
def Obligations.MarginsFollowTheStrobeRange : Prop :=
  ∀ (s : State) (l : Line) (b : BufId) (h : Held), s.Waiting l b codeConfigure h → configRefused h.body = false →
    let new := s.cfg.taken h.body
    let lo := new.strobeMin.code
    let hi := new.strobeMax.code
    (new.strobeMin ≠ s.cfg.strobeMin ∨ new.strobeMax ≠ s.cfg.strobeMax) →
    ∃ t, exec (.configure l b) s = .next t ∧ t.cfg = new ∧ lo ≤ hi
      ∧ (∀ o tried x, t.nextStrobe o tried = some x → lo ≤ x.code ∧ x.code ≤ hi)
      ∧ ∀ d z, (s.op d = none ∨ byteAt h.body 0 = 0
            ∨ ((BitVec.ofNat 4 (byteAt h.body 1)).getLsbD d.val = true
                ∧ (s.cfg.drivesInUse.getLsbD d.val = true ∨ (s.drive d).levels.driveFault = false))) →
          let m := s.margin d z
          let m' := t.margin d z
          (m.preferred.code < lo → m'.preferred = new.strobeMin)
          ∧ (hi < m.preferred.code → m'.preferred = new.strobeMax)
          ∧ (lo ≤ m.preferred.code → m.preferred.code ≤ hi → m'.preferred = m.preferred)
          ∧ (m'.preferred ≠ m.preferred → ∀ x, m'.lean x = 0)
          ∧ (m'.preferred = m.preferred → ∀ x, m'.lean x = if lo ≤ x.code ∧ x.code ≤ hi then m.lean x else 0)
          ∧ t.op d = (s.op d).map fun o => { o with undo := o.undo.map fun x =>
              (x.1, x.2.adjust new.strobeMin new.strobeMax) }

/-- CONFIGURE of the drives in use (R20, R188): a drive taken out of use has all the effects of a removal (R35, R36, R68,
R105, R123, R160) and is OFFLINE, whatever READY reads: an empty queue and timing, the positioner UNKNOWN, the channel let go
with its gate closed, F = 0, the volume NONE with its label kept (the prepared stamp too: DEDUCED, unsafe: log 47) and its
dirty-removal flag, the claims gone; every request of a line in its queue, every reader of a fill, the pending EJECT or
PREPARE VOLUME and every write-back waiter but one whose data WRITE was in the queue is answered FAILED REMOVED; the margin
records that its operation had taught are put back (R68 item 4, DEDUCED, unsafe: log 15), all in the range then allowed
(R62). One of the strap set brought back is SPEED-CHECK or EMPTY by READY; the others stay. `still` says of the drives
brought back with DRIVE-FAULT asserted that their queue is empty, as R20 has it of every OFFLINE drive. -/
def Obligations.DrivesInUseFollowTheConfiguration : Prop :=
  ∀ (s : State) (l : Line) (b : BufId) (h : Held) (d : DriveId), s.Waiting l b codeConfigure h →
    configRefused h.body = false → byteAt h.body 0 ≠ 0 → s.part.straps.drivesPresent.get d = true →
    let was := s.cfg.drivesInUse.getLsbD d.val
    let now := (BitVec.ofNat 4 (byteAt h.body 1)).getLsbD d.val
    ∃ t, exec (.configure l b) s = .next t ∧ t.cfg.drivesInUse = BitVec.ofNat 4 (byteAt h.body 1)
      ∧ (was = true → now = false →
          let new := s.cfg.taken h.body
          let ranged (m : Margin) : Margin :=
            if new.strobeMin = s.cfg.strobeMin ∧ new.strobeMax = s.cfg.strobeMax then m
            else m.adjust new.strobeMin new.strobeMax
          let still : Prop := ∀ e : DriveId, s.cfg.drivesInUse.getLsbD e.val = false →
            (s.drive e).levels.driveFault = true → (s.drive e).queue = []
          let asked (m : Line) (c : BufId) : Prop :=
            (m, c) ≠ (l, b) ∧ ∃ y, s.InProgress m c y ∧ y.reply = none
          t.drive d = { s.drive d with
              condition := .offline, index := { pulseSeen := false, lastPeriod := none, run := 0, miss := 0 },
              noIndexTimer := false, reportDue := false, reportHeld := false, queue := [], pos := (t.drive d).pos,
              patternStep := if new.period = s.cfg.period then (s.drive d).patternStep else 0 }
          ∧ (t.drive d).pos.state = .unknown ∧ (t.drive d).pos.headLoaded = false ∧ (t.drive d).pos.cylinder = none
          ∧ t.channel.granted ≠ some d ∧ t.writeGate d = false ∧ t.lowCurrent d = false ∧ t.busyLamp d = false
          ∧ t.channel.asking.get d = false ∧ t.op d = none ∧ t.channel.sweepFlag.get d = false
          ∧ (t.region d).state = .shut ∧ (t.region d).frames = []
          ∧ t.vol d = { freshVolume with label := (s.vol d).label, dirtyRemoval := (t.vol d).dirtyRemoval }
          ∧ ((t.vol d).dirtyRemoval = true ↔ (s.vol d).dirtyRemoval = true ∨ (s.vol d).dirtySet ≠ []
              ∨ ∃ r ∈ (s.drive d).queue, r.kind.isWrite = true)
          ∧ (∀ c, c ∈ t.cw.claims → c.drive ≠ d)
          ∧ ((∀ e : DriveId, e ≠ d → s.cfg.drivesInUse.getLsbD e.val = t.cfg.drivesInUse.getLsbD e.val) →
              t.cw = s.cw.volumeGone d)
          ∧ (still → (∀ r m c, r ∈ (s.drive d).queue → r.origin = .desk m → r.kind.buffer = some c → asked m c →
                t.hasReply m c (.failed .removed))
            ∧ (∀ rd, (s.region d).state ≠ .closing → rd ∈ (s.region d).allReaders → asked rd.line rd.buf →
                t.hasReply rd.line rd.buf (.failed .removed))
            ∧ (∀ r i rd, (s.region d).state = .closing → r ∈ (s.drive d).queue → r.origin ≠ .volume → r.kind = .fill i →
                (∀ x j, x ∈ (s.drive d).queue → x.kind = .fill j → x = r) → rd ∈ ((s.region d).frame i).readers →
                asked rd.line rd.buf → t.hasReply rd.line rd.buf (.failed .removed))
            ∧ (∀ w, w ∈ (s.vol d).waiters → w.kind ≠ .extending none → asked w.line w.buf →
                t.hasReply w.line w.buf (.failed .removed))
            ∧ ∀ m c clamped, ((s.vol d).pendingReq = some (.eject m c) ∨
                (s.vol d).pendingReq = some (.prepare m c clamped)) → asked m c → t.hasReply m c (.failed .removed))
          ∧ (s.op d = none → ∀ z, t.margin d z = ranged (s.margin d z))
          ∧ (∀ o, s.op d = some o → ∀ z, ((∀ m, (z, m) ∉ o.undo) → t.margin d z = ranged (s.margin d z))
              ∧ ∀ m, (z, m) ∈ o.undo → (∀ m', (z, m') ∈ o.undo → m' = m) →
                  t.margin d z = m.adjust new.strobeMin new.strobeMax)
          ∧ t.clock = s.clock ∧ t.part = s.part ∧ t.mem = s.mem ∧ t.arrival = s.arrival ∧ t.pending = s.pending)
      ∧ (was = false → now = true → (s.drive d).condition = .offline → (s.drive d).levels.driveFault = false →
          (t.drive d).condition = if (s.drive d).levels.ready then .speedCheck else .empty)
      ∧ (was = now → t.vol d = s.vol d ∧ t.region d = s.region d
          ∧ t.drive d = { s.drive d with
              queue := (s.drive d).queue.map fun r => { r with passed := min (s.cfg.taken h.body).bypass r.passed },
              patternStep :=
                if (s.cfg.taken h.body).period = s.cfg.period then (s.drive d).patternStep else 0 })

/-- CLEAR DRIVE (R40): a FAULTED drive becomes SPEED-CHECK when READY is asserted, with its timing cleared and its no-index
timer started, and EMPTY otherwise; it is FAULTED again at once while DRIVE-FAULT stays asserted (R25). The fault cause is
kept. Refused NOT-READY for OFFLINE, WRONG-STATE in the other conditions, OUT-OF-RANGE above drive 3. A FAULTED drive's
queue holds, QUEUED, what R39 keeps and nothing of a desk (`faultedQueues`, an invariant stated with the bounds), so that
second fault answers nobody. -/
def Obligations.ClearDriveLeavesFaulted : Prop :=
  ∀ (s : State) (l : Line) (b : BufId) (h : Held), s.Waiting l b codeClearDrive h →
    (driveOf (byteAt h.body 0) = none →
      exec (.clearDrive l b) s = .next (s.replied l b h (.refused .outOfRange none)))
    ∧ ∀ d, driveOf (byteAt h.body 0) = some d →
      ((s.drive d).condition = .offline →
        exec (.clearDrive l b) s = .next (s.replied l b h (.refused .notReady none)))
      ∧ ((s.drive d).condition = .empty ∨ (s.drive d).condition = .speedCheck ∨ (s.drive d).condition = .ready →
          exec (.clearDrive l b) s = .next (s.replied l b h (.refused .wrongState none)))
      ∧ ((s.drive d).condition = .faulted → (s.drive d).levels.ready = false →
          exec (.clearDrive l b) s = .next ((s.replied l b h (.done false false [])).modDrive d fun u =>
            { u with condition := .empty }))
      ∧ ((s.drive d).condition = .faulted → (s.drive d).levels.ready = true → (s.drive d).levels.driveFault = false →
          exec (.clearDrive l b) s = .next ((s.replied l b h (.done false false [])).modDrive d fun u =>
            { u with condition := .speedCheck, noIndexTimer := true,
                     index := { pulseSeen := false, lastPeriod := none, run := 0, miss := 0 } }))
      ∧ ((s.drive d).condition = .faulted → (s.drive d).levels.ready = true → (s.drive d).levels.driveFault = true →
          s.faultedQueues → ∃ t, exec (.clearDrive l b) s = .next t ∧ (t.drive d).condition = .faulted
            ∧ (t.drive d).cause = .driveFault ∧ t.hasReply l b (.done false false [])
            ∧ t.lines = (s.replied l b h (.done false false [])).lines ∧ (t.drive d).queue = (s.drive d).queue
            ∧ (t.drive d).noIndexTimer = false ∧ (t.drive d).pos.state = .unknown
            ∧ t.vols = s.vols ∧ t.regions = s.regions ∧ t.cw = s.cw ∧ s.OthersKept t d)

/-- SWEEP and RAW READ (R194, R63, R84): their checks in order, and the request each places, of head 1 on a one-sided volume
too (DEDUCED, unsafe: log 62): the sweep's with the drive's flag set, the raw read's with the slot (k - 1) mod the service
spt. SWEEP and RAW READ refused (R194 items 1 to 3): OUT-OF-RANGE, then NOT-READY by the drive's condition, NO-VOLUME with
the drive EMPTY, NOT-READY with the volume MOUNTING or PREPARING. The revolutions of a SWEEP in service (R63): each index
pulse ends one, its count being the distinct sectors whose data field was read good (one of another length is bad: DESIGN
CHOICE, unsafe: log 25), and begins the next with the next strobe; `counts` are those of the revolutions made. After the
last, the strobe of the highest count, the first tried of equals, clamped into the range, is preferred with every lean count
0, the flag is cleared and the console answered DONE with the counts. A seek fault ends it FAILED SEEK-FAULT, the margin
records unchanged, and the drive recalibrates. -/
def Obligations.SweepAndRawReadArePlacedOrRefused : Prop :=
  (∀ (s : State) (l : Line) (b : BufId) (h : Held) (d : DriveId) (p : ReadProfile),
      driveOf (byteAt h.body 0) = some d → byteAt h.body 1 ≤ 76 → byteAt h.body 2 ≤ 1 →
      (s.drive d).condition = .ready → (s.vol d).state ≠ .mounting → (s.vol d).state ≠ .preparing →
      let track : Place := { cylinder := byteAt h.body 1, head := byteAt h.body 2, sectorId := byteAt h.body 3 }
      let full := (s.replied l b h (.busy .queueFull)).modDrive d fun u =>
        { u with refused := min 65535 (u.refused + 1) }
      let queued (r : Request) := ({ s.takenBy l b h with arrival := (s.arrival + 1) % 65536 }.modDrive d fun u =>
        { u with queue := u.queue ++ [r] })
      (s.Waiting l b codeSweep h → sweepFields h.body = some p →
        (s.channel.sweepFlag.get d = true →
          exec (.sweep l b) s = .next (s.replied l b h (.busy .sweepPending)))
        ∧ (s.channel.sweepFlag.get d = false → 12 ≤ (s.drive d).deskPlaces → exec (.sweep l b) s = .next full)
        ∧ (s.channel.sweepFlag.get d = false → (s.drive d).deskPlaces < 12 →
            ∃ r, exec (.sweep l b) s = .next ((queued r).setSweepFlag d true) ∧ r.Placed l (.sweep b) track s.arrival
              ∧ r.sectorId = none ∧ r.slot = none ∧ r.profile = p))
      ∧ (s.Waiting l b codeRawRead h → rawFields h.body = some p →
        (12 ≤ (s.drive d).deskPlaces → exec (.rawRead l b) s = .next full)
        ∧ ((s.drive d).deskPlaces < 12 →
            ∃ r, exec (.rawRead l b) s = .next (queued r) ∧ r.Placed l (.rawRead b) track s.arrival
              ∧ r.sectorId = some (byteAt h.body 3) ∧ r.profile = p
              ∧ r.slot = some ((byteAt h.body 3 - 1) % (s.vol d).serviceSpt))))
  ∧ (∀ (s : State) (l : Line) (b : BufId) (h : Held) (i : Instr) (code : Byte) (p : Option ReadProfile),
      (i, code, p) ∈ [(Instr.sweep l b, codeSweep, sweepFields h.body), (.rawRead l b, codeRawRead, rawFields h.body)] →
      s.Waiting l b code h →
      ((driveOf (byteAt h.body 0) = none ∨ 76 < byteAt h.body 1 ∨ 1 < byteAt h.body 2 ∨ p = none) →
        exec i s = .next (s.replied l b h (.refused .outOfRange none)))
      ∧ ∀ d x, driveOf (byteAt h.body 0) = some d → byteAt h.body 1 ≤ 76 → byteAt h.body 2 ≤ 1 → p = some x →
        let c := (s.drive d).condition
        ((c = .offline ∨ c = .speedCheck ∨ c = .faulted) →
          exec i s = .next (s.replied l b h (.refused .notReady none)))
        ∧ (c = .empty → exec i s = .next (s.replied l b h (.refused .noVolume none)))
        ∧ (c = .ready → ((s.vol d).state = .mounting ∨ (s.vol d).state = .preparing) →
            exec i s = .next (s.replied l b h (.refused .notReady none))))
  ∧ (∀ (s : State) (d : DriveId) (r : Request) (o : OpRecord) (l : Line) (b : BufId) (h : Held), s.Serving d r o →
      r.origin = .desk l → r.kind = .sweep b → s.InProgress l b h →
      let counts : List (Strobe × Nat) := match o.sweepRun with
        | none => []
        | some x => o.sweepCount ++ [(x, o.sweepGood.length)]
      let count (x : Strobe) : Option Nat := (counts.find? fun c => c.1 == x).map Prod.snd
      (∀ us, s.part.extReset = false → (s.drive d).condition = .ready →
        (∀ x later, o.sweepLeft = x :: later → ∃ t, exec (.indexPulse d us) s = .next t ∧ t.channel.state = .read
            ∧ t.op d = some { o with sweepRun := some x, sweepLeft := later, strobe := x, sweepGood := [],
                                     sweepCount := counts, wrong := 0, awaiting := none }
            ∧ s.OthersKept t d ∧ t = { s with drives := t.drives, channel := t.channel })
        ∧ (∀ x n before after, o.sweepLeft = [] → counts = before ++ (x, n) :: after → (∀ y ∈ before, y.2 < n) →
            (∀ y ∈ after, y.2 ≤ n) →
            let p := clampStrobe s.cfg.strobeMin s.cfg.strobeMax x
            ∃ t, exec (.indexPulse d us) s = .next t ∧ s.EndedTo t d ∧ t.channel.sweepFlag.get d = false
              ∧ t.margin d o.zone = { preferred := p, leanEarly := 0, leanNormal := 0, leanLate := 0 }
              ∧ (∀ e z, (e ≠ d ∨ z ≠ o.zone) → t.margin e z = s.margin e z)
              ∧ t.hasReply l b (.done false false (h.body.take 3 ++ [toByte o.zone.code] ++ optByte (count .early)
                  ++ optByte (count .normal) ++ optByte (count .late) ++ [toByte p.code]))))
      ∧ (∀ f c k x, s.Seeking d r o c → o.sweepRun = some x → r.NamedBy f c k → k ∉ o.sweepGood →
          exec (.idFieldAccepted f) s = .next (s.setOp d (some { o with wrong := 0, awaiting := some k })))
      ∧ (∀ f k x, s.Awaiting d r o k → o.sweepRun = some x →
          (r.GoodData f → exec (.dataFieldRead f) s =
            .next (s.setOp d (some { o with awaiting := none, sweepGood := o.sweepGood ++ [k] })))
          ∧ (r.BadData f → exec (.dataFieldRead f) s = .next (s.setOp d (some { o with awaiting := none }))))
      ∧ (∀ f c x, s.Seeking d r o c → o.sweepRun = some x → o.wrong = 1 → IdAccepted f → r.FitsId f →
          f.cylinder.toNat ≠ c → (s.drive d).levels.trackZero = false →
          ∃ t, exec (.idFieldAccepted f) s = .next t ∧ s.EndedTo t d ∧ t.hasReply l b (.failed .seekFault)
            ∧ (∀ e z, t.margin e z = s.margin e z) ∧ t.channel.sweepFlag.get d = false
            ∧ t.channel.seekFaults = min 65535 (s.channel.seekFaults + 1)
            ∧ (t.drive d).pos.state = .recalibrating))

/-- RESTART and DRAIN_TIMER_EXPIRY (R190): the part becomes DRAINING-RESTART, its reply is handed over at once and is
waited for, and the drain timer starts (for a second RESTART during the drain too: DEDUCED, unsafe: log 33); when it expires
the drain is over whatever remains, and an open gate stays open to finish its field (R191), but for that of a format caught
between its fields, which closes at once, the format ended unreported (DEDUCED, unsafe: log 64). DRAIN_END (R191, R190): with
no gate open, and the timer expired or R190 items 1 to 4 holding together (`State.Drained`),
every request still in progress is answered FAILED REMOVED, one its owner has not begun on too (DEDUCED, unsafe: log 34);
the blocks take their reset state with the configuration, the clock, the counts and the fault causes kept; a line
whose reply order is empty resets, the others discard characters until theirs is (R185; a frame being received or held
there: DEDUCED, unsafe: log 38; a frame complete but not judged when the line resets: DESIGN CHOICE, unsafe: log 30). -/
def Obligations.RestartDrainsAndRestartsTheBlocks : Prop :=
  (∀ (s : State) (l : Line) (b : BufId) (h : Held),
      (s.Waiting l b codeRestart h → s.part.drainOver = false →
        exec (.restart l b) s = .next ((s.replied l b h (.done false false [])).modPart fun p =>
          { p with state := .draining, drainTimer := true, restarts := p.restarts ++ [(l, b)] }))
      ∧ (∀ us, s.part.state = .draining → s.part.drainTimer = true →
          let ended := s.modPart fun p => { p with drainTimer := false, drainOver := true }
          ((∀ d r o g, s.Serving d r o → s.channel.state = .format → s.channel.gate = some g → r.InField g us) →
            exec (.drainTimerExpiry us) s = .next ended)
          ∧ (∀ d r o g, s.Serving d r o → s.channel.state = .format → s.channel.gate = some g → ¬ r.InField g us →
              ∃ t, exec (.drainTimerExpiry us) s = .next t ∧ ended.FormatCut t d ∧ t.op d = none
                ∧ (t.drive d).queue = (s.drive d).queue)))
  ∧ (∀ (s : State) (straps : Straps), s.part.state ≠ .draining ∨ s.channel.gate ≠ none
        ∨ (s.part.drainOver = false ∧ ¬ s.Drained) → exec (.drainEnd straps) s = .next s)
  ∧ (∀ (s : State) (straps : Straps), s.part.state = .draining → (s.part.drainOver = true ∨ s.Drained) →
      s.channel.gate = none → (∀ l bs, (s.line l).rx ≠ .held bs true) → s.linesOrderly → s.cfg.period ≠ 0 →
      ∃ t, exec (.drainEnd straps) s = .next t
        ∧ t.part = { state := .startUp, extReset := false, selfTest := true, drainTimer := false, drainOver := false,
                     restarts := [], straps := straps }
        ∧ t.BlocksAtReset (s.inputsNow straps)
        ∧ t.cfg = s.cfg ∧ t.clock = s.clock ∧ t.pending = s.pending
        ∧ (∀ d, (t.drive d).selections = (s.drive d).selections ∧ (t.drive d).bypasses = (s.drive d).bypasses
            ∧ (t.drive d).opens = (s.drive d).opens ∧ (t.drive d).refused = (s.drive d).refused
            ∧ ((t.drive d).condition ≠ .faulted → (t.drive d).cause = (s.drive d).cause)
            ∧ (t.region d).hits = (s.region d).hits ∧ (t.region d).fills = (s.region d).fills
            ∧ (t.region d).directs = (s.region d).directs ∧ (t.region d).evicts = (s.region d).evicts)
        ∧ t.channel.recovered = s.channel.recovered ∧ t.channel.failed = s.channel.failed
        ∧ t.channel.rewrites = s.channel.rewrites ∧ t.channel.checksFailed = s.channel.checksFailed
        ∧ t.channel.seekFaults = s.channel.seekFaults ∧ t.channel.inhibits = s.channel.inhibits
        ∧ (∀ l b h, s.buffer l b = some h → h.orphan = false →
            (h.stage = .inProgress → t.hasReply l b (.failed .removed))
            ∧ (h.stage ≠ .inProgress → ∀ r, h.reply = some r → t.hasReply l b r))
        ∧ (∀ l, (t.line l).present = (s.line l).present ∧ (t.line l).framesTaken = (s.line l).framesTaken
            ∧ (t.line l).checkErrors = (s.line l).checkErrors ∧ (t.line l).abandoned = (s.line l).abandoned)
        ∧ (∀ l, (t.line l).order ≠ [] → (t.line l).resetDue = true)
        ∧ (∀ l, (t.line l).order = [] → (t.line l).AtReset (s.line l).present s.cfg.silence (s.cfg.rates.get l)
            ∧ (t.line l).resetDue = false))

/-! ### Drives and head positioning (Chapter 2) -/

/-- The levels of the drive cable (R19, R21, R25): READY rising in EMPTY makes the drive SPEED-CHECK with its timing
cleared and the no-index timer started (FAULTED when DRIVE-FAULT is asserted already); every other change of a level is
taken and changes nothing else, but for READY dropping in SPEED-CHECK, READY or FAULTED, and DRIVE-FAULT rising in
SPEED-CHECK or READY, which other statements give. That DRIVE-FAULT going to deasserted, as a SENSE_LEVEL_CHANGE, is taken
and changes nothing else is the model's reading (DEDUCED, unsafe: log 46). -/
def Obligations.DriveLevelsAreTaken : Prop :=
  ∀ (s : State) (d : DriveId), s.part.extReset = false →
    let c := (s.drive d).condition
    (c = .empty → (s.drive d).levels.ready = false → (s.drive d).levels.driveFault = false →
      exec (.readyRises d) s = .next (s.modDrive d fun u =>
        { u with levels := { u.levels with ready := true }, condition := .speedCheck, noIndexTimer := true,
                 index := { pulseSeen := false, lastPeriod := none, run := 0, miss := 0 } }))
    ∧ (c = .empty → (s.drive d).levels.ready = false → (s.drive d).levels.driveFault = true →
        ∃ t, exec (.readyRises d) s = .next t ∧ (t.drive d).condition = .faulted ∧ (t.drive d).cause = .driveFault
          ∧ (t.drive d).levels = { (s.drive d).levels with ready := true })
    ∧ (c ≠ .empty → exec (.readyRises d) s = .next (s.modDrive d fun u =>
        { u with levels := { u.levels with ready := true } }))
    ∧ (c = .empty ∨ c = .offline → exec (.readyDrops d) s = .next (s.modDrive d fun u =>
        { u with levels := { u.levels with ready := false } }))
    ∧ (c = .empty ∨ c = .offline ∨ c = .faulted → exec (.driveFaultAsserted d) s = .next (s.modDrive d fun u =>
        { u with levels := { u.levels with driveFault := true } }))
    ∧ (∀ level, exec (.senseLevelChange d .trackZero level) s = .next (s.modDrive d fun u =>
          { u with levels := { u.levels with trackZero := level } })
        ∧ exec (.senseLevelChange d .writeProtect level) s = .next (s.modDrive d fun u =>
            { u with levels := { u.levels with writeProtect := level } })
        ∧ exec (.senseLevelChange d .twoSided level) s = .next (s.modDrive d fun u =>
            { u with levels := { u.levels with twoSided := level } }))
    ∧ exec (.senseLevelChange d .driveFault false) s = .next (s.modDrive d fun u =>
        { u with levels := { u.levels with driveFault := false } })

/-- Removal: READY_DROPS in SPEED-CHECK, READY or FAULTED (R35, R36, R68, R105, R123, R160). The drive is EMPTY with its
timing cleared, its positioner UNKNOWN and its queue empty; the channel has let it go, with its gate closed; the region is
SHUT, the volume NONE with its label kept (name and serial by R123, the prepared stamp with them: DEDUCED, unsafe: log 47),
the claims gone without claim-broken flag; every request of a line in the queue and every reader of a fill is answered FAILED
REMOVED (in a CLOSING region those of its one FILL), and so are the pending EJECT or PREPARE VOLUME and every write-back
waiter but one whose data WRITE is still in the queue (R36, R123). The margin records that the operation had taught are put
back, adjusted (R68 item 4, DEDUCED, unsafe: log 15). The fault cause and the counts are kept, and the other drives, regions
and volumes, the configuration, the clock, the part and the buffer memory. -/
def Obligations.RemovalClearsTheDrive : Prop :=
  ∀ (s : State) (d : DriveId), s.part.extReset = false →
    ((s.drive d).condition = .speedCheck ∨ (s.drive d).condition = .ready ∨ (s.drive d).condition = .faulted) →
    ∃ t, exec (.readyDrops d) s = .next t
      ∧ (t.drive d).condition = .empty ∧ (t.drive d).queue = [] ∧ (t.drive d).pos.state = .unknown
      ∧ (t.drive d).pos.headLoaded = false ∧ (t.drive d).pos.cylinder = none
      ∧ (t.drive d).index = { pulseSeen := false, lastPeriod := none, run := 0, miss := 0 }
      ∧ (t.drive d).noIndexTimer = false ∧ (t.drive d).reportDue = false ∧ (t.drive d).reportHeld = false
      ∧ t.drive d = { s.drive d with
          levels := { (s.drive d).levels with ready := false }, condition := .empty, index := (t.drive d).index,
          noIndexTimer := false, pos := (t.drive d).pos, reportDue := false, reportHeld := false, queue := [] }
      ∧ t.channel.granted ≠ some d ∧ t.writeGate d = false ∧ t.lowCurrent d = false ∧ t.busyLamp d = false
      ∧ t.channel.asking.get d = false ∧ t.op d = none ∧ t.channel.sweepFlag.get d = false
      ∧ (t.region d).state = .shut ∧ (t.region d).frames = []
      ∧ t.vol d = { freshVolume with label := (s.vol d).label, dirtyRemoval := (t.vol d).dirtyRemoval }
      ∧ ((t.vol d).dirtyRemoval = true ↔ (s.vol d).dirtyRemoval = true ∨ (s.vol d).dirtySet ≠ []
          ∨ ∃ r ∈ (s.drive d).queue, r.kind.isWrite = true)
      ∧ t.cw = s.cw.volumeGone d
      ∧ (∀ r l b h, r ∈ (s.drive d).queue → r.origin = .desk l → r.kind.buffer = some b → s.buffer l b = some h →
          h.stage = .inProgress → h.orphan = false → h.reply = none → t.hasReply l b (.failed .removed))
      ∧ (∀ rd h, (s.region d).state ≠ .closing → rd ∈ (s.region d).allReaders → s.buffer rd.line rd.buf = some h →
          h.stage = .inProgress → h.orphan = false → h.reply = none → t.hasReply rd.line rd.buf (.failed .removed))
      ∧ (∀ r i rd h, (s.region d).state = .closing → r ∈ (s.drive d).queue → r.origin ≠ .volume → r.kind = .fill i →
          (∀ x j, x ∈ (s.drive d).queue → x.kind = .fill j → x = r) → rd ∈ ((s.region d).frame i).readers →
          s.buffer rd.line rd.buf = some h → h.stage = .inProgress → h.orphan = false → h.reply = none →
          t.hasReply rd.line rd.buf (.failed .removed))
      ∧ (∀ w h, w ∈ (s.vol d).waiters → w.kind ≠ .extending none → s.InProgress w.line w.buf h → h.reply = none →
          t.hasReply w.line w.buf (.failed .removed))
      ∧ (∀ l b h clamped, ((s.vol d).pendingReq = some (.eject l b) ∨ (s.vol d).pendingReq = some (.prepare l b clamped)) →
          s.InProgress l b h → h.reply = none → t.hasReply l b (.failed .removed))
      ∧ s.MarginsBack t d
      ∧ s.OthersKept t d ∧ t.cfg = s.cfg ∧ t.clock = s.clock ∧ t.part = s.part ∧ t.mem = s.mem
      ∧ t.arrival = s.arrival ∧ t.pending = s.pending

/-- A drive fault (R24, R23, R25, R28, R38, R39): the drive is FAULTED with the cause recorded, its timing cleared, its
positioner UNKNOWN and the channel free of it; every request of a line in the queue is answered FAILED DRIVE-FAULT and gone,
a FILL to each of its readers (in a CLOSING region its one FILL). Of the volume requests one that was QUEUED keeps its place;
a LABEL-READ or index-load FILL that was selected is QUEUED again, not passed over, its private area without the sectors of
its track; an INDEX-WRITE that was selected is gone, its sector DIRTY and its waiters waiting uncovered. The volume keeps its
state, index, free set and claims, and the margin records that the operation had taught are put back, adjusted (R68 item 4,
DEDUCED, unsafe: log 15). A SENSE_LEVEL_CHANGE of DRIVE-FAULT to asserted acts as DRIVE_FAULT_ASSERTED (DEDUCED, unsafe: log
46). A volume that is PREPARING with a step in the queue (R39, R126): the PREPARE VOLUME is answered FAILED DRIVE-FAULT, the
steps are gone and the volume is FOREIGN, INCOMPLETE. -/
def Obligations.FaultEndsServiceAndKeepsTheVolume : Prop :=
  ∀ (s : State) (d : DriveId) (i : Instr) (cause : FaultCause), s.part.extReset = false →
    ((i = .speedFault d ∧ cause = .speed ∧ (s.drive d).condition = .ready ∧ (s.drive d).index.miss = 2)
      ∨ (i = .noIndexTimeout d ∧ cause = .noIndex ∧ (s.drive d).condition = .speedCheck
          ∧ (s.drive d).noIndexTimer = true)
      ∨ ((i = .driveFaultAsserted d ∨ i = .senseLevelChange d .driveFault true) ∧ cause = .driveFault
          ∧ ((s.drive d).condition = .speedCheck ∨ (s.drive d).condition = .ready))
      ∨ (i = .recalStepEnd d ∧ cause = .trackZero ∧ (s.drive d).pos.state = .recalibrating
          ∧ (s.drive d).pos.stepTimer ≠ none ∧ (s.drive d).pos.remaining = 0 ∧ (s.drive d).levels.trackZero = false)) →
    ∃ t, exec i s = .next t
      ∧ (t.drive d).condition = .faulted ∧ (t.drive d).cause = cause ∧ (t.drive d).noIndexTimer = false
      ∧ (t.drive d).index = { pulseSeen := false, lastPeriod := none, run := 0, miss := 0 }
      ∧ (t.drive d).pos.state = .unknown ∧ (t.drive d).pos.headLoaded = false
      ∧ t.channel.granted ≠ some d ∧ t.writeGate d = false ∧ t.channel.asking.get d = false ∧ t.op d = none
      ∧ t.channel.sweepFlag.get d = false
      ∧ (∀ x ∈ (t.drive d).queue, x.origin = .volume ∧ x.state = .queued
          ∧ (x.kind = .labelRead ∨ x.kind = .indexLoad ∨ ∃ j, x.kind = .indexWrite j))
      ∧ (∀ r ∈ (s.drive d).queue, r.origin = .volume → r.state = .queued →
          (r.kind = .labelRead ∨ r.kind = .indexLoad ∨ ∃ j, r.kind = .indexWrite j) → r ∈ (t.drive d).queue)
      ∧ (∀ r ∈ (s.drive d).queue, r.origin = .volume → r.state ≠ .queued → (r.kind = .labelRead ∨ r.kind = .indexLoad) →
          { r with state := .queued, passed := 0 } ∈ (t.drive d).queue
          ∧ (r.kind = .labelRead → (t.vol d).labelArea = [])
          ∧ (r.kind = .indexLoad → ∀ e ∈ (t.vol d).staging, e.1 / r.profile.spt ≠ r.head))
      ∧ (∀ r l b h, r ∈ (s.drive d).queue → r.origin = .desk l → r.kind.buffer = some b → s.InProgress l b h →
          h.reply = none → t.hasReply l b (.failed .driveFault))
      ∧ (∀ r k rd h, r ∈ (s.drive d).queue → r.origin ≠ .volume → r.kind = .fill k → rd ∈ ((s.region d).frame k).readers →
          ((s.region d).state ≠ .closing ∨ ∀ x m, x ∈ (s.drive d).queue → x.kind = .fill m → x = r) →
          s.InProgress rd.line rd.buf h → h.reply = none → t.hasReply rd.line rd.buf (.failed .driveFault))
      ∧ s.MarginsBack t d
      ∧ t.cw = s.cw ∧ (t.drive d).patternStep = (s.drive d).patternStep
      ∧ s.OthersKept t d ∧ t.cfg = s.cfg ∧ t.clock = s.clock ∧ t.part = s.part ∧ t.mem = s.mem ∧ t.arrival = s.arrival
      ∧ ((∀ r ∈ (s.drive d).queue, r.origin = .volume → r.kind.isWrite = true → ∃ j, r.kind = .indexWrite j) →
          (t.vol d).state = (s.vol d).state ∧ (t.vol d).entries = (s.vol d).entries ∧ (t.vol d).free = (s.vol d).free
          ∧ (t.vol d).profile = (s.vol d).profile ∧ (t.vol d).pendingReq = (s.vol d).pendingReq
          ∧ ∀ r j, r ∈ (s.drive d).queue → r.origin = .volume → r.kind = .indexWrite j → r.state ≠ .queued →
            (∀ x ∈ (t.drive d).queue, x.kind = .indexWrite j → x ∈ (s.drive d).queue)
            ∧ (j < (s.vol d).sectors.length → (t.vol d).sector j = .dirty)
            ∧ (∀ w ∈ (t.vol d).waiters, w.sector = j → w.covered = false)
            ∧ (∀ w ∈ (s.vol d).waiters, w.sector = j →
                (∀ x y, x ∈ (s.drive d).queue → x.origin = .desk w.line → x.kind ≠ .write w.buf y) →
                { w with covered := false } ∈ (t.vol d).waiters))
      ∧ (∀ r l b h clamped, r ∈ (s.drive d).queue → r.origin = .volume →
          (r.kind = .formatTrack ∨ ∃ st, r.kind = .prepWrite st) → (s.vol d).pendingReq = some (.prepare l b clamped) →
          s.InProgress l b h → h.reply = none → t.hasReply l b (.failed .driveFault)
            ∧ (t.vol d).state = .foreign ∧ (t.vol d).foreign = some .incomplete ∧ (t.vol d).profile = none
            ∧ (t.vol d).pendingReq = none)

/-- INDEX_PULSE and INDEX_PERIOD_TIMEOUT (R22, R26, R31, R81), on a drive the channel is not granted to: the timing record
takes the period; in READY the pattern step goes on, back to 0 at the period, and an idle loaded head counts toward its
unload delay (a count above a delay lowered meanwhile comes down to it: DESIGN CHOICE, unsafe: log 63). A pulse is not timed
in the other conditions. Granted, an operation without an open gate counts the pulse (R47). -/
def Obligations.IndexPulsesTimeAndCount : Prop :=
  ∀ (s : State) (d : DriveId) (us : Nat), s.part.extReset = false →
    let c := (s.drive d).condition
    let t0 := (s.drive d).index
    let outside (us : Nat) : IndexTiming :=
      { pulseSeen := true, lastPeriod := some us, run := 0, miss := min 2 (t0.miss + 1) }
    let timed : IndexTiming :=
      if t0.pulseSeen = false then { t0 with pulseSeen := true }
      else if 156000 ≤ us ∧ us ≤ 177000 then
        { pulseSeen := true, lastPeriod := some us, run := min 2 (t0.run + 1), miss := 0 }
      else outside us
    let counted (u : DriveSeq) : DriveSeq :=
      { u with
        index := timed,
        patternStep := if u.patternStep + 1 < s.cfg.period then u.patternStep + 1 else 0,
        pos := if u.pos.state = .onTrack ∧ u.selected = none then
            { u.pos with unload := min s.cfg.unloadDelay (u.pos.unload + 1) } else u.pos }
    (c = .speedCheck → exec (.indexPulse d us) s = .next (s.modDrive d fun u => { u with index := timed }))
    ∧ (c = .ready → s.channel.granted ≠ some d → exec (.indexPulse d us) s = .next (s.modDrive d counted))
    ∧ (c ≠ .speedCheck → c ≠ .ready → exec (.indexPulse d us) s = .next s)
    ∧ (∀ r o, c = .ready → s.channel.granted = some d → (s.drive d).selected = some r → s.op d = some o →
        s.channel.gate = none → r.kind.isFormat = false → r.kind.isSweep = false →
        exec (.indexPulse d us) s =
          .next ((s.modDrive d counted).setOp d (some { o with pulses := min 2 (o.pulses + 1) })))
    ∧ (c = .ready → t0.pulseSeen = true → exec (.indexPeriodTimeout d) s =
        .next (s.modDrive d fun u => { u with index := outside 177000 }))

/-- SPEED_REACHED (R23, R27): with two good periods the drive is READY and its positioner recalibrates: outward, with its
first step made and 79 left, or at rest on cylinder 0 at once, with the 80 of step 1 still the remaining count, when
TRACK-ZERO is asserted (in START-UP its report is then held, R189). A recalibration (R27, R28): steps outward one by one
until TRACK-ZERO, a fault with cause TRACK-ZERO when none is left, then the settle time and rest on cylinder 0 with the head
off and the remaining count 0. The rest that follows an entry to READY begins the mount of a drive without a volume (R113):
the LABEL-READ in a volume place, the margin records reset (R60). -/
def Obligations.SpeedReachedRecalibratesToZero : Prop :=
  (∀ (s : State) (d : DriveId), s.part.extReset = false → (s.drive d).condition = .speedCheck →
      (s.drive d).index.run = 2 → (s.drive d).levels.driveFault = false →
      ((s.drive d).levels.trackZero = false →
        exec (.speedReached d) s = .next (s.modDrive d fun u =>
          { u with condition := .ready, noIndexTimer := false, reportDue := true, reportHeld := false,
                   pos := { state := .recalibrating, cylinder := none, headLoaded := false, target := none,
                            remaining := 79, unload := 0, inward := false, stepTimer := some s.cfg.stepPeriod,
                            settleTimer := none, loadTimer := none } }))
      ∧ ((s.drive d).levels.trackZero = true → s.part.state = .startUp → (s.drive d).queue = [] →
          exec (.speedReached d) s = .next (s.modDrive d fun u =>
            { u with condition := .ready, noIndexTimer := false, reportDue := false, reportHeld := true,
                     pos := { state := .resting, cylinder := some 0, headLoaded := false, target := none,
                              remaining := 80, unload := 0, inward := false, stepTimer := none,
                              settleTimer := none, loadTimer := none } })))
  ∧ (∀ (s : State) (d : DriveId) (tm : Nat), (s.drive d).pos.state = .recalibrating →
      ((s.drive d).pos.stepTimer = some tm →
        ((s.drive d).levels.trackZero = true → exec (.recalStepEnd d) s = .next (s.modPos d fun p =>
            { p with stepTimer := none, settleTimer := some s.cfg.settle }))
        ∧ ((s.drive d).levels.trackZero = false → (s.drive d).pos.remaining ≠ 0 →
            exec (.recalStepEnd d) s = .next (s.modPos d fun p =>
              { p with remaining := p.remaining - 1, stepTimer := some s.cfg.stepPeriod }))
        ∧ ((s.drive d).levels.trackZero = false → (s.drive d).pos.remaining = 0 →
            ∃ t, exec (.recalStepEnd d) s = .next t ∧ (t.drive d).condition = .faulted
              ∧ (t.drive d).cause = .trackZero ∧ (t.drive d).pos.state = .unknown))
      ∧ ((s.drive d).pos.settleTimer = some tm → ∃ t, exec (.recalSettleEnd d) s = .next t
        ∧ ((s.drive d).selected = none → (t.drive d).pos = { freshPositioner with
            state := .resting, cylinder := some 0, inward := (s.drive d).pos.inward })
        ∧ ((s.drive d).selected = none → (s.drive d).reportDue = false →
            t = s.modDrive d fun u => { u with pos := (t.drive d).pos })
        ∧ ((s.drive d).reportDue = true → s.part.state ≠ .startUp → (s.vol d).state = .noVolume → (s.drive d).queue = [] →
            (t.drive d).reportDue = false ∧ t.vol d = { freshVolume with state := .mounting }
            ∧ (∃ r, (t.drive d).queue = [r] ∧ r.kind = .labelRead ∧ r.origin = .volume ∧ r.state = .queued
                ∧ r.cylinder = 0 ∧ r.head = 0 ∧ r.profile = labelProfile ∧ r.wanted = [1] ∧ r.arrival = s.arrival)
            ∧ (∀ z, t.margin d z = freshMargin s.cfg) ∧ s.OthersKept t d
            ∧ t = { s with drives := t.drives, vols := t.vols, channel := t.channel, arrival := t.arrival })))

/-- A move (R29 to R32): each step goes one cylinder toward the target and counts down; after the last the carriage settles;
ON-TRACK is reached when both the settle time and any head-load time have ended, and a waiting request then asks for the
channel (R43). An idle head is unloaded after its delay (R31; at once when the delay was lowered to the standing count or
below it: DESIGN CHOICE, unsafe: log 63). The end of a recalibration with a request in RECAL-WAIT begins its move from
cylinder 0 (R27, R29, R50), the head being loaded and the first step made at once. -/
def Obligations.MovesEndOnTrack : Prop :=
  ∀ (s : State) (d : DriveId) (tm c : Nat) (r : Request),
    let p0 := (s.drive d).pos
    let onTrack (f : Positioner → Positioner) : State :=
      (s.modPos d fun p => { f p with state := .onTrack, target := none }).setAsking d true
    (p0.state = .moving → p0.stepTimer = some tm → p0.cylinder = some c → p0.remaining ≠ 0 →
      exec (.moveStepEnd d) s = .next (s.modPos d fun p =>
        { p with cylinder := some (if p.inward then c + 1 else c - 1), remaining := p.remaining - 1,
                 stepTimer := some s.cfg.stepPeriod }))
    ∧ (p0.state = .moving → p0.stepTimer = some tm → p0.remaining = 0 →
        exec (.moveStepEnd d) s = .next (s.modPos d fun p =>
          { p with state := .settling, stepTimer := none, settleTimer := some s.cfg.settle }))
    ∧ ((s.drive d).selected = some r → (s.channel.longInhibit = false ∨ r.kind.isWrite = false) →
        (p0.state = .settling → p0.settleTimer = some tm → p0.loadTimer = none →
          exec (.settleTimerEnd d) s = .next (onTrack fun p => { p with settleTimer := none }))
        ∧ (p0.state = .settling → p0.settleTimer = none → p0.loadTimer = some tm →
            exec (.headLoadTimerEnd d) s = .next (onTrack fun p => { p with loadTimer := none }))
        ∧ (p0.state = .moving → p0.stepTimer = none → p0.loadTimer = some tm →
            exec (.headLoadTimerEnd d) s = .next (onTrack fun p => { p with loadTimer := none })))
    ∧ (p0.state = .settling → p0.settleTimer = some tm → p0.loadTimer ≠ none →
        exec (.settleTimerEnd d) s = .next (s.modPos d fun p => { p with settleTimer := none }))
    ∧ (p0.loadTimer = some tm → (p0.state = .settling ∧ p0.settleTimer ≠ none ∨ p0.state = .moving ∧ p0.stepTimer ≠ none) →
        exec (.headLoadTimerEnd d) s = .next (s.modPos d fun p => { p with loadTimer := none }))
    ∧ (p0.state = .onTrack → (s.drive d).selected = none → s.cfg.unloadDelay ≤ p0.unload →
        exec (.unloadDelayReached d) s = .next (s.modPos d fun p =>
          { p with state := .resting, headLoaded := false, unload := 0 }))
    ∧ (p0.unload < s.cfg.unloadDelay → exec (.unloadDelayReached d) s = .next s)
    ∧ (p0.state = .recalibrating → p0.settleTimer = some tm → (s.drive d).reportDue = false →
        (s.drive d).selected = some r →
        exec (.recalSettleEnd d) s = .next (s.modPos d fun p =>
          { state := .moving, cylinder := some (min 1 r.cylinder), headLoaded := true, target := some r.cylinder,
            remaining := r.cylinder - 1, unload := 0, inward := if r.cylinder = 0 then p.inward else true,
            stepTimer := if r.cylinder = 0 then none else some s.cfg.stepPeriod, settleTimer := none,
            loadTimer := some s.cfg.headLoad }))

/-! ### Service order (Chapter 4) -/

/-- SELECTION (R75 to R80): of the QUEUED requests that no older one bars, the oldest at the bypass limit; else the
cheapest eligible one; else the cheapest of all; the older of two as cheap. It becomes SELECTED, and every older QUEUED
request has its passed count raised, up to the limit. Nothing else of the queue changes, nor another drive. Its move begins
(R29): with the head ON-TRACK at its cylinder the drive asks the channel at once; else the positioner is MOVING to it, in the
direction of the target, the head loaded (its timer started when it was not), and the first step is made at once, when there
is one. -/
def Obligations.SelectionFollowsTheServiceOrder : Prop :=
  ∀ (s : State) (d : DriveId) (us c k : Nat), (s.drive d).maySelect = true → (s.drive d).pos.cylinder = some c →
    s.channel.longInhibit = false →
    let q := (s.drive d).queue
    let cost (r : Request) : Nat := costOf s.cfg (s.vol d).serviceSpt (s.drive d).pos.headLoaded c us r
    let cand (i : Nat) (r : Request) : Prop := q[i]? = some r ∧ r.state = .queued
      ∧ ∀ j y, j < i → q[j]? = some y → y.bars r = false
    let forced (i : Nat) (r : Request) : Prop := cand i r ∧ r.passed = s.cfg.bypass
    let able (i : Nat) (r : Request) : Prop := cand i r ∧ r.eligible s.cfg (s.drive d).patternStep = true
    let best (ok : Nat → Request → Prop) (r : Request) : Prop :=
      ok k r ∧ ∀ i x, ok i x → cost r ≤ cost x ∧ (cost x = cost r → k ≤ i)
    (∀ r, ((forced k r ∧ ∀ i x, forced i x → k ≤ i)
        ∨ ((∀ i x, ¬ forced i x) ∧ best able r)
        ∨ ((∀ i x, ¬ forced i x) ∧ (∀ i x, ¬ able i x) ∧ best cand r)) →
      ∃ t, exec (.selection d us) s = .next t
        ∧ (∀ i x, q[i]? = some x → (t.drive d).queue[i]? = some
            (if i = k then { x with state := .selected }
             else if i < k ∧ x.state = .queued ∧ x.passed < s.cfg.bypass then { x with passed := x.passed + 1 }
             else x))
        ∧ (t.drive d).queue.length = q.length
        ∧ (t.drive d).selections = min 65535 ((s.drive d).selections + 1)
        ∧ (t.drive d).condition = (s.drive d).condition ∧ (t.drive d).patternStep = (s.drive d).patternStep
        ∧ s.OthersKept t d ∧ t.vols = s.vols ∧ t.regions = s.regions
        ∧ t = { s with drives := t.drives, channel := { s.channel with asking := t.channel.asking } }
        ∧ (let p := (s.drive d).pos
           let moving : Positioner := { p with
             state := .moving, target := some r.cylinder, headLoaded := true, unload := 0,
             loadTimer := if p.headLoaded then none else some s.cfg.headLoad }
           (p.state = .onTrack → r.cylinder = c → (t.drive d).pos = { p with unload := 0 }
              ∧ ∀ e, t.channel.asking.get e = if e = d then true else s.channel.asking.get e)
           ∧ (r.cylinder ≠ c → t.channel = s.channel ∧ (t.drive d).pos = { moving with
                cylinder := some (if c < r.cylinder then c + 1 else c - 1), inward := decide (c < r.cylinder),
                remaining := (r.cylinder - c) + (c - r.cylinder) - 1, stepTimer := some s.cfg.stepPeriod })
           ∧ (p.state = .resting → r.cylinder = c → t.channel = s.channel
              ∧ (t.drive d).pos = { moving with remaining := 0 })))
    ∧ ((∀ i x, ¬ cand i x) → exec (.selection d us) s = .next s)

/-- CHANNEL_GRANT (R43 to R46, R31): with no drive granted, the next drive of the rotation that asks and may be granted (a
write waits while the state is INHIBIT) is granted, its request is IN-SERVICE, and an attempt begins in SEARCH with the
zone of its cylinder and that zone's preferred strobe. A request granted for the first time has a fresh record at step
INITIAL (R46, R52), a SWEEP's with the strobes of the allowed range to try (R63) and the profile it reads with (R194). A
suspended write granted again goes on with what its record holds: the writes made and the image of an INDEX-WRITE (R65);
whatever ladder step it had reached, its attempt is a first one, at step INITIAL, and a mark RECOVERED stays (DEDUCED,
unsafe: log 14). A request in RECAL-WAIT goes on at the step its record holds, with its notes, its failing sectors and the
writes made (R50). -/
def Obligations.ChannelGrantRotates : Prop :=
  ∀ (s : State) (d : DriveId) (r : Request), s.channel.granted = none → s.part.drainOver = false →
    (s.drive d).selected = some r →
    let may (e : DriveId) : Prop := s.channel.asking.get e = true
      ∧ ∃ x, (s.drive e).selected = some x ∧ (s.channel.inhibit = false ∨ x.kind.isWrite = false)
    (may d → (∀ e, (e - s.channel.last - 1 : Fin 4) < (d - s.channel.last - 1 : Fin 4) → ¬ may e) →
      let zone : Zone := if s.cfg.innerStart ≤ r.cylinder then .inner else .outer
      let begun (o : OpRecord) : OpRecord :=
        { o with zone := zone, strobe := (s.margin d zone).preferred, wrong := 0, pulses := 0, awaiting := none,
                 acted := false }
      ∃ t o x, exec .channelGrant s = .next t
        ∧ t.channel.granted = some d ∧ t.channel.last = d ∧ t.channel.state = .search
        ∧ (∀ e, t.channel.asking.get e = if e = d then false else s.channel.asking.get e)
        ∧ (t.drive d).selected = some x ∧ x = { r with state := .inService, granted := true, profile := x.profile }
        ∧ (r.kind.isSweep = false → x.profile = r.profile)
        ∧ (r.kind.isSweep = true →
            (r.cylinder = 0 → r.head = 0 → x.profile = labelProfile)
            ∧ (¬ (r.cylinder = 0 ∧ r.head = 0) →
                x.profile = ((s.vol d).profile.map Profile.read).getD r.profile))
        ∧ t.op d = some o
        ∧ (s.op d = none → o = begun o ∧ o.step = .initial ∧ o.writes = 0 ∧ o.image = none
            ∧ o.notes = List.replicate x.profile.spt .unrecorded ∧ o.inPass = true ∧ o.passStart = none ∧ o.failing = []
            ∧ o.recovered = [] ∧ o.learned = [] ∧ o.undo = [] ∧ o.seen = false ∧ o.sweepRun = none
            ∧ o.sweepLeft = if r.kind.isSweep then [Strobe.normal, .early, .late].filter s.cfg.allows else [])
        ∧ (∀ p, s.op d = some p → r.state ≠ .recalWait → o = begun { p with step := .initial })
        ∧ (∀ p, s.op d = some p → r.state = .recalWait → o = begun p)
        ∧ (t.drive d).pos = { (s.drive d).pos with unload := 0 }
        ∧ t.channel.gate = s.channel.gate ∧ s.OthersKept t d
        ∧ t = { s with drives := t.drives, channel := t.channel })
    ∧ ((∀ e, ¬ may e) → exec .channelGrant s = .next s)

/-! ### The read/write channel (Chapter 3) -/

/-- ID_FIELD_ACCEPTED, DATA_FIELD_READ and DATA_WINDOW_EXPIRED at a read of one sector (R3, R5, R6, R9, R48, R54, R55). A
mark that no sync field of at least four zero bytes precedes is ignored. An ID field with a bad check, of another size code,
head or out of the profile's sectors is passed over; an accepted one of the right cylinder clears the wrong-cylinder count,
another cylinder raises it (not in a field already passed over: DEDUCED, unsafe: log 10); the first that names the sector
sought makes its data field awaited. A good data field ends the read: the request leaves the queue, the channel is IDLE, and
the reader is answered DONE with the bytes, RECOVERED at ladder steps 2 and 3; at step 2 a DIRECT-READ teaches the margin
record (R61; a strobe that has become preferred meanwhile does not: DEDUCED, unsafe: log 50). A bad or missing one (one of
another length is bad: DESIGN CHOICE, unsafe: log 25) returns the channel to
SEARCH (DESIGN CHOICE, unsafe: log 42), where it stays until the attempt ends (DEDUCED, safe: log 12). -/
def Obligations.SingleReadsFindTheirSector : Prop :=
  ∀ (s : State) (d : DriveId) (r : Request) (o : OpRecord) (c k : Nat) (l : Line) (b : BufId) (h : Held),
    s.channel.granted = some d → (s.drive d).selected = some r → s.op d = some o → r.origin = .desk l →
    (r.kind = .directRead b ∨ r.kind = .rawRead b) → r.sectorId = some k → s.channel.gate = none → o.pulses < 2 →
    o.wrong < 2 → (s.drive d).pos.cylinder = some c → s.buffer l b = some h → h.stage = .inProgress → h.orphan = false →
    (∀ f : IdField, s.channel.state = .search → o.awaiting = none →
      let fits : Prop := f.sizeCode.toNat = r.profile.sizeCode ∧ 1 ≤ f.sectorId.toNat
        ∧ f.sectorId.toNat ≤ r.profile.spt ∧ f.head.toNat = r.head
      (f.sync < 4 → exec (.idFieldAccepted f) s = .next s) ∧ (4 ≤ f.sync →
      (idGood f = false ∨ (¬ fits ∧ f.cylinder.toNat ≠ c) → exec (.idFieldAccepted f) s = .next s)
      ∧ (idGood f = true → ¬ fits → f.cylinder.toNat = c →
          exec (.idFieldAccepted f) s = .next (s.setOp d (some { o with wrong := 0 })))
      ∧ (idGood f = true → fits → f.cylinder.toNat ≠ c → o.wrong = 0 →
          exec (.idFieldAccepted f) s = .next (s.setOp d (some { o with wrong := 1 })))
      ∧ (idGood f = true → fits → f.cylinder.toNat = c → (f.sectorId.toNat ≠ k ∨ o.acted = true) →
          exec (.idFieldAccepted f) s = .next (s.setOp d (some { o with wrong := 0 })))
      ∧ (idGood f = true → fits → f.cylinder.toNat = c → f.sectorId.toNat = k → o.acted = false →
          exec (.idFieldAccepted f) s = .next
            ((s.setOp d (some { o with wrong := 0, acted := true, seen := true, awaiting := some k })).chanState .read))))
    ∧ (o.awaiting = some k →
        exec .dataWindowExpired s = .next ((s.setOp d (some { o with awaiting := none })).chanState .search)
        ∧ (∀ f : DataField, f.sync < 4 → exec (.dataFieldRead f) s = .next s)
        ∧ ∀ f : DataField, 4 ≤ f.sync →
          (dataGood r.profile.bytes f = false →
            exec (.dataFieldRead f) s = .next ((s.setOp d (some { o with awaiting := none })).chanState .search))
          ∧ (dataGood r.profile.bytes f = true → ∃ t, exec (.dataFieldRead f) s = .next t
              ∧ (r.kind = .directRead b → t.hasReply l b (.done false o.step.recovers
                  (h.body.take 4 ++ be2 f.bytes.length ++ f.bytes)))
              ∧ (r.kind = .rawRead b → t.hasReply l b (.done false o.step.recovers
                  (h.body.take 4 ++ [toByte (markCode f.mark), toByte o.strobe.code, toByte o.step.code]
                    ++ be2 f.bytes.length ++ f.bytes)))
              ∧ t.channel.state = .idle ∧ t.channel.granted = none ∧ t.op d = none
              ∧ t.drive d = { s.drive d with
                  queue := (s.drive d).queue.filter fun x => x.state == .queued,
                  pos := { (s.drive d).pos with unload := 0 } }
              ∧ (o.step.recovers = true → t.channel.recovered = min 65535 (s.channel.recovered + 1))
              ∧ ((o.step ≠ .two ∨ r.kind = .rawRead b) → ∀ e z, t.margin e z = s.margin e z)
              ∧ (o.step = .two → r.kind = .directRead b → s.Taught t d o)
              ∧ s.OthersKept t d ∧ t.regions = s.regions ∧ t.vols = s.vols ∧ t.mem = s.mem ∧ t.cw = s.cw
              ∧ t.cfg = s.cfg ∧ t.part = s.part ∧ t.clock = s.clock))

/-- ATTEMPT_END, seek faults and the retry ladder of a read of one sector (R47 to R51, R69) and of the ID search of a write
(R56, Table 3-3): at the second index pulse step 1 tries the preferred strobe again; step 2 each other strobe of the allowed
range in the order NORMAL, EARLY, LATE (other than the one preferred when step 2 began: DEDUCED, unsafe: log 16); with none
left, step 3 gives the channel up and recalibrates with the request in RECAL-WAIT. After step 3 a read ends FAILED READ-CHECK
when its ID field was seen and NOT-FOUND when it was not, and is counted (a data field still awaited then has failed: R9); a
write ends FAILED NOT-FOUND (not counted: DEDUCED, unsafe: log 17), an INDEX-WRITE as an index fault, a step of PREPARE
VOLUME as the end of the preparation. Before the second pulse nothing ends. A second accepted ID field of another cylinder is
a seek fault (R48), counted: before step 3 it leads straight there, in step 3 the operation ends FAILED SEEK-FAULT. In a
write check, and in the search for a rewrite, the second pulse or a seek fault is a failed check (R57): with one write made
the search begins again, however often (DEDUCED, unsafe: log 13), or is suspended by INHIBIT (R65); with two the write ends
FAILED WRITE-CHECK. -/
def Obligations.SingleReadsClimbTheLadder : Prop :=
  (∀ (s : State) (d : DriveId) (r : Request) (o : OpRecord) (l : Line) (b : BufId) (h : Held),
    s.channel.granted = some d → (s.drive d).selected = some r → s.op d = some o → r.origin = .desk l →
    (r.kind = .directRead b ∨ r.kind = .rawRead b) → s.channel.gate = none →
    s.buffer l b = some h → h.stage = .inProgress → h.orphan = false →
    let preferred := s.preferredFor d r
    let again (o' : OpRecord) (x : Strobe) : State := s.attempting d r o' x .search
    let tried (before : List Strobe) (p x : Strobe) : Prop :=
      x ≠ p ∧ s.cfg.allows x = true ∧ ∃ later, [Strobe.normal, .early, .late] = before ++ x :: later
    (o.pulses < 2 → exec .attemptEnd s = .next s)
    ∧ (o.pulses = 2 → o.step = .initial → exec .attemptEnd s = .next (again { o with step := .one } preferred))
    ∧ (∀ x before, o.pulses = 2 → o.step = .one → tried before preferred x →
        (∀ y ∈ before, y = preferred ∨ s.cfg.allows y = false) →
        exec .attemptEnd s = .next (again { o with step := .two, basePref := preferred } x))
    ∧ (∀ x mid before, o.pulses = 2 → o.step = .two → tried (before ++ o.strobe :: mid) o.basePref x →
        (∀ y ∈ mid, y = o.basePref ∨ s.cfg.allows y = false) →
        exec .attemptEnd s = .next (again { o with step := .two } x))
    ∧ (o.pulses = 2 → o.step = .one → (∀ y, s.cfg.allows y = true → y = preferred) →
        ∃ t, exec .attemptEnd s = .next t ∧ s.GivenUp t d r { o with awaiting := none, basePref := preferred })
    ∧ (∀ before later, o.pulses = 2 → o.step = .two → [Strobe.normal, .early, .late] = before ++ o.strobe :: later →
        (∀ y ∈ later, y = o.basePref ∨ s.cfg.allows y = false) →
        ∃ t, exec .attemptEnd s = .next t ∧ s.GivenUp t d r { o with awaiting := none })
    ∧ (o.pulses = 2 → o.step = .three → ∃ t, exec .attemptEnd s = .next t
        ∧ t.hasReply l b (.failed (if o.seen then .readCheck else .notFound)) ∧ s.EndedTo t d ∧ t.mem = s.mem
        ∧ t.channel.failed = min 65535 (s.channel.failed + 1))
    ∧ (∀ f c, o.awaiting = none → o.pulses < 2 → o.wrong = 1 → s.channel.state = .search → o.writes = 0 →
        (s.drive d).pos.cylinder = some c → IdAccepted f → r.FitsId f → f.cylinder.toNat ≠ c →
        (o.step ≠ .three → ∃ t, exec (.idFieldAccepted f) s = .next t ∧ s.GivenUp t d r { o with wrong := 2 }
          ∧ t.channel.seekFaults = min 65535 (s.channel.seekFaults + 1))
        ∧ (o.step = .three → ∃ t, exec (.idFieldAccepted f) s = .next t ∧ s.EndedTo t d ∧ t.mem = s.mem
          ∧ t.hasReply l b (.failed .seekFault)
          ∧ t.channel.seekFaults = min 65535 (s.channel.seekFaults + 1))))
  ∧ (∀ (s : State) (d : DriveId) (r : Request) (o : OpRecord), s.Serving d r o → r.WritesSector →
      s.channel.gate = none →
      let preferred := s.preferredFor d r
      let again (o' : OpRecord) (x : Strobe) : State := s.attempting d r o' x .search
      let counted : State := s.modChannel fun c => { c with seekFaults := min 65535 (c.seekFaults + 1) }
      let strays (f : IdField) : Prop :=
        ∃ c, s.Seeking d r o c ∧ o.wrong = 1 ∧ IdAccepted f ∧ r.FitsId f ∧ f.cylinder.toNat ≠ c
      (o.pulses < 2 → exec .attemptEnd s = .next s)
      ∧ (o.writes = 0 → s.channel.state = .search → o.awaiting = none →
        (o.pulses = 2 → o.step = .initial → exec .attemptEnd s = .next (again { o with step := .one } preferred))
        ∧ (∀ x before later, [Strobe.normal, .early, .late] = before ++ x :: later → s.cfg.allows x = true →
            o.pulses = 2 →
            (o.step = .one → x ≠ preferred → (∀ y ∈ before, y = preferred ∨ s.cfg.allows y = false) →
              exec .attemptEnd s = .next (again { o with step := .two, basePref := preferred } x))
            ∧ (∀ first mid, o.step = .two → x ≠ o.basePref → before = first ++ o.strobe :: mid →
                (∀ y ∈ mid, y = o.basePref ∨ s.cfg.allows y = false) →
                exec .attemptEnd s = .next (again { o with step := .two } x)))
        ∧ (o.pulses = 2 → o.step = .one → (∀ y, s.cfg.allows y = true → y = preferred) →
            ∃ t, exec .attemptEnd s = .next t ∧ s.GivenUp t d r { o with basePref := preferred })
        ∧ (∀ before later, o.pulses = 2 → o.step = .two →
            [Strobe.normal, .early, .late] = before ++ o.strobe :: later →
            (∀ y ∈ later, y = o.basePref ∨ s.cfg.allows y = false) →
            ∃ t, exec .attemptEnd s = .next t ∧ s.GivenUp t d r o)
        ∧ (o.pulses = 2 → o.step = .three → ∃ t, exec .attemptEnd s = .next t ∧ s.WriteFails t d r .notFound)
        ∧ (∀ f, strays f →
            (o.step ≠ .three → ∃ t, exec (.idFieldAccepted f) s = .next t ∧ s.GivenUp t d r { o with wrong := 2 }
              ∧ t.channel.seekFaults = min 65535 (s.channel.seekFaults + 1))
            ∧ (o.step = .three → ∃ t, exec (.idFieldAccepted f) s = .next t ∧ s.WriteFails t d r .seekFault
              ∧ t.channel.seekFaults = min 65535 (s.channel.seekFaults + 1))))
      ∧ (s.channel.state = .writeCheck ∨ 1 ≤ o.writes →
        (o.writes < 2 → s.channel.inhibit = false →
          (o.pulses = 2 → exec .attemptEnd s = .next (again o preferred))
          ∧ ∀ f, strays f → exec (.idFieldAccepted f) s = .next (counted.attempting d r o preferred .search))
        ∧ (o.writes < 2 → s.channel.inhibit = true → s.channel.longInhibit = false →
          (o.pulses = 2 → ∃ t, exec .attemptEnd s = .next t ∧ s.Suspended t d r { o with awaiting := none })
          ∧ ∀ f, strays f → ∃ t, exec (.idFieldAccepted f) s = .next t ∧ s.Suspended t d r { o with wrong := 2 }
              ∧ t.channel.seekFaults = min 65535 (s.channel.seekFaults + 1))
        ∧ (2 ≤ o.writes →
          (o.pulses = 2 → ∃ t, exec .attemptEnd s = .next t ∧ s.WriteFails t d r .writeCheck)
          ∧ ∀ f, strays f → ∃ t, exec (.idFieldAccepted f) s = .next t ∧ s.WriteFails t d r .writeCheck
              ∧ t.channel.seekFaults = min 65535 (s.channel.seekFaults + 1))))

/-- A desk WRITE at its sector (R56, R57, R10, R11, R33, R64, R65, R69, R103, R139): the accepted ID field opens the gate
over the request's data, in WRITE, unless WRITE-PROTECT ends it FAILED WRITE-CHECK or INHIBIT suspends it; the field written
closes the gate and begins the write check; a good check ends the write DONE; a bad one (one of another length is bad: DESIGN
CHOICE, unsafe: log 25) leads back to the search for the one rewrite, or after two writes to FAILED WRITE-CHECK. `b` is the
buffer of a write within the allocation. The count of rewrites rises when the gate of the second write closes (DEDUCED,
unsafe: log 35), and a search that a retry won counts no read recovered (DEDUCED, unsafe: log 17). An INDEX-WRITE (R58, R148
to R150, R152): at its first gate opening the image of its index sector is taken, the sector is WRITING and its waiters are
covered; a rewrite writes the same image. Its success makes the sector CLEAN, or DIRTY again and perhaps offered anew when it
changed meanwhile, and answers the covered waiters, a change DONE with the entry summary as it stands (a PURGE's too when its
handle was taken again: DEDUCED, unsafe: log 53); failing twice it is an index fault: INDEX-FAULT joins the reasons, a
MOUNTED volume becomes READ-ONLY, the free set is emptied, the sector is DIRTY and every waiter is answered FAILED
INDEX-FAULT. Every write of one sector, one of an extending WRITE BLOCK or a step of PREPARE VOLUME too: its gate over its
data, its field written, its failed check and its suspension; the end of the RESTART drain ends it unreported (R191). A write
that ends well is written through (R103): with a VALID frame of its track its data stand in that frame, and no other byte of
the buffer memory and no other frame has changed; with none, and at every other end, suspension or failed check, no byte has
changed. The good end of a desk WRITE: one that extends (R139) is answered DONE when its write-back has succeeded, in either
order, and FAILED INDEX-FAULT when that was an index fault; before it, it waits on. -/
def Obligations.DeskWritesAreWrittenAndChecked : Prop :=
  (∀ (s : State) (d : DriveId) (r : Request) (o : OpRecord) (c k : Nat) (l : Line) (b : BufId) (h : Held),
    s.channel.granted = some d → (s.drive d).selected = some r → s.op d = some o → r.origin = .desk l →
    r.kind = .write b none → r.sectorId = some k → (s.drive d).pos.cylinder = some c → s.part.drainOver = false →
    s.channel.longInhibit = false → s.buffer l b = some h → h.stage = .inProgress → h.orphan = false →
    let z := zoneOf s.cfg.innerStart r.cylinder
    let ended (t : State) : Prop := t.channel.granted = none ∧ t.channel.state = .idle ∧ t.channel.gate = none
      ∧ t.op d = none ∧ (t.drive d).queue = (s.drive d).queue.filter (fun x => x.state == .queued) ∧ s.OthersKept t d
    (∀ f : IdField, s.channel.state = .search → s.channel.gate = none → o.awaiting = none → o.acted = false →
      o.pulses < 2 → o.wrong < 2 → 4 ≤ f.sync → idGood f = true → f.sizeCode.toNat = r.profile.sizeCode → f.sectorId.toNat = k →
      1 ≤ k → k ≤ r.profile.spt → f.head.toNat = r.head → f.cylinder.toNat = c →
      ((s.drive d).levels.writeProtect = true → ∃ t, exec (.idFieldAccepted f) s = .next t
        ∧ t.hasReply l b (.failed .writeCheck) ∧ ended t ∧ t.mem = s.mem
        ∧ t.channel.checksFailed = min 65535 (s.channel.checksFailed + 1))
      ∧ ((s.drive d).levels.writeProtect = false → s.channel.inhibit = true → ∃ t, exec (.idFieldAccepted f) s = .next t
          ∧ t.channel.granted = none ∧ t.channel.gate = none ∧ t.channel.asking.get d = true ∧ t.lines = s.lines
          ∧ t.mem = s.mem
          ∧ (∃ x, (t.drive d).selected = some x ∧ x.state = .selected ∧ x.arrival = r.arrival)
          ∧ (∃ o', t.op d = some o' ∧ o'.writes = o.writes))
      ∧ ((s.drive d).levels.writeProtect = false → s.channel.inhibit = false → ∃ t o', exec (.idFieldAccepted f) s = .next t
          ∧ t.channel.state = .write ∧ t.writeGate d = true ∧ (t.lowCurrent d = true ↔ z = .inner)
          ∧ t.channel.gate = some { zone := z, precomp := precompAmount r.profile.recording z s.cfg.precomp,
                                    recording := r.profile.recording, trailing := false,
                                    items := dataWrite r.profile.recording (writeDataOf h.body) }
          ∧ t.op d = some o' ∧ o'.writes = o.writes
          ∧ t = { s with channel := { s.channel with state := .write, gate := t.channel.gate, ops := t.channel.ops } }))
    ∧ (s.channel.state = .write → s.channel.gate ≠ none →
        (s.cfg.writeCheck = true → ∃ t o', exec .dataFieldWritten s = .next t
          ∧ t.channel.state = .writeCheck ∧ t.channel.gate = none ∧ t.channel.granted = some d
          ∧ t.op d = some o' ∧ o'.writes = o.writes + 1 ∧ o'.pulses = 0 ∧ o'.acted = false
          ∧ o'.strobe = (s.margin d z).preferred
          ∧ t.channel.rewrites = (if o.writes = 1 then min 65535 (s.channel.rewrites + 1) else s.channel.rewrites)
          ∧ t = { s with channel := t.channel })
        ∧ (s.cfg.writeCheck = false → ∃ t, exec .dataFieldWritten s = .next t ∧ ended t
            ∧ t.hasReply l b (.done false (o.recovered.contains k) (h.body.take 4))
            ∧ s.WroteThrough t d r k (writeDataOf h.body)))
    ∧ (s.channel.state = .writeCheck → s.channel.gate = none → o.awaiting = some k → o.pulses < 2 → o.wrong < 2 →
        ∀ f : DataField, 4 ≤ f.sync →
          (dataGood r.profile.bytes f = true → ∃ t, exec (.dataFieldRead f) s = .next t ∧ ended t
            ∧ t.hasReply l b (.done false (o.recovered.contains k) (h.body.take 4))
            ∧ s.WroteThrough t d r k (writeDataOf h.body))
          ∧ (dataGood r.profile.bytes f = false → o.writes = 1 → s.channel.inhibit = false →
              ∃ t o', exec (.dataFieldRead f) s = .next t ∧ t.channel.state = .search ∧ t.channel.granted = some d
                ∧ t.op d = some o' ∧ o'.writes = 1 ∧ o'.acted = false ∧ o'.pulses = 0 ∧ t.lines = s.lines
                ∧ t.mem = s.mem)
          ∧ (dataGood r.profile.bytes f = false → 2 ≤ o.writes → ∃ t, exec (.dataFieldRead f) s = .next t ∧ ended t
              ∧ t.hasReply l b (.failed .writeCheck) ∧ t.mem = s.mem
              ∧ t.channel.checksFailed = min 65535 (s.channel.checksFailed + 1)
              ∧ (r.granted = true → (s.region d).frames.countP (Frame.validFor r.cylinder r.head) ≤ 1 →
                  ∀ g ∈ (t.region d).frames, g.validFor r.cylinder r.head = false))))
  ∧ (∀ (s : State) (d : DriveId) (r : Request) (o : OpRecord) (j k : Nat) (p : Profile), s.Serving d r o →
      r.origin = .volume → r.kind = .indexWrite j → r.sectorId = some k → (s.vol d).profile = some p →
      s.part.drainOver = false → j < (s.vol d).sectors.length →
      let z := zoneOf s.cfg.innerStart r.cylinder
      let gateOf (image : List Byte) : Gate :=
        { zone := z, precomp := precompAmount r.profile.recording z s.cfg.precomp, recording := r.profile.recording,
          trailing := false, items := dataWrite r.profile.recording image }
      let image := (List.range p.perSector).flatMap fun i => encodeEntry ((s.vol d).entry (j * p.perSector + i))
      let covered (w : Waiter) : Bool := w.sector == j && w.covered
      (∀ f c, s.Seeking d r o c → s.channel.state = .search → o.acted = false → r.NamedBy f c k →
        (s.drive d).levels.writeProtect = false → s.channel.inhibit = false →
        (o.image = none → ∃ t o', exec (.idFieldAccepted f) s = .next t ∧ t.channel.state = .write
          ∧ t.channel.gate = some (gateOf image) ∧ t.op d = some o' ∧ o'.image = some image ∧ o'.writes = o.writes
          ∧ (t.vol d).sector j = .writing ∧ (∀ i, i ≠ j → (t.vol d).sector i = (s.vol d).sector i)
          ∧ (t.vol d).waiters = (s.vol d).waiters.map (fun w => if w.sector = j then { w with covered := true } else w)
          ∧ t.vol d = { s.vol d with sectors := (t.vol d).sectors, waiters := (t.vol d).waiters }
          ∧ s.OthersKept t d ∧ t = { s with vols := t.vols, channel := t.channel })
        ∧ (∀ old, o.image = some old → ∃ t o', exec (.idFieldAccepted f) s = .next t ∧ t.channel.state = .write
          ∧ t.channel.gate = some (gateOf old) ∧ t.op d = some o' ∧ o'.image = some old
          ∧ t = { s with channel := t.channel }))
      ∧ (∀ i, s.WritesGood d r o k i → ∃ t, exec i s = .next t
          ∧ t.channel.granted = none ∧ t.channel.state = .idle ∧ t.op d = none
          ∧ ((∀ w ∈ (s.vol d).waiters, covered w = true → w.kind ≠ .extending none) →
              ∃ q, (t.drive d).queue = s.left d ++ q ∧ q.length ≤ 2 ∧ ∀ x ∈ q, ∃ i, x.kind = .indexWrite i)
          ∧ ((s.vol d).sector j = .writing → (t.vol d).sector j = .clean)
          ∧ ((s.vol d).sector j = .writingDirty → (t.vol d).sector j = .dirty ∨ (t.vol d).sector j = .queued)
          ∧ (t.vol d).waiters = (s.vol d).waiters.filter (fun w => !covered w)
          ∧ (∀ w y, w ∈ (s.vol d).waiters → covered w = true → w.kind = .change → s.InProgress w.line w.buf y →
              (∀ w' ∈ (s.vol d).waiters, w'.line = w.line → w'.buf = w.buf → w' = w) →
              t.hasReply w.line w.buf (.done w.clamped false (s.summary d w.handle)))
          ∧ (∀ w y rec, w ∈ (s.vol d).waiters → covered w = true → w.kind = .extending (some rec) →
              s.InProgress w.line w.buf y →
              (∀ w' ∈ (s.vol d).waiters, w'.line = w.line → w'.buf = w.buf → w' = w) →
              t.hasReply w.line w.buf (.done false rec (y.body.take 4)))
          ∧ (∀ w x, w ∈ (s.vol d).waiters → covered w = true → w.kind = .extending none → x ∈ s.left d →
              x.origin = .desk w.line → x.kind = .write w.buf (some .waiting) →
              { x with kind := .write w.buf (some .answered) } ∈ (t.drive d).queue)
          ∧ (∀ bytes, o.image = some bytes → s.WroteThrough t d r k bytes)
          ∧ t.vol d = { s.vol d with sectors := (t.vol d).sectors, waiters := (t.vol d).waiters } ∧ s.OthersKept t d)
      ∧ (∀ f, s.Awaiting d r o k → s.channel.state = .writeCheck →
        (r.BadData f → 2 ≤ o.writes → ∃ t, exec (.dataFieldRead f) s = .next t
          ∧ ((∀ w ∈ (s.vol d).waiters, w.kind ≠ .extending none) → s.EndedTo t d)
          ∧ t.channel.granted = none ∧ t.channel.state = .idle ∧ t.op d = none ∧ t.mem = s.mem
          ∧ t.vol d = { s.vol d with
              indexFault := true, state := if (s.vol d).state = .mounted then .readOnly else (s.vol d).state,
              free := [], heldGranule := none, waiters := [], sectors := (s.vol d).sectors.set j .dirty }
          ∧ (∀ w y, w ∈ (s.vol d).waiters → (w.kind ≠ .extending none) → s.InProgress w.line w.buf y →
              t.hasReply w.line w.buf (.failed .indexFault))
          ∧ (∀ w x, w ∈ (s.vol d).waiters → w.kind = .extending none → x ∈ s.left d → x.origin = .desk w.line →
              x.kind = .write w.buf (some .waiting) →
              { x with kind := .write w.buf (some .faulted) } ∈ (t.drive d).queue)
          ∧ t.channel.checksFailed = min 65535 (s.channel.checksFailed + 1))))
  ∧ (∀ (s : State) (d : DriveId) (r : Request) (o : OpRecord) (k : Nat), s.Serving d r o → r.WritesSector →
      r.sectorId = some k →
      let preferred := s.preferredFor d r
      let holds (bytes : List Byte) : Prop :=
        (∃ l b x h, r.origin = .desk l ∧ r.kind = .write b x ∧ s.buffer l b = some h ∧ bytes = writeDataOf h.body)
          ∨ r.kind = .prepWrite .label ∧ areaGet (s.vol d).labelArea 1 = some bytes
          ∨ ∃ j, r.kind = .prepWrite (.index j) ∧ areaGet (s.vol d).staging j = some bytes
      (∀ f c, s.Seeking d r o c → s.channel.state = .search → o.acted = false → r.NamedBy f c k →
        s.part.drainOver = false →
        let found : OpRecord := { o with
          wrong := 0, acted := true, seen := true,
          recovered := if o.step.recovers = true ∧ o.writes = 0 then [k] else o.recovered }
        ((s.drive d).levels.writeProtect = true → ∃ t, exec (.idFieldAccepted f) s = .next t
          ∧ s.WriteFails t d r .writeCheck)
        ∧ ((s.drive d).levels.writeProtect = false → s.channel.inhibit = true → s.channel.longInhibit = false →
            ∃ t, exec (.idFieldAccepted f) s = .next t ∧ s.Suspended t d r found)
        ∧ (∀ bytes, (s.drive d).levels.writeProtect = false → s.channel.inhibit = false → holds bytes →
            let z := zoneOf s.cfg.innerStart r.cylinder
            let gate : Gate :=
              { zone := z, precomp := precompAmount r.profile.recording z s.cfg.precomp, recording := r.profile.recording,
                trailing := false, items := dataWrite r.profile.recording bytes }
            exec (.idFieldAccepted f) s = .next ((s.setOp d (some found)).modChannel fun x =>
              { x with state := .write, gate := some gate })))
      ∧ (s.channel.state = .write → s.channel.gate ≠ none →
        (s.part.drainOver = false → s.cfg.writeCheck = true → exec .dataFieldWritten s = .next
          ((s.modChannel fun x => { x with
              gate := none, rewrites := if o.writes = 1 then min 65535 (x.rewrites + 1) else x.rewrites }).attempting
            d r { o with writes := o.writes + 1 } preferred .writeCheck))
        ∧ (s.part.drainOver = true → ∃ t, exec .dataFieldWritten s = .next t
            ∧ t.channel.granted = none ∧ t.channel.state = .idle ∧ t.channel.gate = none ∧ t.op d = none
            ∧ (t.drive d).queue = (s.drive d).queue ∧ s.OthersKept t d ∧ t.lines = s.lines ∧ t.vols = s.vols
            ∧ t.regions = s.regions ∧ t.mem = s.mem))
      ∧ (∀ i, s.Awaiting d r o k → s.channel.state = .writeCheck → o.writes < 2 →
          (i = .dataWindowExpired ∨ ∃ f, i = .dataFieldRead f ∧ r.BadData f) →
        (s.channel.inhibit = false →
          exec i s = .next (s.attempting d r { o with awaiting := none } preferred .search))
        ∧ (s.channel.inhibit = true → s.channel.longInhibit = false →
          ∃ t, exec i s = .next t ∧ s.Suspended t d r { o with awaiting := none }))
      ∧ (∀ i l b x h, s.WritesGood d r o k i → r.origin = .desk l → r.kind = .write b x → s.InProgress l b h →
        ∃ t, exec i s = .next t ∧ s.EndedTo t d
          ∧ (x = none ∨ x = some .answered → t.hasReply l b (.done false (o.recovered.contains k) (h.body.take 4)))
          ∧ (x = some .faulted → t.hasReply l b (.failed .indexFault))
          ∧ (x = some .waiting → t.lines = s.lines)
          ∧ t.vol d = { s.vol d with
              heldGranule := none,
              waiters := if x = some .waiting then (s.vol d).waiters.map fun w =>
                  if w.line = l ∧ w.buf = b then { w with kind := .extending (some (o.recovered.contains k)) } else w
                else (s.vol d).waiters }
          ∧ s.WroteThrough t d r k (writeDataOf h.body))
      ∧ (∀ i bytes, s.WritesGood d r o k i → (∃ st, r.kind = .prepWrite st) → holds bytes →
        ∃ t, exec i s = .next t ∧ t.channel.granted = none ∧ t.op d = none ∧ s.WroteThrough t d r k bytes))

/-- A FORMAT-TRACK (R59, R4, R10, R18, R64, R65, R104, R191): its gate opens at an index pulse over the whole formatted
track, filler following it; the next pulse closes it and begins the check of one revolution, or, with the write-check item
off, ends the format successfully; the writes made rise by one, and when they were one already so does the count of rewrites,
as that gate closes (R69; DEDUCED, unsafe: log 35). At the moment its gate would open, in SEARCH or to format again,
WRITE-PROTECT asserted ends it FAILED WRITE-CHECK (R56), and INHIBIT suspends it (R65). INHIBIT beginning while the gate is
open lets it finish the field it is writing; FORMAT_FIELD_FINISHED then closes the gate and suspends the format, the write
not counted, and so does the pulse that ends the track (DEDUCED, unsafe: log 23); a format caught between its fields is
suspended at once (DEDUCED, unsafe: log 64). The end of the RESTART drain closes the gate so and ends the operation
unreported. The check (R59): the accepted ID fields that name sectors of the track are listed and their data fields read; it
is good when every sector ID 1..spt is named exactly once, each data field read is good (one of another length is bad: DESIGN
CHOICE, unsafe: log 25) and none is cut short by the pulse that ends it. A check failed twice counts among the write checks
failed, a seek fault among the seek faults (R69). A data field missing in its window, at the window's end or at a further ID
mark, makes it bad (R5). A seek fault makes it bad, and it still ends at that pulse (R48; DESIGN CHOICE, unsafe: log 60). A
good check ends the format: the track is counted, its VALID frame emptied and the next track offered, or the label WRITE
after the last (R125). A failed one with one write made reformats the track at that pulse; with two made the preparation ends
FAILED WRITE-CHECK with the volume FOREIGN, INCOMPLETE (R126). -/
def Obligations.FormatsRunFromPulseToPulse : Prop :=
  ∀ (s : State) (d : DriveId) (r : Request) (o : OpRecord) (us : Nat) (p : Profile), s.part.extReset = false →
    (s.drive d).condition = .ready → s.channel.granted = some d → (s.drive d).selected = some r → s.op d = some o →
    r.kind = .formatTrack → (s.vol d).profile = some p →
    let z := zoneOf s.cfg.innerStart r.cylinder
    let slots : Nat × Nat := if r.cylinder = 0 ∧ r.head = 0 then (1, 0) else (p.interleave, p.skew)
    let good : Prop := o.CheckedGood r.profile.spt
    let gateDue : Prop := s.channel.gate = none ∧ s.part.drainOver = false
      ∧ (s.channel.state = .search ∨ s.channel.state = .writeCheck ∧ ¬ good ∧ o.writes < 2)
    let running : Prop := s.channel.state = .format ∧ s.channel.gate ≠ none
    let following : Option (Nat × Nat) :=
      if p.sides = 2 ∧ r.head = 0 then some (r.cylinder, 1)
      else if r.cylinder < 76 then some (r.cylinder + 1, 0) else none
    let succeeds (t : State) : Prop :=
      t.channel.granted = none ∧ t.channel.state = .idle ∧ t.channel.gate = none ∧ t.op d = none ∧ s.OthersKept t d
      ∧ (t.vol d).tracksFormatted = (s.vol d).tracksFormatted + 1
      ∧ ((s.region d).frames.countP (Frame.validFor r.cylinder r.head) ≤ 1 →
          ∀ g ∈ (t.region d).frames, g.validFor r.cylinder r.head = false)
      ∧ (∀ c hd, following = some (c, hd) → ∃ x, (t.drive d).queue = s.left d ++ [x]
          ∧ x.VolumePlaced .formatTrack c hd p.read s.arrival)
      ∧ (∀ i, following = none → (s.vol d).newLabel = some i → ∃ x, (t.drive d).queue = s.left d ++ [x]
          ∧ x.VolumePlaced (.prepWrite .label) 0 0 labelProfile s.arrival ∧ x.sectorId = some 1
          ∧ (t.vol d).labelArea = [(1, encodeLabel { i with day := s.clock.day, minute := s.clock.minute } p)])
    let fails (t : State) : Prop :=
      s.EndedTo t d ∧ (t.vol d).state = .foreign ∧ (t.vol d).foreign = some .incomplete ∧ (t.vol d).profile = none
      ∧ (t.vol d).pendingReq = none ∧ t.channel.checksFailed = min 65535 (s.channel.checksFailed + 1)
      ∧ ∀ l b h clamped, (s.vol d).pendingReq = some (.prepare l b clamped) → s.InProgress l b h →
          t.hasReply l b (.failed .writeCheck)
    (gateDue → (s.drive d).levels.writeProtect = false → s.channel.inhibit = false →
      ∃ t, exec (.indexPulse d us) s = .next t ∧ t.channel.state = .format ∧ t.op d = some o
        ∧ t.channel.gate = some
          { zone := z, precomp := precompAmount r.profile.recording z s.cfg.precomp, recording := r.profile.recording,
            trailing := true,
            items := formatTrack r.profile slots.1 slots.2 (linearTrack p.sides r.cylinder r.head) r.cylinder r.head }
        ∧ t = { s with drives := t.drives, channel := t.channel })
    ∧ (gateDue → (s.drive d).levels.writeProtect = true → ∃ t, exec (.indexPulse d us) s = .next t ∧ fails t)
    ∧ (gateDue → (s.drive d).levels.writeProtect = false → s.channel.inhibit = true → s.channel.longInhibit = false →
        ∃ t, exec (.indexPulse d us) s = .next t ∧ s.Suspended t d r o)
    ∧ (running → s.part.drainOver = false → s.channel.inhibit = false →
        let rewritten := if o.writes = 1 then min 65535 (s.channel.rewrites + 1) else s.channel.rewrites
        (s.cfg.writeCheck = true → ∃ t o', exec (.indexPulse d us) s = .next t
          ∧ t.channel.state = .writeCheck ∧ t.channel.gate = none ∧ t.op d = some o' ∧ o'.writes = o.writes + 1
          ∧ o'.checkSeen = [] ∧ o'.checkGood = [] ∧ o'.checkBad = false ∧ t.channel.rewrites = rewritten
          ∧ t = { s with drives := t.drives, channel := t.channel })
        ∧ (s.cfg.writeCheck = false → ((s.left d).filter fun x => x.origin == .volume).length < 2 →
            ∃ t, exec (.indexPulse d us) s = .next t ∧ succeeds t ∧ t.channel.rewrites = rewritten)
        ∧ exec .formatFieldFinished s = .next s)
    ∧ (∀ i, running → (i = .formatFieldFinished ∨ i = .indexPulse d us) →
        (s.part.drainOver = false → s.channel.inhibit = true → s.channel.longInhibit = false →
          ∃ t, exec i s = .next t ∧ s.Suspended t d r o ∧ t = { s with drives := t.drives, channel := t.channel })
        ∧ (s.part.drainOver = true → ∃ t, exec i s = .next t ∧ s.FormatCut t d ∧ t.op d = none
            ∧ (t.drive d).queue = (s.drive d).queue))
    ∧ (∀ g, s.channel.state = .format → s.channel.gate = some g → s.part.drainOver = false → s.channel.inhibit = false →
        ∃ t, exec (.supplyBelowInhibit us) s = .next t ∧ t.channel.inhibit = true ∧ t.channel.supply = .belowInhibit
          ∧ (r.InField g us → t.channel.gate = some g ∧ t.channel.granted = some d ∧ t.op d = some o
              ∧ t = { s with channel := t.channel })
          ∧ (¬ r.InField g us → s.channel.longInhibit = false → s.Suspended t d r o
              ∧ t = { s with drives := t.drives, channel := t.channel }))
    ∧ (s.channel.state = .writeCheck → s.channel.gate = none →
        (∀ f c k, s.Seeking d r o c → r.NamedBy f c k → exec (.idFieldAccepted f) s =
            .next (s.setOp d (some { o with wrong := 0, checkSeen := o.checkSeen ++ [k], awaiting := some k })))
        ∧ (∀ f k, s.Awaiting d r o k →
            (r.GoodData f → exec (.dataFieldRead f) s =
              .next (s.setOp d (some { o with awaiting := none, checkGood := o.checkGood ++ [k] })))
            ∧ (r.BadData f → exec (.dataFieldRead f) s =
                .next (s.setOp d (some { o with awaiting := none, checkBad := true }))))
        ∧ (∀ k, s.Awaiting d r o k → exec .dataWindowExpired s =
            .next (s.setOp d (some { o with awaiting := none, checkBad := true })))
        ∧ (∀ f c k k', s.Awaiting d r o k → (s.drive d).pos.cylinder = some c → r.NamedBy f c k' →
            exec (.idFieldAccepted f) s = .next (s.setOp d (some
              { o with wrong := 0, checkBad := true, checkSeen := o.checkSeen ++ [k'], awaiting := some k' })))
        ∧ (∀ f c, s.Seeking d r o c → o.wrong = 1 → IdAccepted f → r.FitsId f → f.cylinder.toNat ≠ c →
            exec (.idFieldAccepted f) s = .next ((s.modChannel fun x =>
              { x with seekFaults := min 65535 (x.seekFaults + 1) }).setOp d (some { o with wrong := 2, checkBad := true })))
        ∧ (good → ((s.left d).filter fun x => x.origin == .volume).length < 2 →
            ∃ t, exec (.indexPulse d us) s = .next t ∧ succeeds t)
        ∧ (¬ good → 2 ≤ o.writes → ∃ t, exec (.indexPulse d us) s = .next t ∧ fails t))

/-- A FILL of a frame (R47 to R53, R100, R101). In its pass each accepted ID field makes its data field awaited, one of a
sector already GOOD excepted; good data is placed at the sector's bytes of the frame, every other byte of the buffer memory
standing (R92, R94), and the sector GOOD, a failure (one of another length too: DESIGN CHOICE, unsafe: log 25) makes it BAD,
and so does a data window that ends without a data mark, by itself or at a further ID mark (R5), and a second pulse while it
is awaited (R9; no mark read yet, wanted or not: DESIGN CHOICE, unsafe: log 58). The pass ends at the sector that began it or
at the second pulse; what is unrecorded is ABSENT, and the failing wanted sectors go up the ladder (its base strobe: DEDUCED,
unsafe: log 16), each read good leaving them (counted at once: DESIGN CHOICE, unsafe: log 56; back to SEARCH: DESIGN CHOICE,
unsafe: log 42) and at step 2 teaching the margin record (R61; logs 15, 50). With none failing, or after step 3, the frame
becomes VALID with the conditions recorded and the next fill number, and each reader is answered by its sector: DONE with the
bytes, FAILED READ-CHECK or FAILED NOT-FOUND. A seek fault leads to step 3 with the sectors that are wanted and failing, or
with none in its pass to the end of the FILL (DEDUCED, unsafe: log 11); in step 3 the FILL fails: the frame is EMPTY, its
readers answered FAILED SEEK-FAULT. The fills of a mount: a LABEL-READ (R114, R115) keeps the decoded label, makes an
unsupported one FOREIGN, UNSUPPORTED and offers the index-load FILLs of a supported one; one that exhausts the ladder, or
ends by a seek fault in step 3 (R53), makes the volume FOREIGN, UNREADABLE. An index-load FILL (R116 to R118): the entries of
its wanted sectors are decoded from the staging area (slug fields: DESIGN CHOICE, unsafe: log 39); one that ends by a seek
fault in step 3 has every wanted sector failing; while another is in the queue the mount goes on, and with the last one the
volume becomes MOUNTED or READ-ONLY and the region opens. Nothing but good data of a FILL changes a byte of the buffer
memory. -/
def Obligations.AFillEndsWithItsFrameValid : Prop :=
  (∀ (s : State) (d : DriveId) (r : Request) (o : OpRecord) (c i k : Nat) (f : IdField) (readers : List Reader),
    s.channel.granted = some d → (s.drive d).selected = some r → s.op d = some o → r.kind = .fill i →
    s.channel.gate = none → o.awaiting = none → o.inPass = true → o.passStart = some k → o.pulses < 2 → o.wrong < 2 →
    o.recovered = [] → (s.drive d).pos.cylinder = some c → 4 ≤ f.sync → idGood f = true →
    f.sizeCode.toNat = r.profile.sizeCode → f.sectorId.toNat = k → 1 ≤ k → k ≤ r.profile.spt → f.head.toNat = r.head →
    f.cylinder.toNat = c → (∀ w ∈ r.wanted, 1 ≤ w ∧ o.notes[w - 1]? = some .good) →
    (s.region d).state = .opened → i < (s.region d).frames.length →
    (s.region d).frame i = .filling r.cylinder r.head readers →
    ∃ t, exec (.idFieldAccepted f) s = .next t
      ∧ (t.region d).frame i = .valid r.cylinder r.head ((s.region d).validCount + 1) (o.notes.map fun n =>
          match n with
          | .good => .good
          | .bad => .bad
          | .absent | .unrecorded => .absent)
      ∧ (∀ j, j ≠ i → (t.region d).frame j = (s.region d).frame j)
      ∧ (∀ rd h, rd ∈ readers → rd.sector ∈ r.wanted → s.buffer rd.line rd.buf = some h → h.stage = .inProgress →
          h.orphan = false → h.reply = none → (∀ rd' ∈ readers, rd'.line = rd.line → rd'.buf = rd.buf → rd' = rd) →
          t.hasReply rd.line rd.buf (.done false false
            (h.body.take 4 ++ be2 (s.frameData d i r.profile rd.sector).length ++ s.frameData d i r.profile rd.sector)))
      ∧ t.channel.granted = none ∧ t.channel.state = .idle ∧ t.op d = none
      ∧ (t.drive d).queue = (s.drive d).queue.filter (fun x => x.state == .queued)
      ∧ s.OthersKept t d ∧ t.vols = s.vols ∧ t.cw = s.cw ∧ t.mem = s.mem ∧ t.cfg = s.cfg)
  ∧ (∀ (s : State) (d : DriveId) (r : Request) (o : OpRecord) (c k : Nat) (f : IdField), s.Seeking d r o c →
      o.inPass = true → o.passStart = some k → r.NamedBy f c k →
      (∀ w ∈ r.wanted, 1 ≤ w ∧ o.notes[w - 1]? = some .good) →
      (∀ bytes, r.kind = .labelRead → o.notes[0]? = some .good → areaGet (s.vol d).labelArea 1 = some bytes →
        let record := decodeLabel bytes
        let levels := (s.drive d).levels
        (quantize record levels.twoSided = none → ∃ t, exec (.idFieldAccepted f) s = .next t ∧ s.EndedTo t d
          ∧ (t.vol d).state = .foreign ∧ (t.vol d).foreign = some .unsupported ∧ (t.vol d).profile = none
          ∧ (t.vol d).label = some record.info ∧ t.regions = s.regions ∧ t.lines = s.lines ∧ t.mem = s.mem)
        ∧ (∀ q, quantize record levels.twoSided = some q → (∀ x ∈ s.left d, x.origin ≠ .volume) →
            let p := q.profile
            ∃ t, exec (.idFieldAccepted f) s = .next t
              ∧ t.channel.granted = none ∧ t.channel.state = .idle ∧ t.op d = none
              ∧ t.vol d = { s.vol d with
                  label := some record.info, wpAtDecode := levels.writeProtect, profile := some p,
                  limited := q.limited, interleaveIgnored := q.interleaveIgnored,
                  sectors := List.replicate p.used .clean, labelArea := [] }
              ∧ (∃ x, x.VolumePlaced .indexLoad 1 0 p.read s.arrival
                  ∧ x.wanted = (List.range (min p.spt p.used)).map (· + 1)
                  ∧ (p.used ≤ p.spt → (t.drive d).queue = s.left d ++ [x])
                  ∧ (p.spt < p.used → ∃ y, (t.drive d).queue = s.left d ++ [x, y]
                      ∧ y.VolumePlaced .indexLoad 1 1 p.read ((s.arrival + 1) % 65536)
                      ∧ y.wanted = (List.range (min p.spt (p.used - p.spt))).map (· + 1)))
              ∧ s.OthersKept t d ∧ t.regions = s.regions ∧ t.lines = s.lines ∧ t.mem = s.mem))
      ∧ (∀ p, r.kind = .indexLoad → (s.vol d).profile = some p →
          let more : Prop := ∃ x ∈ s.left d, x.kind = .indexLoad
          let loaded := r.wanted.foldl (fun v w => v.takeSector p true (r.head * p.spt + (w - 1))) (s.vol d)
          ∃ t, exec (.idFieldAccepted f) s = .next t ∧ s.EndedTo t d ∧ t.lines = s.lines ∧ t.mem = s.mem
            ∧ (more → t.regions = s.regions ∧ (t.vol d).state = (s.vol d).state
                ∧ ∀ w n bytes, w ∈ r.wanted → n < 256 → n / p.perSector = r.head * p.spt + (w - 1) →
                    areaGet (s.vol d).staging (n / p.perSector) = some bytes →
                    (t.vol d).entry n = decodeEntry (slice bytes (32 * (n % p.perSector)) 32))
            ∧ (¬ more → t.vol d = loaded.mountEnd p
                ∧ ((t.vol d).state = .mounted ∨ (t.vol d).state = .readOnly)
                ∧ ((s.region d).state = .shut → (s.region d).failed = false →
                    (t.region d).state = .opened
                    ∧ (t.region d).frames = List.replicate (min 9 (32768 / (p.spt * p.bytes))) .empty))))
  ∧ (∀ (s : State) (d : DriveId) (r : Request) (o : OpRecord), s.Serving d r o → s.channel.gate = none →
      o.inPass = false → o.step = .three → o.pulses = 2 →
      (r.kind = .labelRead → o.notes[0]? ≠ some .good → ∃ t, exec .attemptEnd s = .next t ∧ s.EndedTo t d
        ∧ (t.vol d).state = .foreign ∧ (t.vol d).foreign = some .unreadable ∧ (t.vol d).profile = none
        ∧ (t.vol d).label = (s.vol d).label ∧ t.regions = s.regions ∧ t.lines = s.lines ∧ t.mem = s.mem
        ∧ t.channel.failed = min 65535 (s.channel.failed + o.failing.length))
      ∧ (∀ p, r.kind = .indexLoad → (s.vol d).profile = some p → (∀ w ∈ r.wanted, 1 ≤ w) →
        (∀ x ∈ s.left d, x.kind ≠ .indexLoad) →
        ∃ t, exec .attemptEnd s = .next t ∧ s.EndedTo t d ∧ t.lines = s.lines ∧ t.mem = s.mem
          ∧ t.vol d = Volume.mountEnd (r.wanted.foldl (fun v w =>
              v.takeSector p (decide (o.notes[w - 1]? = some .good)) (r.head * p.spt + (w - 1))) (s.vol d)) p
          ∧ t.channel.failed = min 65535 (s.channel.failed + o.failing.length)))
  ∧ (∀ (s : State) (d : DriveId) (r : Request) (o : OpRecord) (k : Nat) (f : DataField), s.Awaiting d r o k →
      (r.kind = .labelRead ∨ r.kind = .indexLoad) → o.inPass = false → o.step = .two → r.GoodData f →
      ∃ t, exec (.dataFieldRead f) s = .next t ∧ s.Taught t d o ∧ t.mem = s.mem)
  ∧ (∀ (s : State) (d : DriveId) (r : Request) (o : OpRecord) (c : Nat) (f : IdField), s.Seeking d r o c → o.step = .three →
      o.wrong = 1 → IdAccepted f → r.FitsId f → f.cylinder.toNat ≠ c → o.writes = 0 → s.channel.state ≠ .writeCheck →
      (r.kind = .labelRead → ∃ t, exec (.idFieldAccepted f) s = .next t ∧ s.EndedTo t d
        ∧ (t.vol d).state = .foreign ∧ (t.vol d).foreign = some .unreadable ∧ (t.vol d).profile = none
        ∧ (t.vol d).label = (s.vol d).label ∧ t.regions = s.regions ∧ t.lines = s.lines ∧ t.mem = s.mem
        ∧ t.channel.seekFaults = min 65535 (s.channel.seekFaults + 1))
      ∧ (∀ p, r.kind = .indexLoad → (s.vol d).profile = some p →
        let loaded := r.wanted.foldl (fun v w => v.takeSector p false (r.head * p.spt + (w - 1))) (s.vol d)
        let more : Prop := ∃ x ∈ s.left d, x.kind = .indexLoad
        ∃ t, exec (.idFieldAccepted f) s = .next t ∧ s.EndedTo t d ∧ t.lines = s.lines ∧ t.mem = s.mem
          ∧ t.channel.seekFaults = min 65535 (s.channel.seekFaults + 1)
          ∧ (more → t.vol d = loaded ∧ t.regions = s.regions)
          ∧ (¬ more → t.vol d = loaded.mountEnd p)))
  ∧ (∀ (s : State) (d : DriveId) (r : Request) (o : OpRecord) (i : Nat), s.Serving d r o → r.kind = .fill i →
      s.channel.gate = none → o.writes = 0 → s.channel.state ≠ .writeCheck →
      let zone := zoneOf s.cfg.innerStart r.cylinder
      let preferred := (s.margin d zone).preferred
      let again (o' : OpRecord) (x : Strobe) : State :=
        (s.setOp d (some { o' with zone := zone, strobe := x, wrong := 0, pulses := 0, awaiting := none,
                                   acted := false })).chanState .search
      let close (o : OpRecord) : OpRecord :=
        let notes := o.notes.map fun n => if n = .unrecorded then .absent else n
        { o with notes := notes, inPass := false, awaiting := none,
                 failing := r.wanted.filter fun w => notes[w - 1]? != some .good }
      let closed : OpRecord := close o
      let read (n : List SectorNote) (k : Nat) : List SectorNote := n.set (k - 1) .good
      let failed (n : List SectorNote) (k : Nat) : List SectorNote :=
        if n[k - 1]? = some .good then n else n.set (k - 1) .bad
      (∀ f c k, s.Seeking d r o c → r.NamedBy f c k →
        (o.inPass = true → o.passStart = none → exec (.idFieldAccepted f) s = .next ((s.setOp d (some
            { o with wrong := 0, passStart := some k, awaiting := some k })).chanState .read))
        ∧ (∀ x, o.inPass = true → o.passStart = some x → x ≠ k →
            exec (.idFieldAccepted f) s = .next (s.setOp d (some
              { o with wrong := 0, awaiting := if o.notes[k - 1]? = some .good then none else some k })))
        ∧ (o.inPass = true → o.passStart = some k → o.step = .initial → closed.failing ≠ [] →
            exec (.idFieldAccepted f) s = .next (again { closed with step := .one } preferred))
        ∧ (o.inPass = true → o.passStart = some k → closed.failing = [] → ∃ t, exec (.idFieldAccepted f) s = .next t
            ∧ s.FillEnds t d r i closed.notes o.recovered 0 ∧ t.mem = s.mem)
        ∧ (o.inPass = false → exec (.idFieldAccepted f) s = .next
            (if k ∈ o.failing then (s.setOp d (some { o with wrong := 0, awaiting := some k })).chanState .read
             else s.setOp d (some { o with wrong := 0 }))))
      ∧ (∀ f k, s.Awaiting d r o k → 1 ≤ k →
        (r.GoodData f → ∃ t, exec (.dataFieldRead f) s = .next t
          ∧ (s.memoryCanonical → s.StoredAt t d i r.profile k f.bytes)
          ∧ (o.inPass = true → o.step = .initial → o.failing = [] → t = { s with mem := t.mem }.setOp d (some
              { o with awaiting := none, notes := read o.notes k }))
          ∧ (o.inPass = false →
              let left := o.failing.filter (· != k)
              let recovered := if o.step.recovers then o.recovered ++ [k] else o.recovered
              t.channel.recovered = (if o.step.recovers then min 65535 (s.channel.recovered + 1) else s.channel.recovered)
              ∧ (o.step ≠ .two → ∀ e z, t.margin e z = s.margin e z) ∧ (o.step = .two → s.Taught t d o)
              ∧ (left ≠ [] → t.channel.state = .search ∧ t.channel.granted = some d
                  ∧ (let o' : OpRecord :=
                      { o with awaiting := none, notes := read o.notes k, failing := left, recovered := recovered }
                     t.op d = some (if o.step = .two then o'.taught (s.margin d o.zone) else o'))
                  ∧ t = { s with mem := t.mem, channel := t.channel })
              ∧ (left = [] → s.FillEnds t d r i (read o.notes k) recovered 0)))
        ∧ (let missed :=
             let u := s.setOp d (some { o with awaiting := none, notes := failed o.notes k })
             if o.inPass then u else u.chanState .search
           (r.BadData f → exec (.dataFieldRead f) s = .next missed) ∧ exec .dataWindowExpired s = .next missed))
      ∧ (∀ f c k k', s.Awaiting d r o k → 1 ≤ k → (s.drive d).pos.cylinder = some c → r.NamedBy f c k' →
        let o1 := { o with notes := failed o.notes k, wrong := 0 }
        let closed := close o1
        (∀ x, o.inPass = true → o.passStart = some x → x ≠ k' → exec (.idFieldAccepted f) s = .next (s.setOp d (some
            { o1 with awaiting := if o1.notes[k' - 1]? = some .good then none else some k' })))
        ∧ (o.inPass = true → o.passStart = some k' → o.step = .initial → closed.failing ≠ [] →
            exec (.idFieldAccepted f) s = .next (again { closed with step := .one } preferred))
        ∧ (o.inPass = true → o.passStart = some k' → closed.failing = [] → ∃ t, exec (.idFieldAccepted f) s = .next t
            ∧ s.FillEnds t d r i closed.notes o.recovered 0 ∧ t.mem = s.mem)
        ∧ (o.inPass = false → exec (.idFieldAccepted f) s = .next
            (if k' ∈ o.failing then (s.setOp d (some { o1 with awaiting := some k' })).chanState .read
             else (s.setOp d (some { o1 with awaiting := none })).chanState .search)))
      ∧ (∀ cut, o.pulses = 2 → (o.awaiting = none → cut = o) →
        (∀ k, o.awaiting = some k → cut = { o with awaiting := none, notes := failed o.notes k }) →
        let closed := close cut
        (o.inPass = true → o.step = .initial → closed.failing ≠ [] →
            exec .attemptEnd s = .next (again { closed with step := .one } preferred))
        ∧ (o.inPass = true → closed.failing = [] → ∃ t, exec .attemptEnd s = .next t
            ∧ s.FillEnds t d r i closed.notes o.recovered 0 ∧ t.mem = s.mem)
        ∧ (∀ x before later, o.inPass = false → [Strobe.normal, .early, .late] = before ++ x :: later →
            s.cfg.allows x = true →
            (o.step = .one → x ≠ preferred → (∀ y ∈ before, y = preferred ∨ s.cfg.allows y = false) →
              exec .attemptEnd s = .next (again { cut with step := .two, basePref := preferred } x))
            ∧ (∀ tried mid, o.step = .two → x ≠ o.basePref → before = tried ++ o.strobe :: mid →
              (∀ y ∈ mid, y = o.basePref ∨ s.cfg.allows y = false) →
              exec .attemptEnd s = .next (again { cut with step := .two } x)))
        ∧ (o.inPass = false → (o.step = .one ∧ ∀ y, s.cfg.allows y = true → y = preferred) ∨
              (o.step = .two ∧ ∃ tried later, [Strobe.normal, .early, .late] = tried ++ o.strobe :: later
                ∧ ∀ y ∈ later, y = o.basePref ∨ s.cfg.allows y = false) →
            ∃ t o', exec .attemptEnd s = .next t ∧ t.op d = some o'
              ∧ o' = { cut with step := .three, basePref := o'.basePref }
              ∧ t.channel.granted = none ∧ t.channel.state = .idle
              ∧ (t.drive d).selected = some { r with state := .recalWait } ∧ s.OthersKept t d ∧ t.lines = s.lines
              ∧ t.mem = s.mem)
        ∧ (o.inPass = false → o.step = .three → ∃ t, exec .attemptEnd s = .next t
            ∧ s.FillEnds t d r i cut.notes o.recovered o.failing.length ∧ t.mem = s.mem))
      ∧ (∀ f c, s.Seeking d r o c → o.wrong = 1 → IdAccepted f → r.FitsId f → f.cylinder.toNat ≠ c →
        (∀ o', o.step ≠ .three → o' = (if o.inPass then closed else o) → (o.inPass = true → closed.failing ≠ []) →
            ∃ t, exec (.idFieldAccepted f) s = .next t ∧ t.op d = some { o' with step := .three, wrong := 2 }
              ∧ t.channel.granted = none ∧ t.channel.state = .idle
              ∧ (t.drive d).selected = some { r with state := .recalWait } ∧ s.OthersKept t d ∧ t.lines = s.lines
              ∧ t.mem = s.mem ∧ t.channel.seekFaults = min 65535 (s.channel.seekFaults + 1))
        ∧ (o.inPass = true → o.step ≠ .three → closed.failing = [] → ∃ t, exec (.idFieldAccepted f) s = .next t
            ∧ s.FillEnds t d r i closed.notes o.recovered 0 ∧ t.mem = s.mem)
        ∧ (o.step = .three → ∃ t, exec (.idFieldAccepted f) s = .next t ∧ s.EndedTo t d ∧ t.mem = s.mem
            ∧ t.channel.seekFaults = min 65535 (s.channel.seekFaults + 1)
            ∧ ((s.region d).state ≠ .closing → (t.region d).state = (s.region d).state
                ∧ (i < (s.region d).frames.length → (t.region d).frame i = .empty)
                ∧ ∀ j, j ≠ i → (t.region d).frame j = (s.region d).frame j)
            ∧ ((s.region d).state = .closing → (t.region d).state = .shut ∧ (t.region d).frames = [])
            ∧ ∀ rd h, rd ∈ ((s.region d).frame i).readers → s.InProgress rd.line rd.buf h → h.reply = none →
                t.hasReply rd.line rd.buf (.failed .seekFault))))

/-- The write-inhibit guard (R64, R66, R67): the supply below the inhibit threshold makes the state INHIBIT with the
long-inhibit timer started; at the restore level the restore timer starts, below it again it stops; its expiry makes the
state NORMAL; the long-inhibit timer begins the long inhibit, which takes from the queues every write that is QUEUED, or
SELECTED with its drive asking, and discards what was kept of it: a desk WRITE is answered FAILED POWER-LOW; the sector of an
INDEX-WRITE is DIRTY and its waiters wait on, uncovered; a PREPARE VOLUME is answered FAILED POWER-LOW and its volume is
FOREIGN, INCOMPLETE (R126). Any other write in service, and every read, stays. A write of any of these kinds that comes to
wait while it lasts is withdrawn so at that moment (`State.PowerLow`): where its drive would ask the channel, at the end of
its move by SETTLE_TIMER_END or by HEAD_LOAD_TIMER_END, or at a SELECTION with the head ON-TRACK at its cylinder; at the
moment of opening its gate, in the ID search or, of a format, at the index pulse, also to format again; where a failed check
would lead to a rewrite (a data field of another length fails it: DESIGN CHOICE, unsafe: log 25); and where the gate of a
format has closed. The supply falling below the threshold leaves an open gate open to finish its field (R64); that of a
format caught between its fields closes, by another statement. -/
def Obligations.TheSupplyGuardsWrites : Prop :=
  (∀ s : State, s.part.extReset = false →
    (∀ us, s.channel.inhibit = false →
      (∀ d r o g, s.Serving d r o → s.channel.state = .format → s.channel.gate = some g → r.InField g us) →
      exec (.supplyBelowInhibit us) s = .next (s.modChannel fun c =>
        { c with supply := .belowInhibit, restoreTimer := false, inhibit := true, longTimer := true,
                 inhibits := min 65535 (c.inhibits + 1) }))
    ∧ (∀ us, s.channel.inhibit = true → exec (.supplyBelowInhibit us) s = .next (s.modChannel fun c =>
        { c with supply := .belowInhibit, restoreTimer := false }))
    ∧ (s.channel.supply ≠ .restored → exec .supplyAtRestore s = .next (s.modChannel fun c =>
        { c with supply := .restored, restoreTimer := c.inhibit }))
    ∧ (s.channel.supply = .restored → exec .supplyBelowRestore s = .next (s.modChannel fun c =>
        { c with supply := .between, restoreTimer := false }))
    ∧ (s.channel.inhibit = true → s.channel.restoreTimer = true → ∃ t, exec .restoreTimerExpiry s = .next t
        ∧ t.channel = { s.channel with inhibit := false, longInhibit := false, restoreTimer := false, longTimer := false }
        ∧ (∀ d, ∃ q, t.drive d = { s.drive d with queue := (s.drive d).queue ++ q } ∧ q.length ≤ 2
            ∧ ((s.vol d).dirtySet = [] → q = []) ∧ ∀ r ∈ q, ∃ j, r.kind = .indexWrite j)
        ∧ t = { s with drives := t.drives, vols := t.vols, channel := t.channel, arrival := t.arrival })
    ∧ (s.channel.inhibit = true → s.channel.longTimer = true → ∃ t, exec .longInhibitTimerExpiry s = .next t
        ∧ t.channel.longInhibit = true ∧ t.channel.longTimer = false ∧ t.channel.inhibit = true
        ∧ (∀ d, ∀ r ∈ (t.drive d).queue, r.kind.isWrite = true → r.state ≠ .queued ∧ r ∈ (s.drive d).queue)
        ∧ (∀ d, ∀ r ∈ (s.drive d).queue, r.kind.isWrite = false → (r.state = .queued ∨ (s.drive d).selected = some r) →
            r ∈ (t.drive d).queue)
        ∧ (∀ d r l b x h, r ∈ (s.drive d).queue → r.state = .queued → r.origin = .desk l → r.kind = .write b x →
            s.buffer l b = some h → h.stage = .inProgress → h.orphan = false → h.reply = none →
            t.hasReply l b (.failed .powerLow))
        ∧ (∀ d r, s.HeldBack d r → r ∉ (t.drive d).queue
            ∧ (∀ l b x h, r.origin = .desk l → r.kind = .write b x → s.InProgress l b h → h.reply = none →
                t.hasReply l b (.failed .powerLow))
            ∧ (r.state ≠ .queued → t.op d = none ∧ t.channel.asking.get d = false))
        ∧ (∀ d, (∀ r, (s.drive d).selected = some r → ¬ s.HeldBack d r) →
            t.op d = s.op d ∧ t.channel.asking.get d = s.channel.asking.get d ∧ (t.drive d).selected = (s.drive d).selected)
        ∧ (∀ d, (∀ x ∈ (s.drive d).queue, x.kind ≠ .formatTrack ∧ ∀ st, x.kind ≠ .prepWrite st) →
            t.vol d = { s.vol d with
              sectors := (t.vol d).sectors, waiters := (t.vol d).waiters, heldGranule := (t.vol d).heldGranule }
            ∧ ∀ r j, s.HeldBack d r → r.kind = .indexWrite j →
              (j < (s.vol d).sectors.length → (t.vol d).sector j = .dirty)
              ∧ (∀ w ∈ (t.vol d).waiters, w.sector = j → w.covered = false)
              ∧ (∀ w ∈ (s.vol d).waiters, w.sector = j →
                  (∀ x y, x ∈ (s.drive d).queue → x.origin = .desk w.line → x.kind ≠ .write w.buf y) →
                  { w with covered := false } ∈ (t.vol d).waiters))
        ∧ (∀ d r l b h clamped, s.HeldBack d r → (r.kind = .formatTrack ∨ ∃ st, r.kind = .prepWrite st) →
            (s.vol d).pendingReq = some (.prepare l b clamped) → s.InProgress l b h → h.reply = none →
            t.hasReply l b (.failed .powerLow)
            ∧ (t.vol d).state = .foreign ∧ (t.vol d).foreign = some .incomplete ∧ (t.vol d).profile = none
            ∧ (t.vol d).pendingReq = none ∧ (t.vol d).labelArea = [] ∧ (t.vol d).staging = [])
        ∧ t.cfg = s.cfg ∧ t.cw = s.cw ∧ t.mem = s.mem ∧ t.part = s.part))
  ∧ (∀ (s : State) (d : DriveId) (r : Request), s.channel.longInhibit = true →
      (r.WritesSector ∨ r.kind = .formatTrack) →
      ((s.drive d).selected = some r →
        let p := (s.drive d).pos
        let arrived (i : Instr) : Prop := ∃ t, exec i s = .next t ∧ s.PowerLow t d r ∧ (t.drive d).queue = s.left d
          ∧ (t.drive d).pos.state = .onTrack ∧ t.channel.granted = s.channel.granted ∧ t.channel.gate = s.channel.gate
        (p.state = .settling → p.settleTimer ≠ none → p.loadTimer = none → arrived (.settleTimerEnd d))
        ∧ (p.loadTimer ≠ none → (p.state = .settling ∧ p.settleTimer = none ∨ p.state = .moving ∧ p.stepTimer = none) →
            arrived (.headLoadTimerEnd d)))
      ∧ (∀ us k, (s.drive d).maySelect = true → (s.drive d).pos.state = .onTrack →
          (s.drive d).pos.cylinder = some r.cylinder → s.Chosen d us r.cylinder k r →
          ∃ t, exec (.selection d us) s = .next t ∧ s.PowerLow t d r
            ∧ (t.drive d).queue = ((s.drive d).queue.take k).map (fun x =>
                if x.passed < s.cfg.bypass then { x with passed := x.passed + 1 } else x) ++ (s.drive d).queue.drop (k + 1)
            ∧ (t.drive d).pos = { (s.drive d).pos with unload := 0 })
      ∧ (∀ o c k f, s.Seeking d r o c → s.channel.state = .search → s.channel.inhibit = true →
          (s.drive d).levels.writeProtect = false → s.part.drainOver = false → r.WritesSector → r.sectorId = some k →
          o.acted = false → r.NamedBy f c k →
          ∃ t, exec (.idFieldAccepted f) s = .next t ∧ s.PowerLow t d r ∧ s.EndedTo t d)
      ∧ (∀ o i, s.CheckFails d r o i → s.channel.inhibit = true → o.writes < 2 → r.WritesSector →
          ∃ t, exec i s = .next t ∧ s.PowerLow t d r ∧ s.EndedTo t d)
      ∧ (∀ o us, s.Serving d r o → r.kind = .formatTrack → s.part.extReset = false → (s.drive d).condition = .ready →
          s.channel.inhibit = true → s.part.drainOver = false →
          let ends (i : Instr) : Prop := ∃ t, exec i s = .next t ∧ s.PowerLow t d r ∧ s.EndedTo t d
          (s.channel.gate = none → (s.drive d).levels.writeProtect = false →
            (s.channel.state = .search
              ∨ s.channel.state = .writeCheck ∧ ¬ o.CheckedGood r.profile.spt ∧ o.writes < 2) → ends (.indexPulse d us))
          ∧ (s.channel.state = .format → s.channel.gate ≠ none → ends (.indexPulse d us) ∧ ends .formatFieldFinished)))

/-! ### What every step keeps -/

/-- No write gate opens while the state is INHIBIT or the drive asserts WRITE-PROTECT, nor on any drive but the granted one
(R64, R33, R44): if a step leaves a gate open that was not open before it, the state after is NORMAL, the channel is granted
to a drive, that drive's WRITE-PROTECT is deasserted and the drain timer has not expired (DEDUCED, unsafe: log 24). -/
def Obligations.NoGateOpensUnderInhibit : Prop :=
  ∀ s t : State, step s = .next t → s.channel.gate = none → t.channel.gate ≠ none →
    t.channel.inhibit = false ∧ ∃ d, t.channel.granted = some d ∧ (t.drive d).levels.writeProtect = false
      ∧ t.part.drainOver = false

/-- Every step keeps the bounds the spec promises: a pattern step below the period (R81), at most 6 claims of a line and
32 in all (R154), at most twelve desk and two volume places held in a queue (R71). Every step keeps the buffer memory in
its canonical form, and the queues of FAULTED drives to what R38 and R39 leave there: LABEL-READs, index-load FILLs and
INDEX-WRITEs, all QUEUED. -/
def Obligations.BoundsAreKeptByEveryStep : Prop :=
  (∀ s t : State, step s = .next t →
      (s.stepsBelowPeriod → t.stepsBelowPeriod) ∧ (s.claimsBounded → t.claimsBounded) ∧ (s.queuesBounded → t.queuesBounded))
  ∧ (∀ s t : State, step s = .next t → s.memoryCanonical → t.memoryCanonical)
  ∧ (∀ s t : State, step s = .next t → s.faultedQueues → t.faultedQueues)

/-- Every step keeps every positioner as Table 2-3 gives its states: the head loaded or loading exactly in MOVING, SETTLING
and ON-TRACK, the cylinder absent exactly in UNKNOWN and RECALIBRATING. -/
def Obligations.PositionersStayLegal : Prop :=
  ∀ s t : State, step s = .next t → s.positionersLegal → t.positionersLegal

/-- Every step keeps every line unit's reply order as R175 to R177 give it. -/
def Obligations.ReplyOrdersStayOrderly : Prop :=
  ∀ s t : State, step s = .next t → s.linesOrderly → t.linesOrderly

/-- Every step keeps a line without its desk quiet: no claim, no watch, no flag, no reply, and only orphans at the owners
(R159, R167, R180). -/
def Obligations.AbsentLinesStayQuiet : Prop :=
  ∀ s t : State, step s = .next t → s.absentLinesQuiet → t.absentLinesQuiet

/-- The state after reset, with the inputs and straps of log 5 (DESIGN CHOICE, unsafe), meets every one of these promises. -/
def Obligations.ResetMeetsEveryPromise : Prop := State.reset.Safe

/-! ### Records and fields (Chapters 1 and 11) -/

/-- What is recorded reads back (R197, R13, R8, R9, R171): an index entry with its figures in range (a DAMAGED one too,
though R197 never writes its state code), a label record, a field with the check written over it, and a frame, whose sum is
good and whose tag, code and body are those sent. -/
def Obligations.RecordsReadBackAsWritten : Prop :=
  (∀ e : Entry, (e.state = .live ∨ e.state = .retired ∨ e.state = .damaged) → e.decoded = true → e.slug.length ≤ 12 →
      (∀ c ∈ e.slug, c ≠ 0#8) → e.basket < 16 → e.priority < 4 → e.length < 2 ^ 21 → e.day < 2 ^ 9 → e.minute < 2 ^ 11 →
      e.version < 256 → e.author < 8 → e.extents.length ≤ 4 → (∀ x ∈ e.extents, x.first < 4096 ∧ x.count < 4096) →
      decodeEntry (encodeEntry e) = e ∧ (encodeEntry e).length = 32)
  ∧ decodeEntry (encodeEntry freeEntry) = freeEntry
  ∧ (∀ (i : LabelInfo) (p : Profile), i.name.length = 8 → i.serial < 65536 → i.day < 65536 → i.minute < 65536 →
      p.sizeCode < 256 → p.spt < 256 → p.sides < 256 → p.interleave < 256 → p.skew < 256 → p.indexSectors < 256 →
      p.granule < 256 →
      decodeLabel (encodeLabel i p) =
        { info := i, recording := recordingCode p.recording, sizeCode := p.sizeCode, spt := p.spt, sides := p.sides,
          interleave := p.interleave, skew := p.skew, indexSectors := p.indexSectors, granule := p.granule })
  ∧ (∀ bytes : List Byte, checkGood bytes (checkOf bytes) = true
      ∧ ∀ c, checkGood bytes c = true → c = checkOf bytes)
  ∧ ∀ (tag code : Byte) (body : List Byte), body.length ≤ 1098 →
      let bs := (frameOf tag code body).drop 1
      (frameOf tag code body).head? = some 0xC3#8 ∧ bs.length = body.length + 5
      ∧ frameLength bs = body.length + 2 ∧ lengthOk (frameLength bs) = true ∧ frameGood bs = true
      ∧ frameTag bs = tag ∧ frameCode bs = code ∧ frameBody bs = body

/-- Quantization (R115, R124 item 4): what it gives is a profile whose spt is at most the largest of its recording and size
code (Table 1-1; for MFM with size code 0, which that table does not list, a free constant: DESIGN CHOICE, safe: log 19),
one-sided on a one-sided diskette, and is unchanged when quantized again; without a change there is no note. -/
def Obligations.QuantizedLabelsNeedNoNotes : Prop :=
  ∀ (r : LabelRecord) (two : Bool) (q : Quantized), quantize r two = some q →
    let p := q.profile
    let again : LabelRecord :=
      { info := r.info, recording := recordingCode p.recording, sizeCode := p.sizeCode, spt := p.spt, sides := p.sides,
        interleave := p.interleave, skew := p.skew, indexSectors := p.indexSectors, granule := p.granule }
    quantize again two = some { profile := p, limited := false, interleaveIgnored := false, changed := false }
    ∧ 1 ≤ p.spt ∧ (∃ mx, maxSpt p.recording p.sizeCode = some mx ∧ p.spt ≤ mx) ∧ (p.sides = 1 ∨ p.sides = 2)
    ∧ (two = false → p.sides = 1) ∧ 1 ≤ p.granule ∧ p.granule ≤ 16 ∧ p.skew < p.spt
    ∧ (p.interleave = 1 ∨ Nat.gcd p.interleave p.spt = 1)
    ∧ 1 ≤ p.indexSectors ∧ p.indexSectors ≤ p.sides * p.spt

/-- The end of a mount (R116 to R118): with no read-only reason the volume is MOUNTED, and every granule of its data area
is either in the free set or in exactly one extent of exactly one story; with one it is READ-ONLY with an empty free set. -/
def Obligations.MountedIndexPartitionsTheGranules : Prop :=
  ∀ (v : Volume) (p : Profile),
    let t := v.mountEnd p
    let stories := t.entries.toList.filter Entry.isStory
    let held (g : Nat) : Nat := (stories.map fun e => (extentGranules e.extents).count g).sum
    (t.hasReason = false → t.state = .mounted
      ∧ ∀ g, g < p.granules → (g ∈ t.free ∧ held g = 0) ∨ (g ∉ t.free ∧ held g = 1))
    ∧ (t.hasReason = true → t.state = .readOnly ∧ t.free = [])
    ∧ (∀ e ∈ stories, entrySound p e = true)
    ∧ (t.hasReason = true ↔ t.wpReason = true ∨ t.inconsistent = true ∨ t.indexFault = true)
end

