-- ==== Sys2Proof/Laws/Memory.lean ====
section
/-! SUPPORT. The buffer memory: a write reads back, leaves every other address alone and keeps the canonical form. -/
namespace Sys2Proof.Machine

theorem Memory.wfFrom_mono (m : Memory) {a b : Nat} (h : a ≤ b) (hw : m.wfFrom b = true) : m.wfFrom a = true := by
  cases m with
  | nil => rfl
  | cons c rest =>
    simp only [Memory.wfFrom, Bool.and_eq_true, decide_eq_true_eq] at hw ⊢
    exact ⟨⟨Nat.le_trans h hw.1.1, hw.1.2⟩, hw.2⟩

/-- Every address below the first listed reads as the default. -/
theorem Memory.read_below (m : Memory) {lo a : Nat} (hw : m.wfFrom lo = true) (h : a < lo) : m.read a = memDefault := by
  induction m generalizing lo with
  | nil => rfl
  | cons c rest ih =>
    simp only [Memory.wfFrom, Bool.and_eq_true, decide_eq_true_eq] at hw
    have hne : c.1 ≠ a := by omega
    simp only [Memory.read, hne, if_false]
    exact ih hw.2 (by omega)

theorem Memory.write_wfFrom (m : Memory) (a : Nat) (v : Byte) {lo : Nat} (hw : m.wfFrom lo = true) (h : lo ≤ a) :
    (m.write a v).wfFrom lo = true := by
  induction m generalizing lo with
  | nil => by_cases hv : v = memDefault <;> simp [Memory.write, Memory.wfFrom, hv, h]
  | cons c rest ih =>
    obtain ⟨k, w⟩ := c
    have hw' := hw
    simp only [Memory.wfFrom, Bool.and_eq_true, decide_eq_true_eq] at hw
    unfold Memory.write
    split
    · split
      · exact hw'
      · next hak hv => simp [Memory.wfFrom, hv, h, hw.1.2, hw.2]; omega
    · split
      · next hak =>
        subst hak
        split
        · exact Memory.wfFrom_mono rest (by omega) hw.2
        · next hv => simp [Memory.wfFrom, hv, h, hw.2]
      · next h1 h2 =>
        simp only [Memory.wfFrom, Bool.and_eq_true, decide_eq_true_eq]
        exact ⟨hw.1, ih hw.2 (by omega)⟩

theorem Memory.write_wf (m : Memory) (a : Nat) (v : Byte) (hw : m.wf = true) : (m.write a v).wf = true :=
  m.write_wfFrom a v hw (Nat.zero_le a)

theorem Memory.writeRun_wf (bs : List Byte) : ∀ (m : Memory) (a : Nat), m.wf = true → (m.writeRun a bs).wf = true := by
  induction bs with
  | nil => intro m a h; exact h
  | cons b rest ih => intro m a h; exact ih _ _ (m.write_wf a b h)

theorem Memory.read_write_from (m : Memory) (a b : Nat) (v : Byte) {lo : Nat} (hw : m.wfFrom lo = true) :
    (m.write a v).read b = if a = b then v else m.read b := by
  induction m generalizing lo with
  | nil => by_cases hv : v = memDefault <;> by_cases hab : a = b <;> simp [Memory.write, Memory.read, hv, hab]
  | cons c rest ih =>
    obtain ⟨k, w⟩ := c
    have hw' := hw
    simp only [Memory.wfFrom, Bool.and_eq_true, decide_eq_true_eq] at hw
    unfold Memory.write
    split
    · next hak =>
      split
      · next hv =>
        by_cases hab : a = b
        · subst hab
          have := Memory.read_below ((k, w) :: rest) (lo := k) (a := a)
            (by simp [Memory.wfFrom, hw.1.2, hw.2]) hak
          simp [this, hv]
        · simp [hab]
      · by_cases hab : a = b <;> simp [Memory.read, hab]
    · split
      · next hak =>
        subst hak
        split
        · next hv =>
          by_cases hab : a = b
          · subst hab
            simp [Memory.read_below rest hw.2 (Nat.lt_succ_self a), hv]
          · simp [Memory.read, hab]
        · by_cases hab : a = b <;> simp [Memory.read, hab]
      · next h1 h2 =>
        by_cases hkb : k = b
        · subst hkb
          simp [Memory.read, h2]
        · simp [Memory.read, hkb, ih hw.2]

/-- A byte written reads back, and every other address reads as before. -/
theorem Memory.read_write (m : Memory) (a b : Nat) (v : Byte) (hw : m.wf = true) :
    (m.write a v).read b = if a = b then v else m.read b := m.read_write_from a b v hw

/-- A run written changes no byte outside it. -/
theorem Memory.read_writeRun_outside (bs : List Byte) : ∀ (m : Memory) (a b : Nat), m.wf = true →
    (b < a ∨ a + bs.length ≤ b) → (m.writeRun a bs).read b = m.read b := by
  induction bs with
  | nil => intros; rfl
  | cons x rest ih =>
    intro m a b hw h
    simp only [List.length_cons] at h
    rw [Memory.writeRun, ih _ _ _ (m.write_wf a x hw) (by omega), m.read_write a b x hw, if_neg (by omega)]

/-- A run written reads back. -/
theorem Memory.readRun_writeRun (bs : List Byte) : ∀ (m : Memory) (a : Nat), m.wf = true →
    (m.writeRun a bs).readRun a bs.length = bs := by
  induction bs with
  | nil => intros; rfl
  | cons x rest ih =>
    intro m a hw
    simp only [List.length_cons, Memory.readRun, Memory.writeRun]
    rw [ih _ _ (m.write_wf a x hw), Memory.read_writeRun_outside _ _ _ _ (m.write_wf a x hw) (by omega),
      m.read_write a a x hw, if_pos rfl]

/-- The memory after reset is in canonical form. -/
theorem State.reset_memory_wf : State.reset.mem.wf = true := rfl

end Sys2Proof.Machine
end

