-- ==== Sys2Proof/Laws/State.lean ====
section
/-! SUPPORT. The record updates of State: what each leaves alone (one lemma a field, by rfl), and what is read at the
place it changes, so that no later proof unfolds an update. -/
namespace Sys2Proof.Machine

/-! ### What is read at the place changed -/

theorem vector_get_set {α : Type} {n : Nat} (v : Vector α n) (i j : Fin n) (x : α) :
    (v.set i.val x i.isLt).get j = if i = j then x else v.get j := by
  show (v.set i.val x i.isLt)[j.val] = if i = j then x else v[j.val]
  rw [Vector.getElem_set]
  simp [Fin.ext_iff]

@[simp] theorem vector_get_replicate {α : Type} {n : Nat} (x : α) (i : Fin n) : (Vector.replicate n x).get i = x :=
  Vector.getElem_replicate i.isLt

@[simp] theorem vector_get_ofFn {α : Type} {n : Nat} (f : Fin n → α) (i : Fin n) : (Vector.ofFn f).get i = f i :=
  Vector.getElem_ofFn i.isLt

theorem State.line_modLine (s : State) (l m : Line) (f : LineUnit → LineUnit) :
    (s.modLine l f).line m = if l = m then f (s.line l) else s.line m := vector_get_set _ _ _ _

theorem State.drive_modDrive (s : State) (d e : DriveId) (f : DriveSeq → DriveSeq) :
    (s.modDrive d f).drive e = if d = e then f (s.drive d) else s.drive e := vector_get_set _ _ _ _

theorem State.vol_modVol (s : State) (d e : DriveId) (f : Volume → Volume) :
    (s.modVol d f).vol e = if d = e then f (s.vol d) else s.vol e := vector_get_set _ _ _ _

theorem State.region_modRegion (s : State) (d e : DriveId) (f : Region → Region) :
    (s.modRegion d f).region e = if d = e then f (s.region d) else s.region e := vector_get_set _ _ _ _

theorem State.op_setOp (s : State) (d e : DriveId) (o : Option OpRecord) :
    (s.setOp d o).op e = if d = e then o else s.op e := vector_get_set _ _ _ _

@[simp] theorem State.line_modLine_self (s : State) (l : Line) (f : LineUnit → LineUnit) :
    (s.modLine l f).line l = f (s.line l) := by simp [State.line_modLine]

@[simp] theorem State.line_modLine_ne (s : State) {l m : Line} (h : l ≠ m) (f : LineUnit → LineUnit) :
    (s.modLine l f).line m = s.line m := by simp [State.line_modLine, h]

@[simp] theorem State.drive_modDrive_self (s : State) (d : DriveId) (f : DriveSeq → DriveSeq) :
    (s.modDrive d f).drive d = f (s.drive d) := by simp [State.drive_modDrive]

@[simp] theorem State.drive_modDrive_ne (s : State) {d e : DriveId} (h : d ≠ e) (f : DriveSeq → DriveSeq) :
    (s.modDrive d f).drive e = s.drive e := by simp [State.drive_modDrive, h]

@[simp] theorem State.vol_modVol_self (s : State) (d : DriveId) (f : Volume → Volume) :
    (s.modVol d f).vol d = f (s.vol d) := by simp [State.vol_modVol]

@[simp] theorem State.vol_modVol_ne (s : State) {d e : DriveId} (h : d ≠ e) (f : Volume → Volume) :
    (s.modVol d f).vol e = s.vol e := by simp [State.vol_modVol, h]

@[simp] theorem State.region_modRegion_self (s : State) (d : DriveId) (f : Region → Region) :
    (s.modRegion d f).region d = f (s.region d) := by simp [State.region_modRegion]

@[simp] theorem State.region_modRegion_ne (s : State) {d e : DriveId} (h : d ≠ e) (f : Region → Region) :
    (s.modRegion d f).region e = s.region e := by simp [State.region_modRegion, h]

@[simp] theorem State.channel_modChannel (s : State) (f : Channel → Channel) :
    (s.modChannel f).channel = f s.channel := rfl

@[simp] theorem State.cw_modClaims (s : State) (f : ClaimUnit → ClaimUnit) : (s.modClaims f).cw = f s.cw := rfl

@[simp] theorem State.part_modPart (s : State) (f : Part → Part) : (s.modPart f).part = f s.part := rfl

@[simp] theorem State.op_setOp_self (s : State) (d : DriveId) (o : Option OpRecord) : (s.setOp d o).op d = o := by
  simp [State.op_setOp]

theorem State.drive_modPos (s : State) (d e : DriveId) (f : Positioner → Positioner) :
    (s.modPos d f).drive e = if d = e then { s.drive d with pos := f (s.drive d).pos } else s.drive e :=
  s.drive_modDrive d e _

theorem State.drive_modQueue (s : State) (d e : DriveId) (f : List Request → List Request) :
    (s.modQueue d f).drive e = if d = e then { s.drive d with queue := f (s.drive d).queue } else s.drive e :=
  s.drive_modDrive d e _

/-! ### Every drive, every line: what one turn keeps, all the turns keep -/

theorem State.foldl_keeps {α : Type} (P : State → Prop) (f : State → α → State) (hf : ∀ s a, P s → P (f s a)) :
    ∀ (xs : List α) (s : State), P s → P (xs.foldl f s)
  | [], _, h => h
  | x :: xs, s, h => State.foldl_keeps P f hf xs (f s x) (hf s x h)

theorem State.eachDrive_keeps (P : State → Prop) (f : State → DriveId → State) (hf : ∀ s d, P s → P (f s d)) (s : State)
    (h : P s) : P (s.eachDrive f) := State.foldl_keeps P f hf allDrives s h

theorem State.eachLine_keeps (P : State → Prop) (f : State → Line → State) (hf : ∀ s l, P s → P (f s l)) (s : State)
    (h : P s) : P (s.eachLine f) := State.foldl_keeps P f hf allLines s h

/-! ### modLine -/

@[simp] theorem State.modLine_drives (s : State) (l : Line) (f : LineUnit → LineUnit) : (s.modLine l f).drives = s.drives := rfl
@[simp] theorem State.modLine_channel (s : State) (l : Line) (f : LineUnit → LineUnit) : (s.modLine l f).channel = s.channel := rfl
@[simp] theorem State.modLine_regions (s : State) (l : Line) (f : LineUnit → LineUnit) : (s.modLine l f).regions = s.regions := rfl
@[simp] theorem State.modLine_vols (s : State) (l : Line) (f : LineUnit → LineUnit) : (s.modLine l f).vols = s.vols := rfl
@[simp] theorem State.modLine_cw (s : State) (l : Line) (f : LineUnit → LineUnit) : (s.modLine l f).cw = s.cw := rfl
@[simp] theorem State.modLine_cfg (s : State) (l : Line) (f : LineUnit → LineUnit) : (s.modLine l f).cfg = s.cfg := rfl
@[simp] theorem State.modLine_part (s : State) (l : Line) (f : LineUnit → LineUnit) : (s.modLine l f).part = s.part := rfl
@[simp] theorem State.modLine_clock (s : State) (l : Line) (f : LineUnit → LineUnit) : (s.modLine l f).clock = s.clock := rfl
@[simp] theorem State.modLine_mem (s : State) (l : Line) (f : LineUnit → LineUnit) : (s.modLine l f).mem = s.mem := rfl
@[simp] theorem State.modLine_arrival (s : State) (l : Line) (f : LineUnit → LineUnit) : (s.modLine l f).arrival = s.arrival := rfl
@[simp] theorem State.modLine_pending (s : State) (l : Line) (f : LineUnit → LineUnit) : (s.modLine l f).pending = s.pending := rfl
@[simp] theorem State.modLine_drive (s : State) (l : Line) (f : LineUnit → LineUnit) (e : DriveId) : (s.modLine l f).drive e = s.drive e := rfl
@[simp] theorem State.modLine_vol (s : State) (l : Line) (f : LineUnit → LineUnit) (e : DriveId) : (s.modLine l f).vol e = s.vol e := rfl
@[simp] theorem State.modLine_region (s : State) (l : Line) (f : LineUnit → LineUnit) (e : DriveId) : (s.modLine l f).region e = s.region e := rfl
@[simp] theorem State.modLine_op (s : State) (l : Line) (f : LineUnit → LineUnit) (e : DriveId) : (s.modLine l f).op e = s.op e := rfl

/-! ### modDrive -/

@[simp] theorem State.modDrive_lines (s : State) (d : DriveId) (f : DriveSeq → DriveSeq) : (s.modDrive d f).lines = s.lines := rfl
@[simp] theorem State.modDrive_channel (s : State) (d : DriveId) (f : DriveSeq → DriveSeq) : (s.modDrive d f).channel = s.channel := rfl
@[simp] theorem State.modDrive_regions (s : State) (d : DriveId) (f : DriveSeq → DriveSeq) : (s.modDrive d f).regions = s.regions := rfl
@[simp] theorem State.modDrive_vols (s : State) (d : DriveId) (f : DriveSeq → DriveSeq) : (s.modDrive d f).vols = s.vols := rfl
@[simp] theorem State.modDrive_cw (s : State) (d : DriveId) (f : DriveSeq → DriveSeq) : (s.modDrive d f).cw = s.cw := rfl
@[simp] theorem State.modDrive_cfg (s : State) (d : DriveId) (f : DriveSeq → DriveSeq) : (s.modDrive d f).cfg = s.cfg := rfl
@[simp] theorem State.modDrive_part (s : State) (d : DriveId) (f : DriveSeq → DriveSeq) : (s.modDrive d f).part = s.part := rfl
@[simp] theorem State.modDrive_clock (s : State) (d : DriveId) (f : DriveSeq → DriveSeq) : (s.modDrive d f).clock = s.clock := rfl
@[simp] theorem State.modDrive_mem (s : State) (d : DriveId) (f : DriveSeq → DriveSeq) : (s.modDrive d f).mem = s.mem := rfl
@[simp] theorem State.modDrive_arrival (s : State) (d : DriveId) (f : DriveSeq → DriveSeq) : (s.modDrive d f).arrival = s.arrival := rfl
@[simp] theorem State.modDrive_pending (s : State) (d : DriveId) (f : DriveSeq → DriveSeq) : (s.modDrive d f).pending = s.pending := rfl
@[simp] theorem State.modDrive_line (s : State) (d : DriveId) (f : DriveSeq → DriveSeq) (k : Line) : (s.modDrive d f).line k = s.line k := rfl
@[simp] theorem State.modDrive_vol (s : State) (d : DriveId) (f : DriveSeq → DriveSeq) (e : DriveId) : (s.modDrive d f).vol e = s.vol e := rfl
@[simp] theorem State.modDrive_region (s : State) (d : DriveId) (f : DriveSeq → DriveSeq) (e : DriveId) : (s.modDrive d f).region e = s.region e := rfl
@[simp] theorem State.modDrive_op (s : State) (d : DriveId) (f : DriveSeq → DriveSeq) (e : DriveId) : (s.modDrive d f).op e = s.op e := rfl

/-! ### modVol -/

@[simp] theorem State.modVol_lines (s : State) (d : DriveId) (f : Volume → Volume) : (s.modVol d f).lines = s.lines := rfl
@[simp] theorem State.modVol_drives (s : State) (d : DriveId) (f : Volume → Volume) : (s.modVol d f).drives = s.drives := rfl
@[simp] theorem State.modVol_channel (s : State) (d : DriveId) (f : Volume → Volume) : (s.modVol d f).channel = s.channel := rfl
@[simp] theorem State.modVol_regions (s : State) (d : DriveId) (f : Volume → Volume) : (s.modVol d f).regions = s.regions := rfl
@[simp] theorem State.modVol_cw (s : State) (d : DriveId) (f : Volume → Volume) : (s.modVol d f).cw = s.cw := rfl
@[simp] theorem State.modVol_cfg (s : State) (d : DriveId) (f : Volume → Volume) : (s.modVol d f).cfg = s.cfg := rfl
@[simp] theorem State.modVol_part (s : State) (d : DriveId) (f : Volume → Volume) : (s.modVol d f).part = s.part := rfl
@[simp] theorem State.modVol_clock (s : State) (d : DriveId) (f : Volume → Volume) : (s.modVol d f).clock = s.clock := rfl
@[simp] theorem State.modVol_mem (s : State) (d : DriveId) (f : Volume → Volume) : (s.modVol d f).mem = s.mem := rfl
@[simp] theorem State.modVol_arrival (s : State) (d : DriveId) (f : Volume → Volume) : (s.modVol d f).arrival = s.arrival := rfl
@[simp] theorem State.modVol_pending (s : State) (d : DriveId) (f : Volume → Volume) : (s.modVol d f).pending = s.pending := rfl
@[simp] theorem State.modVol_line (s : State) (d : DriveId) (f : Volume → Volume) (k : Line) : (s.modVol d f).line k = s.line k := rfl
@[simp] theorem State.modVol_drive (s : State) (d : DriveId) (f : Volume → Volume) (e : DriveId) : (s.modVol d f).drive e = s.drive e := rfl
@[simp] theorem State.modVol_region (s : State) (d : DriveId) (f : Volume → Volume) (e : DriveId) : (s.modVol d f).region e = s.region e := rfl
@[simp] theorem State.modVol_op (s : State) (d : DriveId) (f : Volume → Volume) (e : DriveId) : (s.modVol d f).op e = s.op e := rfl

/-! ### modRegion -/

@[simp] theorem State.modRegion_lines (s : State) (d : DriveId) (f : Region → Region) : (s.modRegion d f).lines = s.lines := rfl
@[simp] theorem State.modRegion_drives (s : State) (d : DriveId) (f : Region → Region) : (s.modRegion d f).drives = s.drives := rfl
@[simp] theorem State.modRegion_channel (s : State) (d : DriveId) (f : Region → Region) : (s.modRegion d f).channel = s.channel := rfl
@[simp] theorem State.modRegion_vols (s : State) (d : DriveId) (f : Region → Region) : (s.modRegion d f).vols = s.vols := rfl
@[simp] theorem State.modRegion_cw (s : State) (d : DriveId) (f : Region → Region) : (s.modRegion d f).cw = s.cw := rfl
@[simp] theorem State.modRegion_cfg (s : State) (d : DriveId) (f : Region → Region) : (s.modRegion d f).cfg = s.cfg := rfl
@[simp] theorem State.modRegion_part (s : State) (d : DriveId) (f : Region → Region) : (s.modRegion d f).part = s.part := rfl
@[simp] theorem State.modRegion_clock (s : State) (d : DriveId) (f : Region → Region) : (s.modRegion d f).clock = s.clock := rfl
@[simp] theorem State.modRegion_mem (s : State) (d : DriveId) (f : Region → Region) : (s.modRegion d f).mem = s.mem := rfl
@[simp] theorem State.modRegion_arrival (s : State) (d : DriveId) (f : Region → Region) : (s.modRegion d f).arrival = s.arrival := rfl
@[simp] theorem State.modRegion_pending (s : State) (d : DriveId) (f : Region → Region) : (s.modRegion d f).pending = s.pending := rfl
@[simp] theorem State.modRegion_line (s : State) (d : DriveId) (f : Region → Region) (k : Line) : (s.modRegion d f).line k = s.line k := rfl
@[simp] theorem State.modRegion_drive (s : State) (d : DriveId) (f : Region → Region) (e : DriveId) : (s.modRegion d f).drive e = s.drive e := rfl
@[simp] theorem State.modRegion_vol (s : State) (d : DriveId) (f : Region → Region) (e : DriveId) : (s.modRegion d f).vol e = s.vol e := rfl
@[simp] theorem State.modRegion_op (s : State) (d : DriveId) (f : Region → Region) (e : DriveId) : (s.modRegion d f).op e = s.op e := rfl

/-! ### modChannel -/

@[simp] theorem State.modChannel_lines (s : State) (f : Channel → Channel) : (s.modChannel f).lines = s.lines := rfl
@[simp] theorem State.modChannel_drives (s : State) (f : Channel → Channel) : (s.modChannel f).drives = s.drives := rfl
@[simp] theorem State.modChannel_regions (s : State) (f : Channel → Channel) : (s.modChannel f).regions = s.regions := rfl
@[simp] theorem State.modChannel_vols (s : State) (f : Channel → Channel) : (s.modChannel f).vols = s.vols := rfl
@[simp] theorem State.modChannel_cw (s : State) (f : Channel → Channel) : (s.modChannel f).cw = s.cw := rfl
@[simp] theorem State.modChannel_cfg (s : State) (f : Channel → Channel) : (s.modChannel f).cfg = s.cfg := rfl
@[simp] theorem State.modChannel_part (s : State) (f : Channel → Channel) : (s.modChannel f).part = s.part := rfl
@[simp] theorem State.modChannel_clock (s : State) (f : Channel → Channel) : (s.modChannel f).clock = s.clock := rfl
@[simp] theorem State.modChannel_mem (s : State) (f : Channel → Channel) : (s.modChannel f).mem = s.mem := rfl
@[simp] theorem State.modChannel_arrival (s : State) (f : Channel → Channel) : (s.modChannel f).arrival = s.arrival := rfl
@[simp] theorem State.modChannel_pending (s : State) (f : Channel → Channel) : (s.modChannel f).pending = s.pending := rfl
@[simp] theorem State.modChannel_line (s : State) (f : Channel → Channel) (k : Line) : (s.modChannel f).line k = s.line k := rfl
@[simp] theorem State.modChannel_drive (s : State) (f : Channel → Channel) (e : DriveId) : (s.modChannel f).drive e = s.drive e := rfl
@[simp] theorem State.modChannel_vol (s : State) (f : Channel → Channel) (e : DriveId) : (s.modChannel f).vol e = s.vol e := rfl
@[simp] theorem State.modChannel_region (s : State) (f : Channel → Channel) (e : DriveId) : (s.modChannel f).region e = s.region e := rfl

/-! ### modClaims -/

@[simp] theorem State.modClaims_lines (s : State) (f : ClaimUnit → ClaimUnit) : (s.modClaims f).lines = s.lines := rfl
@[simp] theorem State.modClaims_drives (s : State) (f : ClaimUnit → ClaimUnit) : (s.modClaims f).drives = s.drives := rfl
@[simp] theorem State.modClaims_channel (s : State) (f : ClaimUnit → ClaimUnit) : (s.modClaims f).channel = s.channel := rfl
@[simp] theorem State.modClaims_regions (s : State) (f : ClaimUnit → ClaimUnit) : (s.modClaims f).regions = s.regions := rfl
@[simp] theorem State.modClaims_vols (s : State) (f : ClaimUnit → ClaimUnit) : (s.modClaims f).vols = s.vols := rfl
@[simp] theorem State.modClaims_cfg (s : State) (f : ClaimUnit → ClaimUnit) : (s.modClaims f).cfg = s.cfg := rfl
@[simp] theorem State.modClaims_part (s : State) (f : ClaimUnit → ClaimUnit) : (s.modClaims f).part = s.part := rfl
@[simp] theorem State.modClaims_clock (s : State) (f : ClaimUnit → ClaimUnit) : (s.modClaims f).clock = s.clock := rfl
@[simp] theorem State.modClaims_mem (s : State) (f : ClaimUnit → ClaimUnit) : (s.modClaims f).mem = s.mem := rfl
@[simp] theorem State.modClaims_arrival (s : State) (f : ClaimUnit → ClaimUnit) : (s.modClaims f).arrival = s.arrival := rfl
@[simp] theorem State.modClaims_pending (s : State) (f : ClaimUnit → ClaimUnit) : (s.modClaims f).pending = s.pending := rfl
@[simp] theorem State.modClaims_line (s : State) (f : ClaimUnit → ClaimUnit) (k : Line) : (s.modClaims f).line k = s.line k := rfl
@[simp] theorem State.modClaims_drive (s : State) (f : ClaimUnit → ClaimUnit) (e : DriveId) : (s.modClaims f).drive e = s.drive e := rfl
@[simp] theorem State.modClaims_vol (s : State) (f : ClaimUnit → ClaimUnit) (e : DriveId) : (s.modClaims f).vol e = s.vol e := rfl
@[simp] theorem State.modClaims_region (s : State) (f : ClaimUnit → ClaimUnit) (e : DriveId) : (s.modClaims f).region e = s.region e := rfl
@[simp] theorem State.modClaims_op (s : State) (f : ClaimUnit → ClaimUnit) (e : DriveId) : (s.modClaims f).op e = s.op e := rfl

/-! ### modPart -/

@[simp] theorem State.modPart_lines (s : State) (f : Part → Part) : (s.modPart f).lines = s.lines := rfl
@[simp] theorem State.modPart_drives (s : State) (f : Part → Part) : (s.modPart f).drives = s.drives := rfl
@[simp] theorem State.modPart_channel (s : State) (f : Part → Part) : (s.modPart f).channel = s.channel := rfl
@[simp] theorem State.modPart_regions (s : State) (f : Part → Part) : (s.modPart f).regions = s.regions := rfl
@[simp] theorem State.modPart_vols (s : State) (f : Part → Part) : (s.modPart f).vols = s.vols := rfl
@[simp] theorem State.modPart_cw (s : State) (f : Part → Part) : (s.modPart f).cw = s.cw := rfl
@[simp] theorem State.modPart_cfg (s : State) (f : Part → Part) : (s.modPart f).cfg = s.cfg := rfl
@[simp] theorem State.modPart_clock (s : State) (f : Part → Part) : (s.modPart f).clock = s.clock := rfl
@[simp] theorem State.modPart_mem (s : State) (f : Part → Part) : (s.modPart f).mem = s.mem := rfl
@[simp] theorem State.modPart_arrival (s : State) (f : Part → Part) : (s.modPart f).arrival = s.arrival := rfl
@[simp] theorem State.modPart_pending (s : State) (f : Part → Part) : (s.modPart f).pending = s.pending := rfl
@[simp] theorem State.modPart_line (s : State) (f : Part → Part) (k : Line) : (s.modPart f).line k = s.line k := rfl
@[simp] theorem State.modPart_drive (s : State) (f : Part → Part) (e : DriveId) : (s.modPart f).drive e = s.drive e := rfl
@[simp] theorem State.modPart_vol (s : State) (f : Part → Part) (e : DriveId) : (s.modPart f).vol e = s.vol e := rfl
@[simp] theorem State.modPart_region (s : State) (f : Part → Part) (e : DriveId) : (s.modPart f).region e = s.region e := rfl
@[simp] theorem State.modPart_op (s : State) (f : Part → Part) (e : DriveId) : (s.modPart f).op e = s.op e := rfl

/-! ### modPos -/

@[simp] theorem State.modPos_lines (s : State) (d : DriveId) (f : Positioner → Positioner) : (s.modPos d f).lines = s.lines := rfl
@[simp] theorem State.modPos_channel (s : State) (d : DriveId) (f : Positioner → Positioner) : (s.modPos d f).channel = s.channel := rfl
@[simp] theorem State.modPos_regions (s : State) (d : DriveId) (f : Positioner → Positioner) : (s.modPos d f).regions = s.regions := rfl
@[simp] theorem State.modPos_vols (s : State) (d : DriveId) (f : Positioner → Positioner) : (s.modPos d f).vols = s.vols := rfl
@[simp] theorem State.modPos_cw (s : State) (d : DriveId) (f : Positioner → Positioner) : (s.modPos d f).cw = s.cw := rfl
@[simp] theorem State.modPos_cfg (s : State) (d : DriveId) (f : Positioner → Positioner) : (s.modPos d f).cfg = s.cfg := rfl
@[simp] theorem State.modPos_part (s : State) (d : DriveId) (f : Positioner → Positioner) : (s.modPos d f).part = s.part := rfl
@[simp] theorem State.modPos_clock (s : State) (d : DriveId) (f : Positioner → Positioner) : (s.modPos d f).clock = s.clock := rfl
@[simp] theorem State.modPos_mem (s : State) (d : DriveId) (f : Positioner → Positioner) : (s.modPos d f).mem = s.mem := rfl
@[simp] theorem State.modPos_arrival (s : State) (d : DriveId) (f : Positioner → Positioner) : (s.modPos d f).arrival = s.arrival := rfl
@[simp] theorem State.modPos_pending (s : State) (d : DriveId) (f : Positioner → Positioner) : (s.modPos d f).pending = s.pending := rfl
@[simp] theorem State.modPos_line (s : State) (d : DriveId) (f : Positioner → Positioner) (k : Line) : (s.modPos d f).line k = s.line k := rfl
@[simp] theorem State.modPos_vol (s : State) (d : DriveId) (f : Positioner → Positioner) (e : DriveId) : (s.modPos d f).vol e = s.vol e := rfl
@[simp] theorem State.modPos_region (s : State) (d : DriveId) (f : Positioner → Positioner) (e : DriveId) : (s.modPos d f).region e = s.region e := rfl
@[simp] theorem State.modPos_op (s : State) (d : DriveId) (f : Positioner → Positioner) (e : DriveId) : (s.modPos d f).op e = s.op e := rfl

/-! ### modQueue -/

@[simp] theorem State.modQueue_lines (s : State) (d : DriveId) (f : List Request → List Request) : (s.modQueue d f).lines = s.lines := rfl
@[simp] theorem State.modQueue_channel (s : State) (d : DriveId) (f : List Request → List Request) : (s.modQueue d f).channel = s.channel := rfl
@[simp] theorem State.modQueue_regions (s : State) (d : DriveId) (f : List Request → List Request) : (s.modQueue d f).regions = s.regions := rfl
@[simp] theorem State.modQueue_vols (s : State) (d : DriveId) (f : List Request → List Request) : (s.modQueue d f).vols = s.vols := rfl
@[simp] theorem State.modQueue_cw (s : State) (d : DriveId) (f : List Request → List Request) : (s.modQueue d f).cw = s.cw := rfl
@[simp] theorem State.modQueue_cfg (s : State) (d : DriveId) (f : List Request → List Request) : (s.modQueue d f).cfg = s.cfg := rfl
@[simp] theorem State.modQueue_part (s : State) (d : DriveId) (f : List Request → List Request) : (s.modQueue d f).part = s.part := rfl
@[simp] theorem State.modQueue_clock (s : State) (d : DriveId) (f : List Request → List Request) : (s.modQueue d f).clock = s.clock := rfl
@[simp] theorem State.modQueue_mem (s : State) (d : DriveId) (f : List Request → List Request) : (s.modQueue d f).mem = s.mem := rfl
@[simp] theorem State.modQueue_arrival (s : State) (d : DriveId) (f : List Request → List Request) : (s.modQueue d f).arrival = s.arrival := rfl
@[simp] theorem State.modQueue_pending (s : State) (d : DriveId) (f : List Request → List Request) : (s.modQueue d f).pending = s.pending := rfl
@[simp] theorem State.modQueue_line (s : State) (d : DriveId) (f : List Request → List Request) (k : Line) : (s.modQueue d f).line k = s.line k := rfl
@[simp] theorem State.modQueue_vol (s : State) (d : DriveId) (f : List Request → List Request) (e : DriveId) : (s.modQueue d f).vol e = s.vol e := rfl
@[simp] theorem State.modQueue_region (s : State) (d : DriveId) (f : List Request → List Request) (e : DriveId) : (s.modQueue d f).region e = s.region e := rfl
@[simp] theorem State.modQueue_op (s : State) (d : DriveId) (f : List Request → List Request) (e : DriveId) : (s.modQueue d f).op e = s.op e := rfl

/-! ### modSelected -/

@[simp] theorem State.modSelected_lines (s : State) (d : DriveId) (f : Request → Request) : (s.modSelected d f).lines = s.lines := rfl
@[simp] theorem State.modSelected_channel (s : State) (d : DriveId) (f : Request → Request) : (s.modSelected d f).channel = s.channel := rfl
@[simp] theorem State.modSelected_regions (s : State) (d : DriveId) (f : Request → Request) : (s.modSelected d f).regions = s.regions := rfl
@[simp] theorem State.modSelected_vols (s : State) (d : DriveId) (f : Request → Request) : (s.modSelected d f).vols = s.vols := rfl
@[simp] theorem State.modSelected_cw (s : State) (d : DriveId) (f : Request → Request) : (s.modSelected d f).cw = s.cw := rfl
@[simp] theorem State.modSelected_cfg (s : State) (d : DriveId) (f : Request → Request) : (s.modSelected d f).cfg = s.cfg := rfl
@[simp] theorem State.modSelected_part (s : State) (d : DriveId) (f : Request → Request) : (s.modSelected d f).part = s.part := rfl
@[simp] theorem State.modSelected_clock (s : State) (d : DriveId) (f : Request → Request) : (s.modSelected d f).clock = s.clock := rfl
@[simp] theorem State.modSelected_mem (s : State) (d : DriveId) (f : Request → Request) : (s.modSelected d f).mem = s.mem := rfl
@[simp] theorem State.modSelected_arrival (s : State) (d : DriveId) (f : Request → Request) : (s.modSelected d f).arrival = s.arrival := rfl
@[simp] theorem State.modSelected_pending (s : State) (d : DriveId) (f : Request → Request) : (s.modSelected d f).pending = s.pending := rfl
@[simp] theorem State.modSelected_line (s : State) (d : DriveId) (f : Request → Request) (k : Line) : (s.modSelected d f).line k = s.line k := rfl
@[simp] theorem State.modSelected_vol (s : State) (d : DriveId) (f : Request → Request) (e : DriveId) : (s.modSelected d f).vol e = s.vol e := rfl
@[simp] theorem State.modSelected_region (s : State) (d : DriveId) (f : Request → Request) (e : DriveId) : (s.modSelected d f).region e = s.region e := rfl
@[simp] theorem State.modSelected_op (s : State) (d : DriveId) (f : Request → Request) (e : DriveId) : (s.modSelected d f).op e = s.op e := rfl

/-! ### dropSelected -/

@[simp] theorem State.dropSelected_lines (s : State) (d : DriveId) : (s.dropSelected d).lines = s.lines := rfl
@[simp] theorem State.dropSelected_channel (s : State) (d : DriveId) : (s.dropSelected d).channel = s.channel := rfl
@[simp] theorem State.dropSelected_regions (s : State) (d : DriveId) : (s.dropSelected d).regions = s.regions := rfl
@[simp] theorem State.dropSelected_vols (s : State) (d : DriveId) : (s.dropSelected d).vols = s.vols := rfl
@[simp] theorem State.dropSelected_cw (s : State) (d : DriveId) : (s.dropSelected d).cw = s.cw := rfl
@[simp] theorem State.dropSelected_cfg (s : State) (d : DriveId) : (s.dropSelected d).cfg = s.cfg := rfl
@[simp] theorem State.dropSelected_part (s : State) (d : DriveId) : (s.dropSelected d).part = s.part := rfl
@[simp] theorem State.dropSelected_clock (s : State) (d : DriveId) : (s.dropSelected d).clock = s.clock := rfl
@[simp] theorem State.dropSelected_mem (s : State) (d : DriveId) : (s.dropSelected d).mem = s.mem := rfl
@[simp] theorem State.dropSelected_arrival (s : State) (d : DriveId) : (s.dropSelected d).arrival = s.arrival := rfl
@[simp] theorem State.dropSelected_pending (s : State) (d : DriveId) : (s.dropSelected d).pending = s.pending := rfl
@[simp] theorem State.dropSelected_line (s : State) (d : DriveId) (k : Line) : (s.dropSelected d).line k = s.line k := rfl
@[simp] theorem State.dropSelected_vol (s : State) (d : DriveId) (e : DriveId) : (s.dropSelected d).vol e = s.vol e := rfl
@[simp] theorem State.dropSelected_region (s : State) (d : DriveId) (e : DriveId) : (s.dropSelected d).region e = s.region e := rfl
@[simp] theorem State.dropSelected_op (s : State) (d : DriveId) (e : DriveId) : (s.dropSelected d).op e = s.op e := rfl

/-! ### setOp -/

@[simp] theorem State.setOp_lines (s : State) (d : DriveId) (o : Option OpRecord) : (s.setOp d o).lines = s.lines := rfl
@[simp] theorem State.setOp_drives (s : State) (d : DriveId) (o : Option OpRecord) : (s.setOp d o).drives = s.drives := rfl
@[simp] theorem State.setOp_regions (s : State) (d : DriveId) (o : Option OpRecord) : (s.setOp d o).regions = s.regions := rfl
@[simp] theorem State.setOp_vols (s : State) (d : DriveId) (o : Option OpRecord) : (s.setOp d o).vols = s.vols := rfl
@[simp] theorem State.setOp_cw (s : State) (d : DriveId) (o : Option OpRecord) : (s.setOp d o).cw = s.cw := rfl
@[simp] theorem State.setOp_cfg (s : State) (d : DriveId) (o : Option OpRecord) : (s.setOp d o).cfg = s.cfg := rfl
@[simp] theorem State.setOp_part (s : State) (d : DriveId) (o : Option OpRecord) : (s.setOp d o).part = s.part := rfl
@[simp] theorem State.setOp_clock (s : State) (d : DriveId) (o : Option OpRecord) : (s.setOp d o).clock = s.clock := rfl
@[simp] theorem State.setOp_mem (s : State) (d : DriveId) (o : Option OpRecord) : (s.setOp d o).mem = s.mem := rfl
@[simp] theorem State.setOp_arrival (s : State) (d : DriveId) (o : Option OpRecord) : (s.setOp d o).arrival = s.arrival := rfl
@[simp] theorem State.setOp_pending (s : State) (d : DriveId) (o : Option OpRecord) : (s.setOp d o).pending = s.pending := rfl
@[simp] theorem State.setOp_line (s : State) (d : DriveId) (o : Option OpRecord) (k : Line) : (s.setOp d o).line k = s.line k := rfl
@[simp] theorem State.setOp_drive (s : State) (d : DriveId) (o : Option OpRecord) (e : DriveId) : (s.setOp d o).drive e = s.drive e := rfl
@[simp] theorem State.setOp_vol (s : State) (d : DriveId) (o : Option OpRecord) (e : DriveId) : (s.setOp d o).vol e = s.vol e := rfl
@[simp] theorem State.setOp_region (s : State) (d : DriveId) (o : Option OpRecord) (e : DriveId) : (s.setOp d o).region e = s.region e := rfl

/-! ### setAsking -/

@[simp] theorem State.setAsking_lines (s : State) (d : DriveId) (b : Bool) : (s.setAsking d b).lines = s.lines := rfl
@[simp] theorem State.setAsking_drives (s : State) (d : DriveId) (b : Bool) : (s.setAsking d b).drives = s.drives := rfl
@[simp] theorem State.setAsking_regions (s : State) (d : DriveId) (b : Bool) : (s.setAsking d b).regions = s.regions := rfl
@[simp] theorem State.setAsking_vols (s : State) (d : DriveId) (b : Bool) : (s.setAsking d b).vols = s.vols := rfl
@[simp] theorem State.setAsking_cw (s : State) (d : DriveId) (b : Bool) : (s.setAsking d b).cw = s.cw := rfl
@[simp] theorem State.setAsking_cfg (s : State) (d : DriveId) (b : Bool) : (s.setAsking d b).cfg = s.cfg := rfl
@[simp] theorem State.setAsking_part (s : State) (d : DriveId) (b : Bool) : (s.setAsking d b).part = s.part := rfl
@[simp] theorem State.setAsking_clock (s : State) (d : DriveId) (b : Bool) : (s.setAsking d b).clock = s.clock := rfl
@[simp] theorem State.setAsking_mem (s : State) (d : DriveId) (b : Bool) : (s.setAsking d b).mem = s.mem := rfl
@[simp] theorem State.setAsking_arrival (s : State) (d : DriveId) (b : Bool) : (s.setAsking d b).arrival = s.arrival := rfl
@[simp] theorem State.setAsking_pending (s : State) (d : DriveId) (b : Bool) : (s.setAsking d b).pending = s.pending := rfl
@[simp] theorem State.setAsking_line (s : State) (d : DriveId) (b : Bool) (k : Line) : (s.setAsking d b).line k = s.line k := rfl
@[simp] theorem State.setAsking_drive (s : State) (d : DriveId) (b : Bool) (e : DriveId) : (s.setAsking d b).drive e = s.drive e := rfl
@[simp] theorem State.setAsking_vol (s : State) (d : DriveId) (b : Bool) (e : DriveId) : (s.setAsking d b).vol e = s.vol e := rfl
@[simp] theorem State.setAsking_region (s : State) (d : DriveId) (b : Bool) (e : DriveId) : (s.setAsking d b).region e = s.region e := rfl

/-! ### setSweepFlag -/

@[simp] theorem State.setSweepFlag_lines (s : State) (d : DriveId) (b : Bool) : (s.setSweepFlag d b).lines = s.lines := rfl
@[simp] theorem State.setSweepFlag_drives (s : State) (d : DriveId) (b : Bool) : (s.setSweepFlag d b).drives = s.drives := rfl
@[simp] theorem State.setSweepFlag_regions (s : State) (d : DriveId) (b : Bool) : (s.setSweepFlag d b).regions = s.regions := rfl
@[simp] theorem State.setSweepFlag_vols (s : State) (d : DriveId) (b : Bool) : (s.setSweepFlag d b).vols = s.vols := rfl
@[simp] theorem State.setSweepFlag_cw (s : State) (d : DriveId) (b : Bool) : (s.setSweepFlag d b).cw = s.cw := rfl
@[simp] theorem State.setSweepFlag_cfg (s : State) (d : DriveId) (b : Bool) : (s.setSweepFlag d b).cfg = s.cfg := rfl
@[simp] theorem State.setSweepFlag_part (s : State) (d : DriveId) (b : Bool) : (s.setSweepFlag d b).part = s.part := rfl
@[simp] theorem State.setSweepFlag_clock (s : State) (d : DriveId) (b : Bool) : (s.setSweepFlag d b).clock = s.clock := rfl
@[simp] theorem State.setSweepFlag_mem (s : State) (d : DriveId) (b : Bool) : (s.setSweepFlag d b).mem = s.mem := rfl
@[simp] theorem State.setSweepFlag_arrival (s : State) (d : DriveId) (b : Bool) : (s.setSweepFlag d b).arrival = s.arrival := rfl
@[simp] theorem State.setSweepFlag_pending (s : State) (d : DriveId) (b : Bool) : (s.setSweepFlag d b).pending = s.pending := rfl
@[simp] theorem State.setSweepFlag_line (s : State) (d : DriveId) (b : Bool) (k : Line) : (s.setSweepFlag d b).line k = s.line k := rfl
@[simp] theorem State.setSweepFlag_drive (s : State) (d : DriveId) (b : Bool) (e : DriveId) : (s.setSweepFlag d b).drive e = s.drive e := rfl
@[simp] theorem State.setSweepFlag_vol (s : State) (d : DriveId) (b : Bool) (e : DriveId) : (s.setSweepFlag d b).vol e = s.vol e := rfl
@[simp] theorem State.setSweepFlag_region (s : State) (d : DriveId) (b : Bool) (e : DriveId) : (s.setSweepFlag d b).region e = s.region e := rfl

/-! ### setMargin -/

@[simp] theorem State.setMargin_lines (s : State) (d : DriveId) (z : Zone) (m : Margin) : (s.setMargin d z m).lines = s.lines := rfl
@[simp] theorem State.setMargin_drives (s : State) (d : DriveId) (z : Zone) (m : Margin) : (s.setMargin d z m).drives = s.drives := rfl
@[simp] theorem State.setMargin_regions (s : State) (d : DriveId) (z : Zone) (m : Margin) : (s.setMargin d z m).regions = s.regions := rfl
@[simp] theorem State.setMargin_vols (s : State) (d : DriveId) (z : Zone) (m : Margin) : (s.setMargin d z m).vols = s.vols := rfl
@[simp] theorem State.setMargin_cw (s : State) (d : DriveId) (z : Zone) (m : Margin) : (s.setMargin d z m).cw = s.cw := rfl
@[simp] theorem State.setMargin_cfg (s : State) (d : DriveId) (z : Zone) (m : Margin) : (s.setMargin d z m).cfg = s.cfg := rfl
@[simp] theorem State.setMargin_part (s : State) (d : DriveId) (z : Zone) (m : Margin) : (s.setMargin d z m).part = s.part := rfl
@[simp] theorem State.setMargin_clock (s : State) (d : DriveId) (z : Zone) (m : Margin) : (s.setMargin d z m).clock = s.clock := rfl
@[simp] theorem State.setMargin_mem (s : State) (d : DriveId) (z : Zone) (m : Margin) : (s.setMargin d z m).mem = s.mem := rfl
@[simp] theorem State.setMargin_arrival (s : State) (d : DriveId) (z : Zone) (m : Margin) : (s.setMargin d z m).arrival = s.arrival := rfl
@[simp] theorem State.setMargin_pending (s : State) (d : DriveId) (z : Zone) (m : Margin) : (s.setMargin d z m).pending = s.pending := rfl
@[simp] theorem State.setMargin_line (s : State) (d : DriveId) (z : Zone) (m : Margin) (k : Line) : (s.setMargin d z m).line k = s.line k := rfl
@[simp] theorem State.setMargin_drive (s : State) (d : DriveId) (z : Zone) (m : Margin) (e : DriveId) : (s.setMargin d z m).drive e = s.drive e := rfl
@[simp] theorem State.setMargin_vol (s : State) (d : DriveId) (z : Zone) (m : Margin) (e : DriveId) : (s.setMargin d z m).vol e = s.vol e := rfl
@[simp] theorem State.setMargin_region (s : State) (d : DriveId) (z : Zone) (m : Margin) (e : DriveId) : (s.setMargin d z m).region e = s.region e := rfl

/-! ### setEntry -/

@[simp] theorem State.setEntry_lines (s : State) (d : DriveId) (h : Nat) (x : Entry) : (s.setEntry d h x).lines = s.lines := rfl
@[simp] theorem State.setEntry_drives (s : State) (d : DriveId) (h : Nat) (x : Entry) : (s.setEntry d h x).drives = s.drives := rfl
@[simp] theorem State.setEntry_channel (s : State) (d : DriveId) (h : Nat) (x : Entry) : (s.setEntry d h x).channel = s.channel := rfl
@[simp] theorem State.setEntry_regions (s : State) (d : DriveId) (h : Nat) (x : Entry) : (s.setEntry d h x).regions = s.regions := rfl
@[simp] theorem State.setEntry_cw (s : State) (d : DriveId) (h : Nat) (x : Entry) : (s.setEntry d h x).cw = s.cw := rfl
@[simp] theorem State.setEntry_cfg (s : State) (d : DriveId) (h : Nat) (x : Entry) : (s.setEntry d h x).cfg = s.cfg := rfl
@[simp] theorem State.setEntry_part (s : State) (d : DriveId) (h : Nat) (x : Entry) : (s.setEntry d h x).part = s.part := rfl
@[simp] theorem State.setEntry_clock (s : State) (d : DriveId) (h : Nat) (x : Entry) : (s.setEntry d h x).clock = s.clock := rfl
@[simp] theorem State.setEntry_mem (s : State) (d : DriveId) (h : Nat) (x : Entry) : (s.setEntry d h x).mem = s.mem := rfl
@[simp] theorem State.setEntry_arrival (s : State) (d : DriveId) (h : Nat) (x : Entry) : (s.setEntry d h x).arrival = s.arrival := rfl
@[simp] theorem State.setEntry_pending (s : State) (d : DriveId) (h : Nat) (x : Entry) : (s.setEntry d h x).pending = s.pending := rfl
@[simp] theorem State.setEntry_line (s : State) (d : DriveId) (h : Nat) (x : Entry) (k : Line) : (s.setEntry d h x).line k = s.line k := rfl
@[simp] theorem State.setEntry_drive (s : State) (d : DriveId) (h : Nat) (x : Entry) (e : DriveId) : (s.setEntry d h x).drive e = s.drive e := rfl
@[simp] theorem State.setEntry_region (s : State) (d : DriveId) (h : Nat) (x : Entry) (e : DriveId) : (s.setEntry d h x).region e = s.region e := rfl
@[simp] theorem State.setEntry_op (s : State) (d : DriveId) (h : Nat) (x : Entry) (e : DriveId) : (s.setEntry d h x).op e = s.op e := rfl

/-! ### setSector -/

@[simp] theorem State.setSector_lines (s : State) (d : DriveId) (j : Nat) (x : SectorState) : (s.setSector d j x).lines = s.lines := rfl
@[simp] theorem State.setSector_drives (s : State) (d : DriveId) (j : Nat) (x : SectorState) : (s.setSector d j x).drives = s.drives := rfl
@[simp] theorem State.setSector_channel (s : State) (d : DriveId) (j : Nat) (x : SectorState) : (s.setSector d j x).channel = s.channel := rfl
@[simp] theorem State.setSector_regions (s : State) (d : DriveId) (j : Nat) (x : SectorState) : (s.setSector d j x).regions = s.regions := rfl
@[simp] theorem State.setSector_cw (s : State) (d : DriveId) (j : Nat) (x : SectorState) : (s.setSector d j x).cw = s.cw := rfl
@[simp] theorem State.setSector_cfg (s : State) (d : DriveId) (j : Nat) (x : SectorState) : (s.setSector d j x).cfg = s.cfg := rfl
@[simp] theorem State.setSector_part (s : State) (d : DriveId) (j : Nat) (x : SectorState) : (s.setSector d j x).part = s.part := rfl
@[simp] theorem State.setSector_clock (s : State) (d : DriveId) (j : Nat) (x : SectorState) : (s.setSector d j x).clock = s.clock := rfl
@[simp] theorem State.setSector_mem (s : State) (d : DriveId) (j : Nat) (x : SectorState) : (s.setSector d j x).mem = s.mem := rfl
@[simp] theorem State.setSector_arrival (s : State) (d : DriveId) (j : Nat) (x : SectorState) : (s.setSector d j x).arrival = s.arrival := rfl
@[simp] theorem State.setSector_pending (s : State) (d : DriveId) (j : Nat) (x : SectorState) : (s.setSector d j x).pending = s.pending := rfl
@[simp] theorem State.setSector_line (s : State) (d : DriveId) (j : Nat) (x : SectorState) (k : Line) : (s.setSector d j x).line k = s.line k := rfl
@[simp] theorem State.setSector_drive (s : State) (d : DriveId) (j : Nat) (x : SectorState) (e : DriveId) : (s.setSector d j x).drive e = s.drive e := rfl
@[simp] theorem State.setSector_region (s : State) (d : DriveId) (j : Nat) (x : SectorState) (e : DriveId) : (s.setSector d j x).region e = s.region e := rfl
@[simp] theorem State.setSector_op (s : State) (d : DriveId) (j : Nat) (x : SectorState) (e : DriveId) : (s.setSector d j x).op e = s.op e := rfl

/-! ### answer -/

@[simp] theorem State.answer_drives (s : State) (l : Line) (b : BufId) (r : Reply) : (s.answer l b r).drives = s.drives := rfl
@[simp] theorem State.answer_channel (s : State) (l : Line) (b : BufId) (r : Reply) : (s.answer l b r).channel = s.channel := rfl
@[simp] theorem State.answer_regions (s : State) (l : Line) (b : BufId) (r : Reply) : (s.answer l b r).regions = s.regions := rfl
@[simp] theorem State.answer_vols (s : State) (l : Line) (b : BufId) (r : Reply) : (s.answer l b r).vols = s.vols := rfl
@[simp] theorem State.answer_cw (s : State) (l : Line) (b : BufId) (r : Reply) : (s.answer l b r).cw = s.cw := rfl
@[simp] theorem State.answer_cfg (s : State) (l : Line) (b : BufId) (r : Reply) : (s.answer l b r).cfg = s.cfg := rfl
@[simp] theorem State.answer_part (s : State) (l : Line) (b : BufId) (r : Reply) : (s.answer l b r).part = s.part := rfl
@[simp] theorem State.answer_clock (s : State) (l : Line) (b : BufId) (r : Reply) : (s.answer l b r).clock = s.clock := rfl
@[simp] theorem State.answer_mem (s : State) (l : Line) (b : BufId) (r : Reply) : (s.answer l b r).mem = s.mem := rfl
@[simp] theorem State.answer_arrival (s : State) (l : Line) (b : BufId) (r : Reply) : (s.answer l b r).arrival = s.arrival := rfl
@[simp] theorem State.answer_pending (s : State) (l : Line) (b : BufId) (r : Reply) : (s.answer l b r).pending = s.pending := rfl
@[simp] theorem State.answer_drive (s : State) (l : Line) (b : BufId) (r : Reply) (e : DriveId) : (s.answer l b r).drive e = s.drive e := rfl
@[simp] theorem State.answer_vol (s : State) (l : Line) (b : BufId) (r : Reply) (e : DriveId) : (s.answer l b r).vol e = s.vol e := rfl
@[simp] theorem State.answer_region (s : State) (l : Line) (b : BufId) (r : Reply) (e : DriveId) : (s.answer l b r).region e = s.region e := rfl
@[simp] theorem State.answer_op (s : State) (l : Line) (b : BufId) (r : Reply) (e : DriveId) : (s.answer l b r).op e = s.op e := rfl

/-! ### markTaken -/

@[simp] theorem State.markTaken_drives (s : State) (l : Line) (b : BufId) : (s.markTaken l b).drives = s.drives := rfl
@[simp] theorem State.markTaken_channel (s : State) (l : Line) (b : BufId) : (s.markTaken l b).channel = s.channel := rfl
@[simp] theorem State.markTaken_regions (s : State) (l : Line) (b : BufId) : (s.markTaken l b).regions = s.regions := rfl
@[simp] theorem State.markTaken_vols (s : State) (l : Line) (b : BufId) : (s.markTaken l b).vols = s.vols := rfl
@[simp] theorem State.markTaken_cw (s : State) (l : Line) (b : BufId) : (s.markTaken l b).cw = s.cw := rfl
@[simp] theorem State.markTaken_cfg (s : State) (l : Line) (b : BufId) : (s.markTaken l b).cfg = s.cfg := rfl
@[simp] theorem State.markTaken_part (s : State) (l : Line) (b : BufId) : (s.markTaken l b).part = s.part := rfl
@[simp] theorem State.markTaken_clock (s : State) (l : Line) (b : BufId) : (s.markTaken l b).clock = s.clock := rfl
@[simp] theorem State.markTaken_mem (s : State) (l : Line) (b : BufId) : (s.markTaken l b).mem = s.mem := rfl
@[simp] theorem State.markTaken_arrival (s : State) (l : Line) (b : BufId) : (s.markTaken l b).arrival = s.arrival := rfl
@[simp] theorem State.markTaken_pending (s : State) (l : Line) (b : BufId) : (s.markTaken l b).pending = s.pending := rfl
@[simp] theorem State.markTaken_drive (s : State) (l : Line) (b : BufId) (e : DriveId) : (s.markTaken l b).drive e = s.drive e := rfl
@[simp] theorem State.markTaken_vol (s : State) (l : Line) (b : BufId) (e : DriveId) : (s.markTaken l b).vol e = s.vol e := rfl
@[simp] theorem State.markTaken_region (s : State) (l : Line) (b : BufId) (e : DriveId) : (s.markTaken l b).region e = s.region e := rfl
@[simp] theorem State.markTaken_op (s : State) (l : Line) (b : BufId) (e : DriveId) : (s.markTaken l b).op e = s.op e := rfl

/-! ### place -/

@[simp] theorem State.place_lines (s : State) (d : DriveId) (r : Request) : (s.place d r).lines = s.lines := rfl
@[simp] theorem State.place_channel (s : State) (d : DriveId) (r : Request) : (s.place d r).channel = s.channel := rfl
@[simp] theorem State.place_regions (s : State) (d : DriveId) (r : Request) : (s.place d r).regions = s.regions := rfl
@[simp] theorem State.place_vols (s : State) (d : DriveId) (r : Request) : (s.place d r).vols = s.vols := rfl
@[simp] theorem State.place_cw (s : State) (d : DriveId) (r : Request) : (s.place d r).cw = s.cw := rfl
@[simp] theorem State.place_cfg (s : State) (d : DriveId) (r : Request) : (s.place d r).cfg = s.cfg := rfl
@[simp] theorem State.place_part (s : State) (d : DriveId) (r : Request) : (s.place d r).part = s.part := rfl
@[simp] theorem State.place_clock (s : State) (d : DriveId) (r : Request) : (s.place d r).clock = s.clock := rfl
@[simp] theorem State.place_mem (s : State) (d : DriveId) (r : Request) : (s.place d r).mem = s.mem := rfl
@[simp] theorem State.place_pending (s : State) (d : DriveId) (r : Request) : (s.place d r).pending = s.pending := rfl
@[simp] theorem State.place_line (s : State) (d : DriveId) (r : Request) (k : Line) : (s.place d r).line k = s.line k := rfl
@[simp] theorem State.place_vol (s : State) (d : DriveId) (r : Request) (e : DriveId) : (s.place d r).vol e = s.vol e := rfl
@[simp] theorem State.place_region (s : State) (d : DriveId) (r : Request) (e : DriveId) : (s.place d r).region e = s.region e := rfl
@[simp] theorem State.place_op (s : State) (d : DriveId) (r : Request) (e : DriveId) : (s.place d r).op e = s.op e := rfl

/-! ### refusePlace -/

@[simp] theorem State.refusePlace_channel (s : State) (d : DriveId) (l : Line) (b : BufId) : (s.refusePlace d l b).channel = s.channel := rfl
@[simp] theorem State.refusePlace_regions (s : State) (d : DriveId) (l : Line) (b : BufId) : (s.refusePlace d l b).regions = s.regions := rfl
@[simp] theorem State.refusePlace_vols (s : State) (d : DriveId) (l : Line) (b : BufId) : (s.refusePlace d l b).vols = s.vols := rfl
@[simp] theorem State.refusePlace_cw (s : State) (d : DriveId) (l : Line) (b : BufId) : (s.refusePlace d l b).cw = s.cw := rfl
@[simp] theorem State.refusePlace_cfg (s : State) (d : DriveId) (l : Line) (b : BufId) : (s.refusePlace d l b).cfg = s.cfg := rfl
@[simp] theorem State.refusePlace_part (s : State) (d : DriveId) (l : Line) (b : BufId) : (s.refusePlace d l b).part = s.part := rfl
@[simp] theorem State.refusePlace_clock (s : State) (d : DriveId) (l : Line) (b : BufId) : (s.refusePlace d l b).clock = s.clock := rfl
@[simp] theorem State.refusePlace_mem (s : State) (d : DriveId) (l : Line) (b : BufId) : (s.refusePlace d l b).mem = s.mem := rfl
@[simp] theorem State.refusePlace_arrival (s : State) (d : DriveId) (l : Line) (b : BufId) : (s.refusePlace d l b).arrival = s.arrival := rfl
@[simp] theorem State.refusePlace_pending (s : State) (d : DriveId) (l : Line) (b : BufId) : (s.refusePlace d l b).pending = s.pending := rfl
@[simp] theorem State.refusePlace_vol (s : State) (d : DriveId) (l : Line) (b : BufId) (e : DriveId) : (s.refusePlace d l b).vol e = s.vol e := rfl
@[simp] theorem State.refusePlace_region (s : State) (d : DriveId) (l : Line) (b : BufId) (e : DriveId) : (s.refusePlace d l b).region e = s.region e := rfl
@[simp] theorem State.refusePlace_op (s : State) (d : DriveId) (l : Line) (b : BufId) (e : DriveId) : (s.refusePlace d l b).op e = s.op e := rfl

/-! ### raiseEvent -/

@[simp] theorem State.raiseEvent_lines (s : State) (x : EventKind) (d : DriveId) (h g : Nat) (c : Line) : (s.raiseEvent x d h g c).lines = s.lines := rfl
@[simp] theorem State.raiseEvent_drives (s : State) (x : EventKind) (d : DriveId) (h g : Nat) (c : Line) : (s.raiseEvent x d h g c).drives = s.drives := rfl
@[simp] theorem State.raiseEvent_channel (s : State) (x : EventKind) (d : DriveId) (h g : Nat) (c : Line) : (s.raiseEvent x d h g c).channel = s.channel := rfl
@[simp] theorem State.raiseEvent_regions (s : State) (x : EventKind) (d : DriveId) (h g : Nat) (c : Line) : (s.raiseEvent x d h g c).regions = s.regions := rfl
@[simp] theorem State.raiseEvent_vols (s : State) (x : EventKind) (d : DriveId) (h g : Nat) (c : Line) : (s.raiseEvent x d h g c).vols = s.vols := rfl
@[simp] theorem State.raiseEvent_cfg (s : State) (x : EventKind) (d : DriveId) (h g : Nat) (c : Line) : (s.raiseEvent x d h g c).cfg = s.cfg := rfl
@[simp] theorem State.raiseEvent_part (s : State) (x : EventKind) (d : DriveId) (h g : Nat) (c : Line) : (s.raiseEvent x d h g c).part = s.part := rfl
@[simp] theorem State.raiseEvent_clock (s : State) (x : EventKind) (d : DriveId) (h g : Nat) (c : Line) : (s.raiseEvent x d h g c).clock = s.clock := rfl
@[simp] theorem State.raiseEvent_mem (s : State) (x : EventKind) (d : DriveId) (h g : Nat) (c : Line) : (s.raiseEvent x d h g c).mem = s.mem := rfl
@[simp] theorem State.raiseEvent_arrival (s : State) (x : EventKind) (d : DriveId) (h g : Nat) (c : Line) : (s.raiseEvent x d h g c).arrival = s.arrival := rfl
@[simp] theorem State.raiseEvent_pending (s : State) (x : EventKind) (d : DriveId) (h g : Nat) (c : Line) : (s.raiseEvent x d h g c).pending = s.pending := rfl
@[simp] theorem State.raiseEvent_line (s : State) (x : EventKind) (d : DriveId) (h g : Nat) (c : Line) (k : Line) : (s.raiseEvent x d h g c).line k = s.line k := rfl
@[simp] theorem State.raiseEvent_drive (s : State) (x : EventKind) (d : DriveId) (h g : Nat) (c : Line) (e : DriveId) : (s.raiseEvent x d h g c).drive e = s.drive e := rfl
@[simp] theorem State.raiseEvent_vol (s : State) (x : EventKind) (d : DriveId) (h g : Nat) (c : Line) (e : DriveId) : (s.raiseEvent x d h g c).vol e = s.vol e := rfl
@[simp] theorem State.raiseEvent_region (s : State) (x : EventKind) (d : DriveId) (h g : Nat) (c : Line) (e : DriveId) : (s.raiseEvent x d h g c).region e = s.region e := rfl
@[simp] theorem State.raiseEvent_op (s : State) (x : EventKind) (d : DriveId) (h g : Nat) (c : Line) (e : DriveId) : (s.raiseEvent x d h g c).op e = s.op e := rfl

/-! ### freeClaim -/

@[simp] theorem State.freeClaim_lines (s : State) (d : DriveId) (h : Nat) (c : Line) : (s.freeClaim d h c).lines = s.lines := rfl
@[simp] theorem State.freeClaim_drives (s : State) (d : DriveId) (h : Nat) (c : Line) : (s.freeClaim d h c).drives = s.drives := rfl
@[simp] theorem State.freeClaim_channel (s : State) (d : DriveId) (h : Nat) (c : Line) : (s.freeClaim d h c).channel = s.channel := rfl
@[simp] theorem State.freeClaim_regions (s : State) (d : DriveId) (h : Nat) (c : Line) : (s.freeClaim d h c).regions = s.regions := rfl
@[simp] theorem State.freeClaim_vols (s : State) (d : DriveId) (h : Nat) (c : Line) : (s.freeClaim d h c).vols = s.vols := rfl
@[simp] theorem State.freeClaim_cfg (s : State) (d : DriveId) (h : Nat) (c : Line) : (s.freeClaim d h c).cfg = s.cfg := rfl
@[simp] theorem State.freeClaim_part (s : State) (d : DriveId) (h : Nat) (c : Line) : (s.freeClaim d h c).part = s.part := rfl
@[simp] theorem State.freeClaim_clock (s : State) (d : DriveId) (h : Nat) (c : Line) : (s.freeClaim d h c).clock = s.clock := rfl
@[simp] theorem State.freeClaim_mem (s : State) (d : DriveId) (h : Nat) (c : Line) : (s.freeClaim d h c).mem = s.mem := rfl
@[simp] theorem State.freeClaim_arrival (s : State) (d : DriveId) (h : Nat) (c : Line) : (s.freeClaim d h c).arrival = s.arrival := rfl
@[simp] theorem State.freeClaim_pending (s : State) (d : DriveId) (h : Nat) (c : Line) : (s.freeClaim d h c).pending = s.pending := rfl
@[simp] theorem State.freeClaim_line (s : State) (d : DriveId) (h : Nat) (c : Line) (k : Line) : (s.freeClaim d h c).line k = s.line k := rfl
@[simp] theorem State.freeClaim_drive (s : State) (d : DriveId) (h : Nat) (c : Line) (e : DriveId) : (s.freeClaim d h c).drive e = s.drive e := rfl
@[simp] theorem State.freeClaim_vol (s : State) (d : DriveId) (h : Nat) (c : Line) (e : DriveId) : (s.freeClaim d h c).vol e = s.vol e := rfl
@[simp] theorem State.freeClaim_region (s : State) (d : DriveId) (h : Nat) (c : Line) (e : DriveId) : (s.freeClaim d h c).region e = s.region e := rfl
@[simp] theorem State.freeClaim_op (s : State) (d : DriveId) (h : Nat) (c : Line) (e : DriveId) : (s.freeClaim d h c).op e = s.op e := rfl

/-! ### await -/

@[simp] theorem State.await_lines (s : State) (d : DriveId) (w : Waiter) : (s.await d w).lines = s.lines := rfl
@[simp] theorem State.await_drives (s : State) (d : DriveId) (w : Waiter) : (s.await d w).drives = s.drives := rfl
@[simp] theorem State.await_channel (s : State) (d : DriveId) (w : Waiter) : (s.await d w).channel = s.channel := rfl
@[simp] theorem State.await_regions (s : State) (d : DriveId) (w : Waiter) : (s.await d w).regions = s.regions := rfl
@[simp] theorem State.await_cw (s : State) (d : DriveId) (w : Waiter) : (s.await d w).cw = s.cw := rfl
@[simp] theorem State.await_cfg (s : State) (d : DriveId) (w : Waiter) : (s.await d w).cfg = s.cfg := rfl
@[simp] theorem State.await_part (s : State) (d : DriveId) (w : Waiter) : (s.await d w).part = s.part := rfl
@[simp] theorem State.await_clock (s : State) (d : DriveId) (w : Waiter) : (s.await d w).clock = s.clock := rfl
@[simp] theorem State.await_mem (s : State) (d : DriveId) (w : Waiter) : (s.await d w).mem = s.mem := rfl
@[simp] theorem State.await_arrival (s : State) (d : DriveId) (w : Waiter) : (s.await d w).arrival = s.arrival := rfl
@[simp] theorem State.await_pending (s : State) (d : DriveId) (w : Waiter) : (s.await d w).pending = s.pending := rfl
@[simp] theorem State.await_line (s : State) (d : DriveId) (w : Waiter) (k : Line) : (s.await d w).line k = s.line k := rfl
@[simp] theorem State.await_drive (s : State) (d : DriveId) (w : Waiter) (e : DriveId) : (s.await d w).drive e = s.drive e := rfl
@[simp] theorem State.await_region (s : State) (d : DriveId) (w : Waiter) (e : DriveId) : (s.await d w).region e = s.region e := rfl
@[simp] theorem State.await_op (s : State) (d : DriveId) (w : Waiter) (e : DriveId) : (s.await d w).op e = s.op e := rfl

/-! ### putFrame -/

@[simp] theorem State.putFrame_lines (s : State) (d : DriveId) (i : Nat) (p : ReadProfile) (j : Nat) (data : List Byte) : (s.putFrame d i p j data).lines = s.lines := rfl
@[simp] theorem State.putFrame_drives (s : State) (d : DriveId) (i : Nat) (p : ReadProfile) (j : Nat) (data : List Byte) : (s.putFrame d i p j data).drives = s.drives := rfl
@[simp] theorem State.putFrame_channel (s : State) (d : DriveId) (i : Nat) (p : ReadProfile) (j : Nat) (data : List Byte) : (s.putFrame d i p j data).channel = s.channel := rfl
@[simp] theorem State.putFrame_regions (s : State) (d : DriveId) (i : Nat) (p : ReadProfile) (j : Nat) (data : List Byte) : (s.putFrame d i p j data).regions = s.regions := rfl
@[simp] theorem State.putFrame_vols (s : State) (d : DriveId) (i : Nat) (p : ReadProfile) (j : Nat) (data : List Byte) : (s.putFrame d i p j data).vols = s.vols := rfl
@[simp] theorem State.putFrame_cw (s : State) (d : DriveId) (i : Nat) (p : ReadProfile) (j : Nat) (data : List Byte) : (s.putFrame d i p j data).cw = s.cw := rfl
@[simp] theorem State.putFrame_cfg (s : State) (d : DriveId) (i : Nat) (p : ReadProfile) (j : Nat) (data : List Byte) : (s.putFrame d i p j data).cfg = s.cfg := rfl
@[simp] theorem State.putFrame_part (s : State) (d : DriveId) (i : Nat) (p : ReadProfile) (j : Nat) (data : List Byte) : (s.putFrame d i p j data).part = s.part := rfl
@[simp] theorem State.putFrame_clock (s : State) (d : DriveId) (i : Nat) (p : ReadProfile) (j : Nat) (data : List Byte) : (s.putFrame d i p j data).clock = s.clock := rfl
@[simp] theorem State.putFrame_arrival (s : State) (d : DriveId) (i : Nat) (p : ReadProfile) (j : Nat) (data : List Byte) : (s.putFrame d i p j data).arrival = s.arrival := rfl
@[simp] theorem State.putFrame_pending (s : State) (d : DriveId) (i : Nat) (p : ReadProfile) (j : Nat) (data : List Byte) : (s.putFrame d i p j data).pending = s.pending := rfl
@[simp] theorem State.putFrame_line (s : State) (d : DriveId) (i : Nat) (p : ReadProfile) (j : Nat) (data : List Byte) (k : Line) : (s.putFrame d i p j data).line k = s.line k := rfl
@[simp] theorem State.putFrame_drive (s : State) (d : DriveId) (i : Nat) (p : ReadProfile) (j : Nat) (data : List Byte) (e : DriveId) : (s.putFrame d i p j data).drive e = s.drive e := rfl
@[simp] theorem State.putFrame_vol (s : State) (d : DriveId) (i : Nat) (p : ReadProfile) (j : Nat) (data : List Byte) (e : DriveId) : (s.putFrame d i p j data).vol e = s.vol e := rfl
@[simp] theorem State.putFrame_region (s : State) (d : DriveId) (i : Nat) (p : ReadProfile) (j : Nat) (data : List Byte) (e : DriveId) : (s.putFrame d i p j data).region e = s.region e := rfl
@[simp] theorem State.putFrame_op (s : State) (d : DriveId) (i : Nat) (p : ReadProfile) (j : Nat) (data : List Byte) (e : DriveId) : (s.putFrame d i p j data).op e = s.op e := rfl

/-! ### countHit -/

@[simp] theorem State.countHit_lines (s : State) (d : DriveId) : (s.countHit d).lines = s.lines := rfl
@[simp] theorem State.countHit_drives (s : State) (d : DriveId) : (s.countHit d).drives = s.drives := rfl
@[simp] theorem State.countHit_channel (s : State) (d : DriveId) : (s.countHit d).channel = s.channel := rfl
@[simp] theorem State.countHit_vols (s : State) (d : DriveId) : (s.countHit d).vols = s.vols := rfl
@[simp] theorem State.countHit_cw (s : State) (d : DriveId) : (s.countHit d).cw = s.cw := rfl
@[simp] theorem State.countHit_cfg (s : State) (d : DriveId) : (s.countHit d).cfg = s.cfg := rfl
@[simp] theorem State.countHit_part (s : State) (d : DriveId) : (s.countHit d).part = s.part := rfl
@[simp] theorem State.countHit_clock (s : State) (d : DriveId) : (s.countHit d).clock = s.clock := rfl
@[simp] theorem State.countHit_mem (s : State) (d : DriveId) : (s.countHit d).mem = s.mem := rfl
@[simp] theorem State.countHit_arrival (s : State) (d : DriveId) : (s.countHit d).arrival = s.arrival := rfl
@[simp] theorem State.countHit_pending (s : State) (d : DriveId) : (s.countHit d).pending = s.pending := rfl
@[simp] theorem State.countHit_line (s : State) (d : DriveId) (k : Line) : (s.countHit d).line k = s.line k := rfl
@[simp] theorem State.countHit_drive (s : State) (d : DriveId) (e : DriveId) : (s.countHit d).drive e = s.drive e := rfl
@[simp] theorem State.countHit_vol (s : State) (d : DriveId) (e : DriveId) : (s.countHit d).vol e = s.vol e := rfl
@[simp] theorem State.countHit_op (s : State) (d : DriveId) (e : DriveId) : (s.countHit d).op e = s.op e := rfl

/-! ### chanState -/

@[simp] theorem State.chanState_lines (s : State) (x : ChanState) : (s.chanState x).lines = s.lines := rfl
@[simp] theorem State.chanState_drives (s : State) (x : ChanState) : (s.chanState x).drives = s.drives := rfl
@[simp] theorem State.chanState_regions (s : State) (x : ChanState) : (s.chanState x).regions = s.regions := rfl
@[simp] theorem State.chanState_vols (s : State) (x : ChanState) : (s.chanState x).vols = s.vols := rfl
@[simp] theorem State.chanState_cw (s : State) (x : ChanState) : (s.chanState x).cw = s.cw := rfl
@[simp] theorem State.chanState_cfg (s : State) (x : ChanState) : (s.chanState x).cfg = s.cfg := rfl
@[simp] theorem State.chanState_part (s : State) (x : ChanState) : (s.chanState x).part = s.part := rfl
@[simp] theorem State.chanState_clock (s : State) (x : ChanState) : (s.chanState x).clock = s.clock := rfl
@[simp] theorem State.chanState_mem (s : State) (x : ChanState) : (s.chanState x).mem = s.mem := rfl
@[simp] theorem State.chanState_arrival (s : State) (x : ChanState) : (s.chanState x).arrival = s.arrival := rfl
@[simp] theorem State.chanState_pending (s : State) (x : ChanState) : (s.chanState x).pending = s.pending := rfl
@[simp] theorem State.chanState_line (s : State) (x : ChanState) (k : Line) : (s.chanState x).line k = s.line k := rfl
@[simp] theorem State.chanState_drive (s : State) (x : ChanState) (e : DriveId) : (s.chanState x).drive e = s.drive e := rfl
@[simp] theorem State.chanState_vol (s : State) (x : ChanState) (e : DriveId) : (s.chanState x).vol e = s.vol e := rfl
@[simp] theorem State.chanState_region (s : State) (x : ChanState) (e : DriveId) : (s.chanState x).region e = s.region e := rfl

/-! ### endGrant -/

@[simp] theorem State.endGrant_lines (s : State) (d : DriveId) : (s.endGrant d).lines = s.lines := rfl
@[simp] theorem State.endGrant_regions (s : State) (d : DriveId) : (s.endGrant d).regions = s.regions := rfl
@[simp] theorem State.endGrant_vols (s : State) (d : DriveId) : (s.endGrant d).vols = s.vols := rfl
@[simp] theorem State.endGrant_cw (s : State) (d : DriveId) : (s.endGrant d).cw = s.cw := rfl
@[simp] theorem State.endGrant_cfg (s : State) (d : DriveId) : (s.endGrant d).cfg = s.cfg := rfl
@[simp] theorem State.endGrant_part (s : State) (d : DriveId) : (s.endGrant d).part = s.part := rfl
@[simp] theorem State.endGrant_clock (s : State) (d : DriveId) : (s.endGrant d).clock = s.clock := rfl
@[simp] theorem State.endGrant_mem (s : State) (d : DriveId) : (s.endGrant d).mem = s.mem := rfl
@[simp] theorem State.endGrant_arrival (s : State) (d : DriveId) : (s.endGrant d).arrival = s.arrival := rfl
@[simp] theorem State.endGrant_pending (s : State) (d : DriveId) : (s.endGrant d).pending = s.pending := rfl
@[simp] theorem State.endGrant_line (s : State) (d : DriveId) (k : Line) : (s.endGrant d).line k = s.line k := rfl
@[simp] theorem State.endGrant_vol (s : State) (d : DriveId) (e : DriveId) : (s.endGrant d).vol e = s.vol e := rfl
@[simp] theorem State.endGrant_region (s : State) (d : DriveId) (e : DriveId) : (s.endGrant d).region e = s.region e := rfl

end Sys2Proof.Machine
end

