-- ==== Sys2Proof/Laws/Requests.lean ====
section
/-! SUPPORT. Requests and replies: what taking a request and answering it can do. -/
namespace Sys2Proof.Machine

/-! ### What an answer leaves alone -/

/-- An answer changes its own line alone. -/
theorem State.answer_eq (s : State) (l : Line) (b : BufId) (r : Reply) :
    s.answer l b r = { s with lines := (s.answer l b r).lines } := rfl

theorem State.answer_line_ne (s : State) {l m : Line} (b : BufId) (r : Reply) (h : l ≠ m) :
    (s.answer l b r).line m = s.line m := State.line_modLine_ne s h _

theorem State.answer_line_self (s : State) (l : Line) (b : BufId) (r : Reply) :
    (s.answer l b r).line l = (s.line l).complete (s.lineCtx l) b r := State.line_modLine_self s l _

/-! ### Answers and the other updates commute -/

theorem State.answer_modDrive (s : State) (l : Line) (b : BufId) (r : Reply) (d : DriveId) (f : DriveSeq → DriveSeq) :
    (s.modDrive d f).answer l b r = (s.answer l b r).modDrive d f := rfl
theorem State.answer_modVol (s : State) (l : Line) (b : BufId) (r : Reply) (d : DriveId) (f : Volume → Volume) :
    (s.modVol d f).answer l b r = (s.answer l b r).modVol d f := rfl
theorem State.answer_modRegion (s : State) (l : Line) (b : BufId) (r : Reply) (d : DriveId) (f : Region → Region) :
    (s.modRegion d f).answer l b r = (s.answer l b r).modRegion d f := rfl
theorem State.answer_modChannel (s : State) (l : Line) (b : BufId) (r : Reply) (f : Channel → Channel) :
    (s.modChannel f).answer l b r = (s.answer l b r).modChannel f := rfl
theorem State.answer_modClaims (s : State) (l : Line) (b : BufId) (r : Reply) (f : ClaimUnit → ClaimUnit) :
    (s.modClaims f).answer l b r = (s.answer l b r).modClaims f := rfl

/-! ### Buffers -/

theorem LineUnit.setBuf_get (u : LineUnit) (b c : BufId) (h : Option Held) :
    (u.setBuf b h).bufs.get c = if b = c then h else u.bufs.get c := vector_get_set _ _ _ _

@[simp] theorem LineUnit.setBuf_get_self (u : LineUnit) (b : BufId) (h : Option Held) :
    (u.setBuf b h).bufs.get b = h := by simp [LineUnit.setBuf_get]

@[simp] theorem LineUnit.setBuf_order (u : LineUnit) (b : BufId) (h : Option Held) : (u.setBuf b h).order = u.order := rfl
@[simp] theorem LineUnit.setBuf_tx (u : LineUnit) (b : BufId) (h : Option Held) : (u.setBuf b h).tx = u.tx := rfl
@[simp] theorem LineUnit.setBuf_rx (u : LineUnit) (b : BufId) (h : Option Held) : (u.setBuf b h).rx = u.rx := rfl
@[simp] theorem LineUnit.setBuf_pendingReply (u : LineUnit) (b : BufId) (h : Option Held) :
    (u.setBuf b h).pendingReply = u.pendingReply := rfl

theorem LineUnit.setBuf_setBuf (u : LineUnit) (b : BufId) (h k : Option Held) :
    (u.setBuf b h).setBuf b k = u.setBuf b k := by simp [LineUnit.setBuf]

/-! ### The old rate of a CONFIGURE -/

/-- The CONFIGURE of a buffer is marked by what it did to its own line's rate, and nothing else changes (R182 item 1). -/
theorem State.keepRate_eq {s : State} {l : Line} {b : BufId} {h : Held} (hb : s.buffer l b = some h) (c : Bool) :
    s.keepRate l b c = s.modLine l fun u => u.setBuf b (some { h with oldRate := c }) := by
  have e : (s.line l).bufs.get b = some h := hb
  simp [State.keepRate, State.modLine, e]

/-- A line owes the old rate exactly while the reply of such a CONFIGURE waits in its reply order (R182 item 1). -/
theorem LineUnit.owesOldRate_iff (u : LineUnit) :
    u.owesOldRate = true ↔ ∃ b h, ReplySlot.buf b ∈ u.order ∧ u.bufs.get b = some h ∧ h.oldRate = true := by
  simp only [LineUnit.owesOldRate, List.any_eq_true]
  constructor
  · rintro ⟨x, hx, e⟩
    cases x with
    | buf b =>
      cases g : u.bufs.get b with
      | none => simp [g] at e
      | some h => exact ⟨b, h, hx, g, by simpa [g] using e⟩
    | pendingPlace => simp at e
  · rintro ⟨b, h, hx, g, e⟩
    exact ⟨_, hx, by simp [g, e]⟩

/-! ### Taking a request -/

/-- A request that waits for its owner is handed to it (R174 item 4, DESIGN CHOICE, safe: log 9). -/
theorem State.Waiting.onRequest {s : State} {l : Line} {b : BufId} {code : Byte} {h : Held} (w : s.Waiting l b code h)
    (f : Held → State → State) : s.onRequest l b code f = f h (s.takenBy l b h) := by
  have hb : (s.line l).bufs.get b = some h := w.held
  simp [State.onRequest, State.handed, State.markTaken, w.held, w.stage, w.untaken, w.named, w.live, hb, State.takenBy,
    State.modLine]

/-- A request command finds nothing to do in a buffer where no such request waits (DESIGN CHOICE, safe: log 1). -/
theorem State.onRequest_none {s : State} {l : Line} {b : BufId} {code : Byte} (f : Held → State → State)
    (h : s.handed l b code = none) : s.onRequest l b code f = s := by simp [State.onRequest, h]

/-- A request in progress, its desk being there, completes: its reply joins the reply order, and is on the line at once when
no other waits (R176, R177). -/
theorem LineUnit.complete_eq {u : LineUnit} {b : BufId} {h : Held} (ctx : LineCtx) (r : Reply)
    (hb : u.bufs.get b = some h) (hst : h.stage = .inProgress) (ho : h.orphan = false) (hs : u.tx = none ↔ u.order = []) :
    u.complete ctx b r =
      { u.setBuf b (some { h with stage := if u.order = [] then .sending else .complete, reply := some r }) with
        order := u.order ++ [ReplySlot.buf b],
        tx := if u.order = [] then some (replyFrame h.tag h.code r) else u.tx } := by
  unfold LineUnit.complete
  rw [hb]
  simp only [hst, ho, ne_eq, not_true_eq_false, if_false, Bool.false_eq_true]
  by_cases hx : u.order = []
  · have ht := hs.2 hx
    simp [LineUnit.finish, LineUnit.pump, hx, ht]
    simp [LineUnit.setBuf, ho]
  · have ht : u.tx ≠ none := fun e => hx (hs.1 e)
    obtain ⟨y, hy⟩ := Option.ne_none_iff_exists'.1 ht
    simp [LineUnit.finish, LineUnit.pump, hx, hy, ho]

/-- A request in its owner's hands, answered. -/
theorem State.Waiting.answer {s : State} {l : Line} {b : BufId} {code : Byte} {h : Held} (w : s.Waiting l b code h)
    (r : Reply) : (s.takenBy l b h).answer l b r = s.replied l b h r := by
  have e1 : (s.takenBy l b h).line l = (s.line l).setBuf b (some { h with taken := true }) :=
    State.line_modLine_self s l _
  have key := LineUnit.complete_eq (u := (s.line l).setBuf b (some { h with taken := true })) ((s.takenBy l b h).lineCtx l) r
    (LineUnit.setBuf_get_self _ _ _) w.stage w.owned w.sending
  have key2 : ((s.takenBy l b h).line l).complete ((s.takenBy l b h).lineCtx l) b r = (s.line l).replied b h r := by
    rw [e1, key]
    simp only [LineUnit.setBuf_setBuf]
    rfl
  show (s.takenBy l b h).modLine l (fun u => u.complete ((s.takenBy l b h).lineCtx l) b r) = s.modLine l _
  have e2 : ∀ (x : State) f, x.modLine l f = { x with lines := x.lines.set l.val (f (x.line l)) l.isLt } := fun _ _ => rfl
  rw [e2, key2, e2]
  simp only [State.takenBy, State.modLine, Vector.set_set]

/-! ### A changed rate (R182) -/

/-- The rate at most changes. -/
theorem LineUnit.takeRate_eq (u : LineUnit) (rate : Rate) : u.takeRate rate = { u with rate := (u.takeRate rate).rate } := by
  unfold LineUnit.takeRate
  split <;> rfl

theorem LineUnit.takeRate_quiet {u : LineUnit} (rate : Rate) (ht : u.tx = none) (hr : u.rx = .hunt) :
    u.takeRate rate = { u with rate := rate } := by simp [LineUnit.takeRate, ht, hr]

theorem LineUnit.takeRate_busy {u : LineUnit} (rate : Rate) (h : u.tx ≠ none ∨ u.rx ≠ .hunt) : u.takeRate rate = u := by
  unfold LineUnit.takeRate
  rw [if_neg]
  rintro ⟨a, b⟩
  exact h.elim (fun x => x a) fun x => x b

/-! ### Replies are given and kept -/

/-- What the idle transmitter's taking of the oldest reply does to a buffer: at most its stage becomes SENDING (R177). -/
theorem LineUnit.pump_get (u : LineUnit) (b : BufId) :
    u.pump.bufs.get b = u.bufs.get b
      ∨ ∃ h r, u.bufs.get b = some h ∧ h.reply = some r ∧ u.pump.bufs.get b = some { h with stage := .sending } := by
  unfold LineUnit.pump
  split
  · rename_i c _ _ _
    split
    · rename_i h hb
      split
      · rename_i r hr
        by_cases e : c = b
        · subst e
          exact .inr ⟨h, r, hb, hr, LineUnit.setBuf_get_self _ _ _⟩
        · exact .inl (by
            show (u.setBuf c _).bufs.get b = _
            rw [LineUnit.setBuf_get, if_neg e])
      · exact .inl rfl
    · exact .inl rfl
  · split <;> exact .inl rfl
  · exact .inl rfl

/-- A buffer whose request has been answered with `r`. -/
def LineUnit.Answered (u : LineUnit) (b : BufId) (r : Reply) : Prop :=
  ∃ h, u.bufs.get b = some h ∧ h.stage ≠ .inProgress ∧ h.reply = some r

/-- A buffer whose request is still to be answered. -/
def LineUnit.Unanswered (u : LineUnit) (b : BufId) (h : Held) : Prop := u.bufs.get b = some h ∧ h.reply = none

theorem LineUnit.Answered.of_get {u v : LineUnit} {b : BufId} {r : Reply} (a : u.Answered b r)
    (e : v.bufs.get b = u.bufs.get b) : v.Answered b r := by
  obtain ⟨h, h1, h2, h3⟩ := a
  exact ⟨h, e.trans h1, h2, h3⟩

theorem LineUnit.Answered.pump {u : LineUnit} {b : BufId} {r : Reply} (a : u.Answered b r) : u.pump.Answered b r := by
  rcases u.pump_get b with e | ⟨h, q, h1, h2, e⟩
  · exact a.of_get e
  · obtain ⟨h', g1, _, g3⟩ := a
    obtain rfl : h' = h := Option.some.inj (g1.symm.trans h1)
    exact ⟨_, e, by simp, g3⟩

theorem LineUnit.Unanswered.pump {u : LineUnit} {b : BufId} {h : Held} (a : u.Unanswered b h) : u.pump.Unanswered b h := by
  rcases u.pump_get b with e | ⟨h', q, h1, h2, _⟩
  · exact ⟨e.trans a.1, a.2⟩
  · obtain rfl : h = h' := Option.some.inj (a.1.symm.trans h1)
    exact absurd (a.2.symm.trans h2) (by simp)

/-- A frame that is judged again goes into a FREE buffer or none: a held buffer is as it was, or SENDING (R173). -/
theorem LineUnit.rejudge_cases (P : LineUnit → Prop) {u : LineUnit} {b : BufId} (ctx : LineCtx) (held : u.bufs.get b ≠ none)
    (hset : ∀ v : LineUnit, v.bufs.get b = u.bufs.get b → P v) (hpump : ∀ v : LineUnit, P v → P v.pump) :
    P (u.rejudge ctx) := by
  have hp : ∀ bs r, P (u.pendOrHold bs r) := by
    intro bs r
    unfold LineUnit.pendOrHold
    split
    · exact hpump _ (hset _ rfl)
    · exact hset _ rfl
  unfold LineUnit.rejudge
  split
  · unfold LineUnit.judgeSteps
    split
    · exact hp _ _
    · split
      · exact hp _ _
      · split
        · exact hp _ _
        · rename_i c hc
          have hcb : c ≠ b := by
            rintro rfl
            unfold LineUnit.freeBuf at hc
            split at hc
            · cases hc
              simp_all
            · split at hc
              · cases hc
                simp_all
              · cases hc
          unfold LineUnit.takeFrame
          simp only
          split
          · exact hpump _ (hset _ (by
              show ((u.setBuf c _).setBuf c _).bufs.get b = _
              rw [LineUnit.setBuf_get, if_neg hcb, LineUnit.setBuf_get, if_neg hcb]))
          · exact hset _ (by
              show (u.setBuf c _).bufs.get b = _
              rw [LineUnit.setBuf_get, if_neg hcb])
  · exact hset _ rfl

/-- A request in progress whose desk is there is answered by its completion (R176). -/
theorem LineUnit.complete_answered {u : LineUnit} {b : BufId} {h : Held} (ctx : LineCtx) (r : Reply)
    (hb : u.bufs.get b = some h) (hst : h.stage = .inProgress) (ho : h.orphan = false) : (u.complete ctx b r).Answered b r := by
  unfold LineUnit.complete
  rw [hb]
  simp only [hst, ho, ne_eq, not_true_eq_false, if_false, Bool.false_eq_true]
  refine LineUnit.Answered.pump ⟨_, LineUnit.setBuf_get_self _ _ _, ?_, rfl⟩
  simp

/-- A completed request keeps its reply whatever else completes on its line. -/
theorem LineUnit.Answered.complete {u : LineUnit} {b : BufId} {r : Reply} (a : u.Answered b r) (ctx : LineCtx) (c : BufId)
    (q : Reply) : (u.complete ctx c q).Answered b r := by
  obtain ⟨h, h1, h2, h3⟩ := a
  have a : u.Answered b r := ⟨h, h1, h2, h3⟩
  unfold LineUnit.complete
  split
  · rename_i k hk
    split
    · exact a
    · rename_i hst
      have hcb : c ≠ b := by
        rintro rfl
        obtain rfl : h = k := Option.some.inj (h1.symm.trans hk)
        exact hst h2
      have e : ∀ x, (u.setBuf c x).bufs.get b = u.bufs.get b := fun x => by rw [LineUnit.setBuf_get, if_neg hcb]
      split
      · refine LineUnit.rejudge_cases (fun v => v.Answered b r) ctx (by rw [e, h1]; simp) ?_ fun v hv => hv.pump
        exact fun v hv => a.of_get (hv.trans (e _))
      · exact LineUnit.Answered.pump (a.of_get (e _))
  · exact a

/-- A request that is still to be answered stays so when another of its line completes. -/
theorem LineUnit.Unanswered.complete {u : LineUnit} {b c : BufId} {h : Held} (a : u.Unanswered b h) (ctx : LineCtx)
    (q : Reply) (hcb : c ≠ b) : (u.complete ctx c q).Unanswered b h := by
  have e : ∀ x, (u.setBuf c x).bufs.get b = u.bufs.get b := fun x => by rw [LineUnit.setBuf_get, if_neg hcb]
  unfold LineUnit.complete
  split
  · split
    · exact a
    · split
      · refine LineUnit.rejudge_cases (fun v => v.Unanswered b h) ctx (by rw [e, a.1]; simp) ?_ fun v hv => hv.pump
        exact fun v hv => ⟨hv.trans ((e _).trans a.1), a.2⟩
      · exact LineUnit.Unanswered.pump ⟨(e _).trans a.1, a.2⟩
  · exact a

/-! ### On the whole state -/

theorem State.hasReply_iff {s : State} {l : Line} {b : BufId} {r : Reply} : s.hasReply l b r ↔ (s.line l).Answered b r :=
  Iff.rfl

/-- An answer is given (R176). -/
theorem State.hasReply_answer {s : State} {l : Line} {b : BufId} {h : Held} (r : Reply) (hb : s.buffer l b = some h)
    (hst : h.stage = .inProgress) (ho : h.orphan = false) : (s.answer l b r).hasReply l b r := by
  rw [State.hasReply_iff, State.answer_line_self]
  exact LineUnit.complete_answered _ r hb hst ho

/-- An answer once given stays. -/
theorem State.hasReply.answer {s : State} {l : Line} {b : BufId} {r : Reply} (a : s.hasReply l b r) (m : Line) (c : BufId)
    (q : Reply) : (s.answer m c q).hasReply l b r := by
  rw [State.hasReply_iff] at a ⊢
  by_cases e : m = l
  · subst e
    rw [State.answer_line_self]
    exact a.complete _ c q
  · rw [State.answer_line_ne s c q e]
    exact a

/-- A request of a buffer that is still to be answered: in progress, its desk there, without a reply. -/
def State.Open (s : State) (l : Line) (b : BufId) (h : Held) : Prop :=
  s.buffer l b = some h ∧ h.stage = .inProgress ∧ h.orphan = false ∧ h.reply = none

/-- When several requests are answered, each with the same reply, one still to be answered either is so after or has it. -/
theorem State.Open.answer {s : State} {l : Line} {b : BufId} {h : Held} (o : s.Open l b h) (m : Line) (c : BufId)
    (q : Reply) : (s.answer m c q).Open l b h ∨ (m = l ∧ c = b ∧ (s.answer m c q).hasReply l b q) := by
  obtain ⟨h1, h2, h3, h4⟩ := o
  by_cases e : m = l
  · subst e
    by_cases f : c = b
    · subst f
      exact .inr ⟨rfl, rfl, State.hasReply_answer q h1 h2 h3⟩
    · left
      have := LineUnit.Unanswered.complete (u := s.line m) ⟨h1, h4⟩ (s.lineCtx m) q f
      refine ⟨?_, h2, h3, h4⟩
      show ((s.answer m c q).line m).bufs.get b = some h
      rw [State.answer_line_self]
      exact this.1
  · left
    refine ⟨?_, h2, h3, h4⟩
    show ((s.answer m c q).line l).bufs.get b = some h
    rw [State.answer_line_ne s c q e]
    exact h1

/-! ### Attempts (R46 to R49) -/

/-- An attempt without a strobe of the ladder's has the preferred one. -/
theorem State.startAttempt_preferred (s : State) (d : DriveId) (r : Request) (o : OpRecord) (x : ChanState) :
    s.startAttempt d r o x none = s.attempting d r o (s.preferredFor d r) x := rfl

/-- An attempt of step 2 has the strobe it names. -/
theorem State.startAttempt_strobe (s : State) (d : DriveId) (r : Request) (o : OpRecord) (x : ChanState) (y : Strobe) :
    s.startAttempt d r o x (some y) = s.attempting d r o y x := rfl

end Sys2Proof.Machine
end

