-- ==== Sys2Proof/Laws/Queue.lean ====
section
/-! SUPPORT. The drive queues: what a placement, the offers of R149, a withdrawal and the end of a grant can do. -/
namespace Sys2Proof.Machine

/-! ### Placement (R71, R72) -/

theorem State.place_drive (s : State) (d : DriveId) (r : Request) :
    (s.place d r).drive d = { s.drive d with queue := (s.drive d).queue ++ [{ r with arrival := s.arrival }] } :=
  State.drive_modDrive_self _ _ _

theorem State.place_drive_ne (s : State) {d e : DriveId} (h : d ≠ e) (r : Request) :
    (s.place d r).drive e = s.drive e := State.drive_modDrive_ne _ h _

/-- A placement changes its drive's queue and the arrival counter alone. -/
theorem State.place_eq (s : State) (d : DriveId) (r : Request) :
    s.place d r = { s with drives := (s.place d r).drives, arrival := nextNumber s.arrival } := rfl

/-! ### The offers of R149 -/

/-- What the offers of R149 for drive `d` can make of `s`: at most `n` INDEX-WRITEs, each of a DIRTY sector, join the end of
its queue, and no CLEAN sector leaves or joins the dirty set. -/
structure State.Offered (s t : State) (d : DriveId) (n : Nat) : Prop where
  queue   : ∃ q, t.drive d = { s.drive d with queue := (s.drive d).queue ++ q } ∧ q.length ≤ n
              ∧ (∀ r ∈ q, ∃ j, r.kind = .indexWrite j ∧ r.origin = .volume ∧ r.state = .queued)
              ∧ ((s.vol d).dirtySet = [] → q = [])
  drives  : ∀ e, e ≠ d → t.drive e = s.drive e
  vols    : ∀ e, e ≠ d → t.vol e = s.vol e
  vol     : t.vol d = { s.vol d with sectors := (t.vol d).sectors }
  length  : (t.vol d).sectors.length = (s.vol d).sectors.length
  clean   : ∀ j, (t.vol d).sector j = .clean ↔ (s.vol d).sector j = .clean
  rest    : t = { s with drives := t.drives, vols := t.vols, arrival := t.arrival }

theorem State.Offered.refl (s : State) (d : DriveId) : s.Offered s d 0 :=
  ⟨⟨[], by simp⟩, fun _ _ => rfl, fun _ _ => rfl, rfl, rfl, fun _ => Iff.rfl, rfl⟩

theorem Volume.dirtySet_nil (v : Volume) : v.dirtySet = [] ↔ ∀ j, v.sector j = .clean := by
  simp only [Volume.dirtySet, List.filter_eq_nil_iff, List.mem_range, bne_iff_ne, ne_eq, Decidable.not_not]
  constructor
  · intro h j
    by_cases hj : j < v.sectors.length
    · exact h j hj
    · simp [Volume.sector, List.getD, List.getElem?_eq_none (Nat.le_of_not_lt hj)]
  · exact fun h j _ => h j

theorem State.Offered.trans {s t u : State} {d : DriveId} {m n : Nat} (a : s.Offered t d m) (b : t.Offered u d n) :
    s.Offered u d (m + n) := by
  obtain ⟨q, q1, q2, q3, q4⟩ := a.queue
  obtain ⟨p, p1, p2, p3, p4⟩ := b.queue
  refine ⟨⟨q ++ p, ?_, ?_, ?_, ?_⟩, fun e h => (b.drives e h).trans (a.drives e h),
    fun e h => (b.vols e h).trans (a.vols e h), ?_, b.length.trans a.length, fun j => (b.clean j).trans (a.clean j), ?_⟩
  · rw [p1, q1]
    simp
  · simp only [List.length_append]
    omega
  · intro r hr
    rcases List.mem_append.1 hr with h | h
    · exact q3 r h
    · exact p3 r h
  · intro h
    have h2 : (t.vol d).dirtySet = [] := by
      rw [Volume.dirtySet_nil] at h ⊢
      exact fun j => (a.clean j).2 (h j)
    rw [q4 h, p4 h2]
    rfl
  · have := b.vol
    rw [a.vol] at this
    exact this
  · have := b.rest
    rw [a.rest] at this
    exact this

theorem Volume.sector_set (v : Volume) (i j : Nat) (x : SectorState) (hi : i < v.sectors.length) :
    ({ v with sectors := v.sectors.set i x } : Volume).sector j = if i = j then x else v.sector j := by
  simp only [Volume.sector, List.getD, List.getElem?_set]
  by_cases e : i = j
  · subst e
    simp [hi]
  · simp [e]

/-- One offer (R149): nothing, or the INDEX-WRITE of the lowest DIRTY sector. -/
theorem State.offerOne_offered (s : State) (d : DriveId) : s.Offered (s.offerOne d) d 1 := by
  unfold State.offerOne
  split
  · rename_i j p h1 h2 h3
    have hj := List.find?_some h2
    have hm := List.mem_of_find?_eq_some h2
    have hlt : j < (s.vol d).sectors.length := by simpa using hm
    have hd : (s.vol d).sector j = .dirty := by simpa using hj
    have hv : ((s.setSector d j .queued).place d (indexRequest p j)).vol d
        = { s.vol d with sectors := (s.vol d).sectors.set j .queued } := by
      rw [State.place_vol]
      exact State.vol_modVol_self s d _
    refine ⟨⟨[{ indexRequest p j with arrival := s.arrival }], State.place_drive _ _ _, by simp, ?_, ?_⟩, ?_, ?_, ?_, ?_, ?_,
      rfl⟩
    · intro r hr
      obtain rfl := List.mem_singleton.1 hr
      exact ⟨j, rfl, rfl, rfl⟩
    · intro h
      exact absurd (((s.vol d).dirtySet_nil.1 h) j) (by rw [hd]; decide)
    · exact fun e h => State.place_drive_ne _ (Ne.symm h) _
    · intro e h
      rw [State.place_vol]
      exact State.vol_modVol_ne s (Ne.symm h) _
    · rw [hv]
    · rw [hv]
      simp
    · intro i
      rw [hv, Volume.sector_set _ _ _ _ hlt]
      split
      · rename_i e
        subst e
        simp [hd]
      · exact Iff.rfl
  · have := State.Offered.refl s d
    exact { this with queue := by obtain ⟨q, h1, h2, h3⟩ := this.queue; exact ⟨q, h1, by omega, h3⟩ }

/-- The offers of R149, whenever they are made. -/
theorem State.offers_offered (s : State) (d : DriveId) : s.Offered (s.offers d) d 2 :=
  (s.offerOne_offered d).trans ((s.offerOne d).offerOne_offered d)

end Sys2Proof.Machine
end

