-- ==== Sys2Proof/Laws/BufferMemory.lean ====
section
/-! SUPPORT. The buffer memory under the operations (R92, R103): one lemma for each that stores nothing there, and what the two
that store do: a good data field of a fill, and a write that has ended successfully. -/
namespace Sys2Proof.Machine

/-! ### Folds -/

/-- A run of updates that each leave the buffer memory leaves it. -/
@[simp] theorem State.foldl_mem {α : Type} {f : State → α → State} (hf : ∀ s a, (f s a).mem = s.mem) (xs : List α)
    (s : State) : (xs.foldl f s).mem = s.mem :=
  State.foldl_keeps (fun t => t.mem = s.mem) f (fun t a h => (hf t a).trans h) xs s rfl

@[simp] theorem State.eachDrive_mem {f : State → DriveId → State} (hf : ∀ s d, (f s d).mem = s.mem) (s : State) :
    (s.eachDrive f).mem = s.mem := State.foldl_mem hf _ _

@[simp] theorem State.eachLine_mem {f : State → Line → State} (hf : ∀ s l, (f s l).mem = s.mem) (s : State) :
    (s.eachLine f).mem = s.mem := State.foldl_mem hf _ _


/-! ### The desk lines, claims and placement -/

@[simp] theorem State.lineReset_mem (s : State) (l : Line) : (s.lineReset l).mem = s.mem := by
  unfold State.lineReset
  split <;> simp
@[simp] theorem State.keepRate_mem (s : State) (l : Line) (b : BufId) (c : Bool) : (s.keepRate l b c).mem = s.mem := rfl
@[simp] theorem State.dropBroken_mem (s : State) (d : DriveId) (h : Nat) (x c : Line) :
    (s.dropBroken d h x c).mem = s.mem := rfl
@[simp] theorem State.dropClaims_mem (s : State) (l : Line) : (s.dropClaims l).mem = s.mem := by
  rw [State.dropClaims, State.foldl_mem]
  simp
@[simp] theorem State.deskLost_mem (s : State) (l : Line) : (s.deskLost l).mem = s.mem := by
  simp [State.deskLost]
@[simp] theorem State.breakOthers_mem (s : State) (d : DriveId) (l : Line) : (s.breakOthers d l).mem = s.mem := by
  rw [State.breakOthers, State.foldl_mem]
  simp
@[simp] theorem State.placeVolume_mem (s : State) (d : DriveId) (r : Request) : (s.placeVolume d r).mem = s.mem := by
  unfold State.placeVolume
  split <;> simp

/-! ### The track cache -/

@[simp] theorem State.answerReader_mem (s : State) (d : DriveId) (i : Nat) (p : ReadProfile) (c : SectorCond) (x : Bool) (r : Reader) :
    (s.answerReader d i p c x r).mem = s.mem := by
  unfold State.answerReader
  split <;> simp
@[simp] theorem State.joinFrame_mem (s : State) (d : DriveId) (i : Nat) (r : Reader) : (s.joinFrame d i r).mem = s.mem := rfl
@[simp] theorem State.placeFill_mem (s : State) (d : DriveId) (i : Nat) (pl : Place) (p : ReadProfile) (r : Reader) :
    (s.placeFill d i pl p r).mem = s.mem := rfl
@[simp] theorem State.placeDirect_mem (s : State) (d : DriveId) (pl : Place) (k : Nat) (p : ReadProfile) (r : Reader) :
    (s.placeDirect d pl k p r).mem = s.mem := rfl
@[simp] theorem State.hitFrame_mem (s : State) (d : DriveId) (i : Nat) (p : ReadProfile) (r : Reader) :
    (s.hitFrame d i p r).mem = s.mem := by
  unfold State.hitFrame
  split <;> simp
@[simp] theorem State.missFrame_mem (s : State) (d : DriveId) (pl : Place) (k : Nat) (p : ReadProfile) (r : Reader) :
    (s.missFrame d pl k p r).mem = s.mem := by
  unfold State.missFrame
  (repeat' split) <;> simp
@[simp] theorem State.cacheRead_mem (s : State) (d : DriveId) (pl : Place) (k : Nat) (p : ReadProfile) (l : Line) (b : BufId) :
    (s.cacheRead d pl k p l b).mem = s.mem := by
  unfold State.cacheRead
  (repeat' split) <;> simp
@[simp] theorem State.fillDone_mem (s : State) (d : DriveId) (r : Request) (i : Nat) (n : List SectorNote) (x : List Nat) :
    (s.fillDone d r i n x).mem = s.mem := by
  simp [State.fillDone]
@[simp] theorem State.failReaders_mem (s : State) (rs : List Reader) (c : Cause) : (s.failReaders rs c).mem = s.mem := by
  rw [State.failReaders, State.foldl_mem]
  simp
@[simp] theorem State.fillFailed_mem (s : State) (d : DriveId) (i : Nat) (c : Cause) : (s.fillFailed d i c).mem = s.mem := by
  simp [State.fillFailed]
@[simp] theorem State.emptyTrack_mem (s : State) (d : DriveId) (c h : Nat) : (s.emptyTrack d c h).mem = s.mem := by
  unfold State.emptyTrack
  split <;> simp
@[simp] theorem State.emptyRegion_mem (s : State) (d : DriveId) : (s.emptyRegion d).mem = s.mem := by
  simp [State.emptyRegion]
@[simp] theorem State.failCacheRead_mem (s : State) (d : DriveId) (c : Cause) (r : Request) :
    (s.failCacheRead d c r).mem = s.mem := by
  unfold State.failCacheRead
  split <;> simp
@[simp] theorem State.prepareRegion_mem (s : State) (d : DriveId) : (s.prepareRegion d).mem = s.mem := by
  unfold State.prepareRegion
  dsimp only
  (repeat' split) <;> simp

/-! ### The index and the volumes -/

@[simp] theorem State.changeEntry_mem (s : State) (d : DriveId) (p : Profile) (h : Nat) (e : Entry) :
    (s.changeEntry d p h e).mem = s.mem := rfl
@[simp] theorem State.offerOne_mem (s : State) (d : DriveId) : (s.offerOne d).mem = s.mem := by
  unfold State.offerOne
  split <;> simp
@[simp] theorem State.offers_mem (s : State) (d : DriveId) : (s.offers d).mem = s.mem := by
  simp [State.offers]
@[simp] theorem State.setWriteBack_mem (s : State) (d : DriveId) (l : Line) (b : BufId) (x : WriteBack) :
    (s.setWriteBack d l b x).mem = s.mem := rfl
@[simp] theorem State.dropWaiter_mem (s : State) (d : DriveId) (l : Line) (b : BufId) :
    (s.dropWaiter d l b).mem = s.mem := rfl
@[simp] theorem State.answerWaiter_mem (s : State) (d : DriveId) (w : Waiter) : (s.answerWaiter d w).mem = s.mem := by
  unfold State.answerWaiter
  split <;> simp
@[simp] theorem State.failWaiter_mem (s : State) (d : DriveId) (c : Cause) (w : Waiter) :
    (s.failWaiter d c w).mem = s.mem := by
  unfold State.failWaiter
  split <;> simp
@[simp] theorem State.loseWaiter_mem (s : State) (w : Waiter) : (s.loseWaiter w).mem = s.mem := by
  unfold State.loseWaiter
  split <;> simp
@[simp] theorem State.coverSector_mem (s : State) (d : DriveId) (j : Nat) : (s.coverSector d j).mem = s.mem := rfl
@[simp] theorem State.indexWritten_mem (s : State) (d : DriveId) (j : Nat) : (s.indexWritten d j).mem = s.mem := by
  simp [State.indexWritten]
@[simp] theorem State.indexRemoved_mem (s : State) (d : DriveId) (j : Nat) : (s.indexRemoved d j).mem = s.mem := rfl
@[simp] theorem State.indexFaulted_mem (s : State) (d : DriveId) (j : Nat) : (s.indexFaulted d j).mem = s.mem := by
  simp [State.indexFaulted]
@[simp] theorem State.dropHold_mem (s : State) (d : DriveId) (r : Request) : (s.dropHold d r).mem = s.mem := by
  unfold State.dropHold
  split <;> simp
@[simp] theorem State.failRequest_mem (s : State) (d : DriveId) (c : Cause) (r : Request) :
    (s.failRequest d c r).mem = s.mem := by
  unfold State.failRequest
  (repeat' split) <;> simp
@[simp] theorem State.withdraw_mem (s : State) (d : DriveId) (p : Request → Bool) (c : Cause) :
    (s.withdraw d p c).mem = s.mem := by
  simp [State.withdraw]
@[simp] theorem State.leave_mem (s : State) (d : DriveId) : (s.leave d).mem = s.mem := by
  unfold State.leave
  split <;> simp
@[simp] theorem State.releaseGranule_mem (s : State) (d : DriveId) (p : Profile) (g : Nat) :
    (s.releaseGranule d p g).mem = s.mem := by
  simp [State.releaseGranule]
@[simp] theorem State.releaseGranules_mem (s : State) (d : DriveId) (p : Profile) (gs : List Nat) :
    (s.releaseGranules d p gs).mem = s.mem := by
  simp [State.releaseGranules]
@[simp] theorem State.resetMargins_mem (s : State) (d : DriveId) : (s.resetMargins d).mem = s.mem := rfl
@[simp] theorem State.beginMount_mem (s : State) (d : DriveId) : (s.beginMount d).mem = s.mem := by
  simp [State.beginMount]
@[simp] theorem State.mountReport_mem (s : State) (d : DriveId) : (s.mountReport d).mem = s.mem := by
  unfold State.mountReport
  split <;> simp
@[simp] theorem State.offerLoads_mem (s : State) (d : DriveId) (p : Profile) : (s.offerLoads d p).mem = s.mem := by
  unfold State.offerLoads
  split <;> simp
@[simp] theorem State.labelDone_mem (s : State) (d : DriveId) (x : Option (List Byte)) : (s.labelDone d x).mem = s.mem := by
  unfold State.labelDone
  dsimp only
  (repeat' split) <;> simp
@[simp] theorem State.tryMountEnd_mem (s : State) (d : DriveId) : (s.tryMountEnd d).mem = s.mem := by
  unfold State.tryMountEnd
  (repeat' split) <;> simp
@[simp] theorem State.loadDone_mem (s : State) (d : DriveId) (r : Request) (x : List Nat) :
    (s.loadDone d r x).mem = s.mem := by
  unfold State.loadDone
  split <;> simp
@[simp] theorem State.unloadIdle_mem (s : State) (d : DriveId) : (s.unloadIdle d).mem = s.mem := by
  unfold State.unloadIdle
  split <;> simp
@[simp] theorem State.releaseVolume_mem (s : State) (d : DriveId) : (s.releaseVolume d).mem = s.mem := by
  simp [State.releaseVolume]
@[simp] theorem State.answerEject_mem (s : State) (p : Option PendingVolume) : (s.answerEject p).mem = s.mem := by
  unfold State.answerEject
  split <;> simp
@[simp] theorem State.failPending_mem (s : State) (c : Cause) (p : Option PendingVolume) :
    (s.failPending c p).mem = s.mem := by
  unfold State.failPending
  split <;> simp
@[simp] theorem State.loseVolume_mem (s : State) (d : DriveId) : (s.loseVolume d).mem = s.mem := by
  simp [State.loseVolume]
@[simp] theorem State.offerLabelWrite_mem (s : State) (d : DriveId) (p : Profile) : (s.offerLabelWrite d p).mem = s.mem := by
  unfold State.offerLabelWrite
  split <;> simp
@[simp] theorem State.offerIndexInit_mem (s : State) (d : DriveId) (p : Profile) (j : Nat) :
    (s.offerIndexInit d p j).mem = s.mem := by
  simp [State.offerIndexInit]
@[simp] theorem State.prepareEnd_mem (s : State) (d : DriveId) (p : Profile) : (s.prepareEnd d p).mem = s.mem := by
  unfold State.prepareEnd
  split <;> simp
@[simp] theorem State.nextIndexInit_mem (s : State) (d : DriveId) (p : Profile) (j : Nat) :
    (s.nextIndexInit d p j).mem = s.mem := by
  unfold State.nextIndexInit
  split <;> simp
@[simp] theorem State.afterFormat_mem (s : State) (d : DriveId) (p : Profile) (c h : Nat) :
    (s.afterFormat d p c h).mem = s.mem := by
  unfold State.afterFormat
  split <;> simp
@[simp] theorem State.prepareNext_mem (s : State) (d : DriveId) (r : Request) : (s.prepareNext d r).mem = s.mem := by
  unfold State.prepareNext
  (repeat' split) <;> simp
@[simp] theorem State.prepareFailed_mem (s : State) (d : DriveId) (c : Cause) : (s.prepareFailed d c).mem = s.mem := by
  simp [State.prepareFailed]
@[simp] theorem State.beginPrepare_mem (s : State) (d : DriveId) (l : Line) (b : BufId) (i : LabelInfo) (q : Quantized) :
    (s.beginPrepare d l b i q).mem = s.mem := by
  simp [State.beginPrepare]

/-! ### The drives -/

@[simp] theorem State.givenUp_mem (s : State) (d : DriveId) (r : Request) : (s.givenUp d r).mem = s.mem := by
  unfold State.givenUp
  (repeat' split) <;> simp
@[simp] theorem State.withdrawSelected_mem (s : State) (d : DriveId) (r : Request) :
    (s.withdrawSelected d r).mem = s.mem := by
  simp [State.withdrawSelected]
@[simp] theorem State.ask_mem (s : State) (d : DriveId) : (s.ask d).mem = s.mem := by
  unfold State.ask
  (repeat' split) <;> simp
@[simp] theorem State.beginMove_mem (s : State) (d : DriveId) : (s.beginMove d).mem = s.mem := by
  unfold State.beginMove
  dsimp only
  (repeat' split) <;> simp
@[simp] theorem State.arrive_mem (s : State) (d : DriveId) : (s.arrive d).mem = s.mem := by
  simp [State.arrive]
@[simp] theorem State.reportReady_mem (s : State) (d : DriveId) : (s.reportReady d).mem = s.mem := by
  unfold State.reportReady
  (repeat' split) <;> simp
@[simp] theorem State.restedAtZero_mem (s : State) (d : DriveId) (n : Nat) : (s.restedAtZero d n).mem = s.mem := by
  simp [State.restedAtZero]
@[simp] theorem State.recalibrate_mem (s : State) (d : DriveId) : (s.recalibrate d).mem = s.mem := by
  unfold State.recalibrate
  split <;> simp
@[simp] theorem State.lostPosition_mem (s : State) (d : DriveId) : (s.lostPosition d).mem = s.mem := by
  simp [State.lostPosition]
@[simp] theorem State.unlearn_mem (s : State) (d : DriveId) : (s.unlearn d).mem = s.mem := by
  unfold State.unlearn
  split
  · exact State.foldl_mem (fun _ _ => State.setMargin_mem _ _ _ _) _ _
  · rfl

@[simp] theorem State.abortChannel_mem (s : State) (d : DriveId) : (s.abortChannel d).mem = s.mem := by
  unfold State.abortChannel
  split <;> simp
@[simp] theorem State.removal_mem (s : State) (d : DriveId) (c : DriveCondition) : (s.removal d c).mem = s.mem := by
  simp [State.removal]
@[simp] theorem State.restoreArea_mem (s : State) (d : DriveId) (r : Request) : (s.restoreArea d r).mem = s.mem := by
  unfold State.restoreArea
  split <;> simp
@[simp] theorem State.dropVolumeRequest_mem (s : State) (d : DriveId) (r : Request) :
    (s.dropVolumeRequest d r).mem = s.mem := by
  unfold State.dropVolumeRequest
  (repeat' split) <;> simp
@[simp] theorem State.faultVolumeRequests_mem (s : State) (d : DriveId) : (s.faultVolumeRequests d).mem = s.mem := by
  simp [State.faultVolumeRequests]
@[simp] theorem State.fault_mem (s : State) (d : DriveId) (c : FaultCause) : (s.fault d c).mem = s.mem := by
  simp [State.fault]
@[simp] theorem State.enterSpeedCheck_mem (s : State) (d : DriveId) : (s.enterSpeedCheck d).mem = s.mem := by
  unfold State.enterSpeedCheck
  split <;> simp
@[simp] theorem State.enterReady_mem (s : State) (d : DriveId) : (s.enterReady d).mem = s.mem := by
  unfold State.enterReady
  split <;> simp
@[simp] theorem State.enterByReady_mem (s : State) (d : DriveId) : (s.enterByReady d).mem = s.mem := by
  unfold State.enterByReady
  split <;> simp
@[simp] theorem State.takeOffline_mem (s : State) (d : DriveId) : (s.takeOffline d).mem = s.mem := by
  simp [State.takeOffline]
@[simp] theorem State.driveFaultRises_mem (s : State) (d : DriveId) : (s.driveFaultRises d).mem = s.mem := by
  unfold State.driveFaultRises
  dsimp only
  split <;> simp
@[simp] theorem State.setReady_mem (s : State) (d : DriveId) (x : Bool) : (s.setReady d x).mem = s.mem := rfl
@[simp] theorem State.setSense_mem (s : State) (d : DriveId) (x : SenseLine) (y : Bool) :
    (s.setSense d x y).mem = s.mem := rfl
@[simp] theorem State.select_mem (s : State) (d : DriveId) (us : Nat) : (s.select d us).mem = s.mem := by
  unfold State.select
  (repeat' split) <;> simp

/-! ### The read/write channel -/

@[simp] theorem State.startAttempt_mem (s : State) (d : DriveId) (r : Request) (o : OpRecord) (x : ChanState) (y : Option Strobe) :
    (s.startAttempt d r o x y).mem = s.mem := rfl
@[simp] theorem State.opEnd_mem (s : State) (d : DriveId) : (s.opEnd d).mem = s.mem := by
  simp [State.opEnd]
@[simp] theorem State.countFailed_mem (s : State) (n : Nat) : (s.countFailed n).mem = s.mem := rfl
@[simp] theorem State.deskWritten_mem (s : State) (d : DriveId) (l : Line) (b : BufId) (x : Option WriteBack) (y : Bool) :
    (s.deskWritten d l b x y).mem = s.mem := by
  unfold State.deskWritten
  split <;> simp
@[simp] theorem State.formatSucceeded_mem (s : State) (d : DriveId) (r : Request) : (s.formatSucceeded d r).mem = s.mem := by
  simp [State.formatSucceeded]
@[simp] theorem State.countCheck_mem (s : State) (c : Cause) : (s.countCheck c).mem = s.mem := by
  unfold State.countCheck
  split <;> simp
@[simp] theorem State.opFailed_mem (s : State) (d : DriveId) (r : Request) (c : Cause) : (s.opFailed d r c).mem = s.mem := by
  unfold State.opFailed
  split <;> simp
@[simp] theorem State.fillEnd_mem (s : State) (d : DriveId) (r : Request) (o : OpRecord) :
    (s.fillEnd d r o).mem = s.mem := by
  unfold State.fillEnd
  split <;> simp
@[simp] theorem State.seekFailed_mem (s : State) (d : DriveId) (r : Request) : (s.seekFailed d r).mem = s.mem := by
  unfold State.seekFailed
  split <;> simp
@[simp] theorem State.suspend_mem (s : State) (d : DriveId) (r : Request) : (s.suspend d r).mem = s.mem := by
  unfold State.suspend
  split <;> simp
@[simp] theorem State.checkFailed_mem (s : State) (d : DriveId) (r : Request) (o : OpRecord) :
    (s.checkFailed d r o).mem = s.mem := by
  unfold State.checkFailed
  (repeat' split) <;> simp
@[simp] theorem State.releaseStep3_mem (s : State) (d : DriveId) (o : OpRecord) : (s.releaseStep3 d o).mem = s.mem := by
  simp [State.releaseStep3]
@[simp] theorem State.step2_mem (s : State) (d : DriveId) (r : Request) (o : OpRecord) (x : Option Strobe) :
    (s.step2 d r o x).mem = s.mem := by
  unfold State.step2
  split <;> simp
@[simp] theorem State.ladderEnd_mem (s : State) (d : DriveId) (r : Request) (o : OpRecord) :
    (s.ladderEnd d r o).mem = s.mem := by
  unfold State.ladderEnd
  (repeat' split) <;> simp
@[simp] theorem State.ladderNext_mem (s : State) (d : DriveId) (r : Request) (o : OpRecord) :
    (s.ladderNext d r o).mem = s.mem := by
  unfold State.ladderNext
  split <;> simp
@[simp] theorem State.endPass_mem (s : State) (d : DriveId) (r : Request) (o : OpRecord) :
    (s.endPass d r o).mem = s.mem := by
  unfold State.endPass
  dsimp only
  split <;> simp
@[simp] theorem State.learn_mem (s : State) (d : DriveId) (r : Request) (o : OpRecord) : (s.learn d r o).mem = s.mem := by
  unfold State.learn
  split <;> simp
@[simp] theorem State.countRecovered_mem (s : State) (o : OpRecord) : (s.countRecovered o).mem = s.mem := by
  unfold State.countRecovered
  split <;> simp
@[simp] theorem State.grant_mem (s : State) (d : DriveId) (r : Request) : (s.grant d r).mem = s.mem := rfl
@[simp] theorem State.openGate_mem (s : State) (r : Request) (x : ChanState) (xs : List TrackItem) :
    (s.openGate r x xs).mem = s.mem := rfl
@[simp] theorem State.takeImage_mem (s : State) (d : DriveId) (r : Request) (o : OpRecord) :
    (s.takeImage d r o).mem = s.mem := by
  unfold State.takeImage
  (repeat' split) <;> simp
@[simp] theorem State.sectorGate_mem (s : State) (d : DriveId) (r : Request) (o : OpRecord) :
    (s.sectorGate d r o).mem = s.mem := by
  unfold State.sectorGate
  split <;> simp
@[simp] theorem State.formatGate_mem (s : State) (d : DriveId) (r : Request) : (s.formatGate d r).mem = s.mem := by
  unfold State.formatGate
  split <;> simp
@[simp] theorem State.closeGate_mem (s : State) : (s.closeGate).mem = s.mem := rfl
@[simp] theorem State.endUnreported_mem (s : State) (d : DriveId) : (s.endUnreported d).mem = s.mem := rfl
@[simp] theorem State.formatCut_mem (s : State) (d : DriveId) (r : Request) : (s.formatCut d r).mem = s.mem := by
  unfold State.formatCut
  split <;> simp
@[simp] theorem State.cutInGap_mem (s : State) (us : Nat) : (s.cutInGap us).mem = s.mem := by
  unfold State.cutInGap
  (repeat' split) <;> simp
@[simp] theorem State.countWrite_mem (s : State) (o : OpRecord) : (s.countWrite o).mem = s.mem := by
  unfold State.countWrite
  split <;> simp
@[simp] theorem State.sweepEnd_mem (s : State) (d : DriveId) (r : Request) (o : OpRecord) (x : List (Strobe × Nat)) :
    (s.sweepEnd d r o x).mem = s.mem := by
  unfold State.sweepEnd
  split <;> simp
@[simp] theorem State.sweepNext_mem (s : State) (d : DriveId) (r : Request) (o : OpRecord) (x : List (Strobe × Nat)) :
    (s.sweepNext d r o x).mem = s.mem := by
  unfold State.sweepNext
  split <;> simp
@[simp] theorem State.sweepPulse_mem (s : State) (d : DriveId) (r : Request) (o : OpRecord) :
    (s.sweepPulse d r o).mem = s.mem := by
  unfold State.sweepPulse
  split <;> simp
@[simp] theorem State.sweepSeekFault_mem (s : State) (d : DriveId) (r : Request) : (s.sweepSeekFault d r).mem = s.mem := by
  simp [State.sweepSeekFault]
@[simp] theorem State.formatWritten_mem (s : State) (d : DriveId) (r : Request) (o : OpRecord) :
    (s.formatWritten d r o).mem = s.mem := by
  unfold State.formatWritten
  (repeat' split) <;> simp
@[simp] theorem State.formatChecked_mem (s : State) (d : DriveId) (r : Request) (o : OpRecord) :
    (s.formatChecked d r o).mem = s.mem := by
  unfold State.formatChecked
  (repeat' split) <;> simp
@[simp] theorem State.formatPulse_mem (s : State) (d : DriveId) (r : Request) (o : OpRecord) :
    (s.formatPulse d r o).mem = s.mem := by
  unfold State.formatPulse
  split <;> simp
@[simp] theorem State.channelPulse_mem (s : State) (d : DriveId) : (s.channelPulse d).mem = s.mem := by
  unfold State.channelPulse
  (repeat' split) <;> simp
@[simp] theorem State.seekFault_mem (s : State) (d : DriveId) (r : Request) (o : OpRecord) :
    (s.seekFault d r o).mem = s.mem := by
  unfold State.seekFault
  dsimp only
  (repeat' split) <;> simp
@[simp] theorem State.wrongId_mem (s : State) (d : DriveId) (r : Request) (o : OpRecord) :
    (s.wrongId d r o).mem = s.mem := by
  unfold State.wrongId
  dsimp only
  split <;> simp
@[simp] theorem State.passId_mem (s : State) (d : DriveId) (r : Request) (o : OpRecord) (k : Nat) :
    (s.passId d r o k).mem = s.mem := by
  unfold State.passId
  (repeat' split) <;> simp
@[simp] theorem State.soughtId_mem (s : State) (d : DriveId) (r : Request) (o : OpRecord) (k : Nat) :
    (s.soughtId d r o k).mem = s.mem := by
  unfold State.soughtId
  (repeat' split) <;> simp
@[simp] theorem State.namedId_mem (s : State) (d : DriveId) (r : Request) (o : OpRecord) (k : Nat) :
    (s.namedId d r o k).mem = s.mem := by
  unfold State.namedId
  (repeat' split) <;> simp
@[simp] theorem State.idField_mem (s : State) (f : IdField) : (s.idField f).mem = s.mem := by
  unfold State.idField
  (repeat' split) <;> simp
@[simp] theorem State.fillBad_mem (s : State) (d : DriveId) (o : OpRecord) (k : Nat) : (s.fillBad d o k).mem = s.mem := by
  unfold State.fillBad
  (repeat' split) <;> simp
@[simp] theorem State.readDone_mem (s : State) (d : DriveId) (r : Request) (o : OpRecord) (f : DataField) :
    (s.readDone d r o f).mem = s.mem := by
  unfold State.readDone
  split <;> simp
/-- A data-field failure stores nothing (R5, R9, R52, R57). -/
@[simp] theorem State.dataResult_none_mem (s : State) (v : Service) (k : Nat) : (s.dataResult v k none).mem = s.mem := by
  unfold State.dataResult
  (repeat' split) <;> simp_all

@[simp] theorem State.dataMissing_mem (s : State) : (s.dataMissing).mem = s.mem := by
  unfold State.dataMissing
  split <;> simp
@[simp] theorem State.idMark_mem (s : State) (f : IdField) : (s.idMark f).mem = s.mem := by
  unfold State.idMark
  split <;> simp
@[simp] theorem State.attemptOver_mem (s : State) (v : Service) : (s.attemptOver v).mem = s.mem := by
  unfold State.attemptOver
  (repeat' split) <;> simp
@[simp] theorem State.cutShort_mem (s : State) : (s.cutShort).mem = s.mem := by
  unfold State.cutShort
  (repeat' split) <;> simp
@[simp] theorem State.attemptEnd_mem (s : State) : (s.attemptEnd).mem = s.mem := by
  unfold State.attemptEnd
  dsimp only
  (repeat' split) <;> simp

/-! ### The guard, the part and the configuration -/

@[simp] theorem State.giveUpSelected_mem (s : State) (d : DriveId) : (s.giveUpSelected d).mem = s.mem := by
  unfold State.giveUpSelected
  (repeat' split) <;> simp
@[simp] theorem State.giveUpQueued_mem (s : State) (d : DriveId) : (s.giveUpQueued d).mem = s.mem := by
  simp [State.giveUpQueued]
@[simp] theorem State.beginLongInhibit_mem (s : State) : (s.beginLongInhibit).mem = s.mem := by
  simp [State.beginLongInhibit]
@[simp] theorem State.releaseReport_mem (s : State) (d : DriveId) : (s.releaseReport d).mem = s.mem := by
  unfold State.releaseReport
  split <;> simp
@[simp] theorem State.adjustMargins_mem (s : State) : (s.adjustMargins).mem = s.mem := rfl
@[simp] theorem State.applyInUse_mem (s : State) (x : BitVec 4) (d : DriveId) : (s.applyInUse x d).mem = s.mem := by
  unfold State.applyInUse
  dsimp only
  (repeat' split) <;> simp
@[simp] theorem State.applyConfig_mem (s : State) (c : ConfigRecord) : (s.applyConfig c).mem = s.mem := by
  unfold State.applyConfig
  dsimp only
  rw [State.eachDrive_mem fun s d => s.applyInUse_mem _ d, State.eachDrive_mem fun s d => s.modDrive_mem d _]
  split
  · rfl
  · exact State.adjustMargins_mem _

@[simp] theorem State.clearCounts_mem (s : State) : (s.clearCounts).mem = s.mem := rfl

/-! ### Requests -/

/-- A request that leaves the buffer memory in its owner's hands leaves it. -/
@[simp] theorem State.onRequest_mem {f : Held → State → State} (hf : ∀ h t, (f h t).mem = t.mem) (s : State) (l : Line)
    (b : BufId) (c : Byte) : (s.onRequest l b c f).mem = s.mem := by
  unfold State.onRequest
  split
  · rw [hf, State.markTaken_mem]
  · rfl

@[simp] theorem State.gated_mem {f : DriveId → State → State} (hf : ∀ d t, (f d t).mem = t.mem) (s : State) (l : Line)
    (b : BufId) (body : List Byte) (g : Group) (w : Bool) : (s.gated l b body g w f).mem = s.mem := by
  unfold State.gated
  (repeat' split) <;> simp [hf]

@[simp] theorem State.onStory_mem {f : DriveId → Profile → Nat → Entry → State → State}
    (hf : ∀ d p n e t, (f d p n e t).mem = t.mem) (s : State) (l : Line) (b : BufId) (body : List Byte) (g : Group) :
    (s.onStory l b body g f).mem = s.mem := by
  unfold State.onStory
  refine State.gated_mem (fun d t => ?_) _ _ _ _ _ _
  (repeat' split) <;> simp [hf]

@[simp] theorem State.unlessClaimed_mem {f : State → State} (hf : ∀ t, (f t).mem = t.mem) (s : State) (l : Line) (b : BufId)
    (d : DriveId) (h : Nat) : (s.unlessClaimed l b d h f).mem = s.mem := by
  unfold State.unlessClaimed
  (repeat' split) <;> simp [hf]

@[simp] theorem State.ifHolder_mem {f : State → State} (hf : ∀ t, (f t).mem = t.mem) (s : State) (l : Line) (b : BufId)
    (d : DriveId) (h : Nat) : (s.ifHolder l b d h f).mem = s.mem := by
  unfold State.ifHolder
  split <;> simp [hf]

@[simp] theorem State.placeWrite_mem {f : State → State} (hf : ∀ t, (f t).mem = t.mem) (s : State) (d : DriveId) (l : Line)
    (b : BufId) : (s.placeWrite d l b f).mem = s.mem := by
  unfold State.placeWrite
  (repeat' split) <;> simp [hf]

@[simp] theorem State.onMaintenance_mem {f : DriveId → ReadProfile → State → State} (hf : ∀ d p t, (f d p t).mem = t.mem)
    (s : State) (l : Line) (b : BufId) (body : List Byte) (p : Option ReadProfile) :
    (s.onMaintenance l b body p f).mem = s.mem := by
  unfold State.onMaintenance
  (repeat' split) <;> simp [hf]

@[simp] theorem State.freeOwn_mem (s : State) (d : DriveId) (h : Nat) (l : Line) : (s.freeOwn d h l).mem = s.mem := by
  unfold State.freeOwn
  split <;> simp
@[simp] theorem State.awaitChange_mem (s : State) (d : DriveId) (p : Profile) (h : Nat) (l : Line) (b : BufId) (x : Bool) :
    (s.awaitChange d p h l b x).mem = s.mem := by
  simp [State.awaitChange]
@[simp] theorem State.createAt_mem (s : State) (d : DriveId) (p : Profile) (n : Nat) (l : Line) (b : BufId) (x : Bool) (sl : List Byte) (i j : Nat) :
    (s.createAt d p n l b x sl i j).mem = s.mem := by
  unfold State.createAt
  split <;> simp
@[simp] theorem State.extendAt_mem (s : State) (d : DriveId) (p : Profile) (n : Nat) (e : Entry) (l : Line) (b : BufId) (g : Nat) (es : List Extent) (k : Nat) :
    (s.extendAt d p n e l b g es k).mem = s.mem := by
  unfold State.extendAt
  split <;> simp
@[simp] theorem State.writeAt_mem (s : State) (d : DriveId) (p : Profile) (n : Nat) (e : Entry) (l : Line) (b : BufId) (k : Nat) :
    (s.writeAt d p n e l b k).mem = s.mem := by
  unfold State.writeAt
  split
  · split
    · exact State.answer_mem ..
    · exact State.placeWrite_mem (fun t => t.extendAt_mem ..) ..
  · split
    · exact State.answer_mem ..
    · exact State.placeWrite_mem (fun t => t.place_mem ..) ..
@[simp] theorem State.fileAt_mem (s : State) (d : DriveId) (p : Profile) (n : Nat) (e : Entry) (l : Line) (b : BufId) (k : Nat) (x : Bool) :
    (s.fileAt d p n e l b k x).mem = s.mem := by
  unfold State.fileAt
  split <;> simp
@[simp] theorem State.moveAt_mem (s : State) (d : DriveId) (p : Profile) (n : Nat) (e : Entry) (l : Line) (b : BufId) (i j : Nat) :
    (s.moveAt d p n e l b i j).mem = s.mem := by
  unfold State.moveAt
  (repeat' split) <;> simp
@[simp] theorem State.spikeAt_mem (s : State) (d : DriveId) (p : Profile) (n : Nat) (e : Entry) (l : Line) (b : BufId) :
    (s.spikeAt d p n e l b).mem = s.mem := by
  simp [State.spikeAt]
@[simp] theorem State.purgeAt_mem (s : State) (d : DriveId) (p : Profile) (n : Nat) (e : Entry) (l : Line) (b : BufId) :
    (s.purgeAt d p n e l b).mem = s.mem := by
  simp [State.purgeAt]
@[simp] theorem State.beginDrain_mem (s : State) (d : DriveId) (l : Line) (b : BufId) :
    (s.beginDrain d l b).mem = s.mem := rfl
@[simp] theorem State.ejectAt_mem (s : State) (l : Line) (b : BufId) (d : DriveId) (x : Bool) :
    (s.ejectAt l b d x).mem = s.mem := by
  unfold State.ejectAt
  (repeat' split) <;> simp
@[simp] theorem State.prepareAt_mem (s : State) (l : Line) (b : BufId) (d : DriveId) (x : List Byte) :
    (s.prepareAt l b d x).mem = s.mem := by
  unfold State.prepareAt
  dsimp only
  (repeat' split) <;> simp
@[simp] theorem State.openAt_mem (s : State) (l : Line) (b : BufId) (d : DriveId) (n : Nat) :
    (s.openAt l b d n).mem = s.mem := by
  unfold State.openAt
  (repeat' split) <;> simp
@[simp] theorem State.watchSetAt_mem (s : State) (l : Line) (b : BufId) (w : WatchSpec) :
    (s.watchSetAt l b w).mem = s.mem := by
  unfold State.watchSetAt
  (repeat' split) <;> simp
@[simp] theorem State.clearWatch_mem (s : State) (l : Line) (b : BufId) (n : Fin 4) (x : Bool) :
    (s.clearWatch l b n x).mem = s.mem := by
  unfold State.clearWatch
  dsimp only
  split <;> simp
@[simp] theorem State.clearBroken_mem (s : State) (l : Line) (b : BufId) : (s.clearBroken l b).mem = s.mem := rfl
@[simp] theorem State.sweepAt_mem (s : State) (l : Line) (b : BufId) (d : DriveId) (p : ReadProfile) (c h : Nat) :
    (s.sweepAt l b d p c h).mem = s.mem := by
  unfold State.sweepAt
  (repeat' split) <;> simp
@[simp] theorem State.rawAt_mem (s : State) (l : Line) (b : BufId) (d : DriveId) (p : ReadProfile) (c h k : Nat) :
    (s.rawAt l b d p c h k).mem = s.mem := by
  unfold State.rawAt
  split <;> simp

/-! ### The two operations that store -/

/-- What is put at a sector of a frame stands there, and no other byte changes (R92, R94). -/
theorem State.putFrame_stored {s : State} {p : ReadProfile} {data : List Byte} (hm : s.memoryCanonical)
    (hl : data.length = p.bytes) (d : DriveId) (i k : Nat) : s.StoredAt (s.putFrame d i p k data) d i p k data :=
  ⟨by simpa [State.frameData, State.putFrame, hl] using s.mem.readRun_writeRun data (frameAddr d i p.spt p.bytes k) hm,
   fun a h => s.mem.read_writeRun_outside data _ _ hm (hl ▸ h)⟩

/-- Only the buffer memory enters `State.StoredAt`. -/
theorem State.StoredAt.of_mem {s t u : State} {d : DriveId} {i k : Nat} {p : ReadProfile} {data : List Byte}
    (h : s.StoredAt t d i p k data) (hu : u.mem = t.mem) : s.StoredAt u d i p k data :=
  ⟨by simpa [State.frameData, hu] using h.1, fun a ha => hu ▸ h.2 a ha⟩

/-- A good data field of a FILL is placed at its sector of the frame (R52 item 1, R92). -/
theorem State.putFill_stored {s : State} {d : DriveId} {r : Request} {i : Nat} (hk : r.kind = .fill i) (k : Nat)
    {data : List Byte} (hm : s.memoryCanonical) (hl : data.length = r.profile.bytes) :
    s.StoredAt (s.putFill d r k data) d i r.profile k data := by
  simpa only [State.putFill, hk] using State.putFrame_stored hm hl d i k

/-- A fill that is not of a frame stores nothing in the buffer memory (R12). -/
theorem State.putFill_mem (s : State) (d : DriveId) {r : Request} (hk : ∀ i, r.kind ≠ .fill i) (k : Nat)
    (data : List Byte) : (s.putFill d r k data).mem = s.mem := by
  unfold State.putFill
  split
  · exact absurd ‹_› (hk _)
  all_goals simp

@[simp] theorem State.fillGood_mem (s : State) (d : DriveId) (r : Request) (o : OpRecord) (k : Nat) (data : List Byte) :
    (s.fillGood d r o k data).mem = (s.putFill d r k data).mem := by
  unfold State.fillGood
  dsimp only
  (repeat' split) <;> simp

theorem frameWhere_none {p : Frame → Bool} {fs : List Frame} (h : ∀ f ∈ fs, p f = false) : frameWhere p fs = none := by
  induction fs with
  | nil => rfl
  | cons f rest ih => simp [frameWhere, h f (by simp), ih fun g hg => h g (by simp [hg])]

/-- A write that has ended successfully is written through, and nothing else of the machine changes (R103). -/
theorem State.writeThrough_wrote (s : State) (d : DriveId) {r : Request} {k : Nat} (hk : r.sectorId = some k)
    (data : List Byte) : s.WroteThrough (s.writeThrough d r data) d r k data where
  stored i n conds hm hi hv hl := by
    have hlt : i < (s.region d).frames.length := by
      by_contra hge
      simp [Region.frame, List.getElem?_eq_none (Nat.le_of_not_lt hge)] at hv
    have hw : s.writeThrough d r data = (s.putFrame d i r.profile k data).modRegion d fun g =>
        { g with frames := g.frames.set i ((g.frame i).markGood k) } := by
      simp only [State.writeThrough, hi, hk]
    rw [hw]
    refine ⟨(State.putFrame_stored hm hl d i k).of_mem rfl, ?_, fun j hj => ?_⟩
    · simp [Region.frame, hlt] at hv ⊢
      simp [hv, Frame.markGood]
    · simp [Region.frame, List.getD_eq_getElem?_getD, List.getElem?_set_ne (Ne.symm hj)]
  nowhere h := by
    simp [State.writeThrough, frameWhere_none h]

/-- Only the buffer memory and the region of the drive enter `State.WroteThrough`. -/
theorem State.WroteThrough.of_eq {s t u : State} {d : DriveId} {r : Request} {k : Nat} {data : List Byte}
    (h : s.WroteThrough t d r k data) (hm : u.mem = t.mem) (hr : u.region d = t.region d) :
    s.WroteThrough u d r k data where
  stored i n conds hc hi hv hl :=
    let ⟨hs, hf, ho⟩ := h.stored i n conds hc hi hv hl
    ⟨hs.of_mem hm, hr ▸ hf, fun j hj => hr ▸ ho j hj⟩
  nowhere hn := ⟨hm.trans (h.nowhere hn).1, hr.trans (h.nowhere hn).2⟩

/-- The successful end of a write stores what its write-through stores. -/
@[simp] theorem State.writeSucceeded_mem (s : State) (d : DriveId) (r : Request) (o : OpRecord) :
    (s.writeSucceeded d r o).mem = (s.writeThrough d r (s.sectorData d r o)).mem := by
  unfold State.writeSucceeded
  dsimp only
  (repeat' split) <;> simp

end Sys2Proof.Machine
end

