-- ==== Sys2Proof/Laws/Track.lean ====
section
/-! SUPPORT. What is laid down under a gate, counted in cells (R2, R3, R4), and the fields it is laid in (R64). -/
namespace Sys2Proof.Machine

@[simp] theorem byteBits_length (b : Byte) : (byteBits b).length = 8 := rfl

@[simp] theorem fmCells_length (bits : List Bool) : (fmCells bits).length = 2 * bits.length := by
  induction bits with
  | nil => rfl
  | cons b rest ih =>
    have e : fmCells (b :: rest) = true :: b :: fmCells rest := rfl
    rw [e, List.length_cons, List.length_cons, List.length_cons, ih]
    omega

@[simp] theorem mfmCells_length (before : Bool) (bits : List Bool) : (mfmCells before bits).length = 2 * bits.length := by
  induction bits generalizing before with
  | nil => rfl
  | cons b rest ih =>
    rw [mfmCells, List.length_cons, List.length_cons, List.length_cons, ih]
    omega

/-- Missing clocks change no cell's place. -/
@[simp] theorem dropClocks_length (pattern cells : List Bool) : (dropClocks pattern cells).length = cells.length := by
  fun_induction dropClocks pattern cells with
  | case1 kept pattern clock data rest ih => simp [ih]
  | case2 => rfl

/-- A byte or a mark takes sixteen cells in both recordings. -/
@[simp] theorem TrackItem.cells_length (r : Recording) (before : Bool) (x : TrackItem) :
    (x.cells r before).length = 16 := by
  cases x <;> cases r <;> simp [TrackItem.cells, byteCells]

@[simp] theorem streamCells_length (r : Recording) (before : Bool) (xs : List TrackItem) :
    (streamCells r before xs).length = 16 * xs.length := by
  induction xs generalizing before with
  | nil => rfl
  | cons x rest ih =>
    rw [streamCells, List.length_append, TrackItem.cells_length, ih, List.length_cons]
    omega

/-- Without trailing filler, the gate's items alone are laid down, whatever the time. -/
theorem Gate.laid_fixed {g : Gate} (h : g.trailing = false) (us : Nat) : g.laid us = g.items := by simp [Gate.laid, h]

/-- With it, the items, the whole bytes of filler that fit and the byte that the index pulse cuts off (R4 item 3). -/
theorem Gate.laid_trailing {g : Gate} (h : g.trailing = true) (us : Nat) :
    g.laid us = g.items ++ filler g.recording (bytesIn g.recording us - g.items.length + 1) := by
  simp [Gate.laid, Gate.trailingBytes, h]

/-- What `cellsBegun` says: cell `n` is one of those that begin within the time exactly when its beginning lies before the
end of the time (R2). -/
theorem lt_cellsBegun (r : Recording) (us n : Nat) : n < cellsBegun r us ↔ n * cellNs r < us * 1000 := by
  cases r <;> simp only [cellsBegun, cellNs] <;> omega

/-- The cells written under a gate are those laid down that begin before it closes. -/
@[simp] theorem Gate.cells_length (g : Gate) (us : Nat) :
    (g.cells us).length = min (cellsBegun g.recording us) (16 * (g.laid us).length) := by
  rw [Gate.cells, List.length_take, streamCells_length]

/-- Under a format's gate every cell that begins before the close is written: the filler runs to the index pulse (R4 item
3). -/
theorem Gate.cells_trailing {g : Gate} (h : g.trailing = true) (us : Nat) :
    (g.cells us).length = cellsBegun g.recording us := by
  rw [Gate.cells_length, g.laid_trailing h, List.length_append, filler, List.length_replicate]
  refine Nat.min_eq_left ?_
  cases hr : g.recording <;> simp only [cellsBegun, bytesIn, cellNs] <;> omega

/-- A gate's items are all written once it has been open for as long as they take. -/
theorem Gate.cells_all {g : Gate} (h : g.trailing = false) {us : Nat}
    (ht : 16 * g.items.length ≤ cellsBegun g.recording us) :
    g.cells us = streamCells g.recording Config.bitBeforeGate g.items := by
  rw [Gate.cells, g.laid_fixed h, List.take_of_length_le]
  rwa [streamCells_length]

/-! ### The field under a gate (R64) -/

/-- What `inField` says: the item is one of the track's, and it lies within the field of an item before it or of the field
whose `left` bytes were still to come. -/
theorem inField_iff (bytes left : Nat) (xs : List TrackItem) (n : Nat) :
    inField bytes left xs n = true ↔
      n < xs.length ∧ (n < left ∨ ∃ j x, xs[j]? = some x ∧ j ≤ n ∧ n < j + x.fieldLength bytes) := by
  induction xs generalizing left n with
  | nil => simp [inField]
  | cons x rest ih =>
    cases n with
    | zero =>
      simp only [inField, decide_eq_true_eq, List.length_cons]
      constructor
      · intro h
        refine ⟨by omega, ?_⟩
        by_cases hl : 0 < left
        · exact .inl hl
        · exact .inr ⟨0, x, rfl, by omega, by omega⟩
      · rintro ⟨-, h | ⟨j, y, hj, h0, h⟩⟩
        · omega
        · obtain rfl : j = 0 := by omega
          simp only [List.getElem?_cons_zero, Option.some.injEq] at hj
          subst hj
          omega
    | succ n =>
      rw [inField, ih, List.length_cons]
      refine and_congr (by omega) ?_
      constructor
      · rintro (h | ⟨j, y, hj, h1, h2⟩)
        · by_cases hl : n + 1 < left
          · exact .inl hl
          · exact .inr ⟨0, x, rfl, by omega, by omega⟩
        · exact .inr ⟨j + 1, y, by simpa using hj, by omega, by omega⟩
      · rintro (h | ⟨j, y, hj, h1, h2⟩)
        · exact .inl (by omega)
        · cases j with
          | zero =>
            simp only [List.getElem?_cons_zero, Option.some.injEq] at hj
            subst hj
            exact .inl (by omega)
          | succ j => exact .inr ⟨j, y, by simpa using hj, by omega, by omega⟩

end Sys2Proof.Machine
end

