-- ==== Sys2Proof/Laws/Channel.lean ====
section
/-! SUPPORT. The channel: the operation in service, a format cut off between its fields, a suspended write and one that the
long inhibit withdraws: what each of these can do. -/
namespace Sys2Proof.Machine

/-! ### The operation in service -/

theorem State.Serving.service {s : State} {d : DriveId} {r : Request} {o : OpRecord} (h : s.Serving d r o) :
    s.service = some { d := d, req := r, op := o } := by simp [State.service, h.granted, h.selected, h.record]

theorem State.Serving.of_service {s : State} {v : Service} (h : s.service = some v) : s.Serving v.d v.req v.op := by
  unfold State.service at h
  split at h
  · cases h
  · rename_i d hd
    split at h
    · rename_i r o hr ho
      obtain rfl := Option.some.inj h
      exact ⟨hd, hr, ho⟩
    · cases h

/-- The selected request, changed in its place, is the selected one still when the change leaves it selected. -/
theorem State.modSelected_selected {s : State} {d : DriveId} {r : Request} (f : Request → Request)
    (h : (s.drive d).selected = some r) (hf : ∀ x, ((f x).state != .queued) = true) :
    ((s.modSelected d f).drive d).selected = some (f r) := by
  have key (p : Request → Bool) (hp : ∀ x, p (f x) = true) (q : List Request) (h : q.find? p = some r) :
      (q.map fun x => if p x then f x else x).find? p = some (f r) := by
    induction q with
    | nil => cases h
    | cons x rest ih =>
      rw [List.find?_cons] at h
      by_cases hx : p x = true
      · rw [hx] at h
        obtain rfl := Option.some.inj h
        simp [hx, hp]
      · have hx' : p x = false := by simpa using hx
        rw [hx'] at h
        simp [hx', ih h]
  rw [State.modSelected, State.modQueue, State.drive_modDrive_self]
  exact key _ hf _ h

/-! ### Cutting a format off (R64, R191) -/

/-- The model's reading of an open gate is R4's: an ID field or a data field is being written. -/
theorem Gate.fieldRuns_iff (r : Request) (g : Gate) (us : Nat) :
    g.fieldRuns r.profile.bytes us = true ↔ r.InField g us := by
  rw [Gate.fieldRuns, inField_iff]
  simp only [Request.InField, Nat.not_lt_zero, false_or]
  refine and_congr Iff.rfl ⟨?_, ?_⟩
  · rintro ⟨j, x, hx, h1, h2⟩
    refine ⟨j, h1, ?_⟩
    rw [hx]
    cases x with
    | byte b => simp [TrackItem.fieldLength] at h2; omega
    | mark k => cases k <;> simp [TrackItem.fieldLength] at h2 ⊢ <;> omega
  · rintro ⟨j, h1, ⟨h2, h3⟩ | ⟨h2, h3⟩⟩
    · exact ⟨j, _, h2, h1, h3⟩
    · exact ⟨j, _, h2, h1, by simp [TrackItem.fieldLength]; omega⟩

/-- Nothing is cut off but a format with its gate open that is writing no field. -/
theorem State.cutInGap_keeps {s : State} {us : Nat}
    (h : ∀ d r o g, s.Serving d r o → s.channel.state = .format → s.channel.gate = some g → r.InField g us) :
    s.cutInGap us = s := by
  unfold State.cutInGap
  split
  · rename_i v g hv hg
    refine if_neg fun c => ?_
    have := (Gate.fieldRuns_iff v.req g us).2 (h _ _ _ g (State.Serving.of_service hv) c.1 hg)
    rw [this] at c
    exact absurd c.2 (by decide)
  · rfl

/-- A format with its gate open that is writing no field is cut off. -/
theorem State.Serving.cutInGap {s : State} {d : DriveId} {r : Request} {o : OpRecord} {g : Gate} {us : Nat}
    (h : s.Serving d r o) (hx : s.channel.state = .format) (hg : s.channel.gate = some g) (hn : ¬ r.InField g us) :
    s.cutInGap us = s.formatCut d r := by
  have hf : g.fieldRuns r.profile.bytes us = false := by
    rw [← Bool.not_eq_true]
    exact fun e => hn ((Gate.fieldRuns_iff r g us).1 e)
  simp [State.cutInGap, h.service, hg, hx, hf]

/-! ### Suspension and withdrawal (R65, R66) -/

/-- With no long inhibit a write in service is suspended, and only its drive and the channel have changed (R65). -/
theorem State.Serving.suspend {s : State} {d : DriveId} {r : Request} {o : OpRecord} (h : s.Serving d r o)
    (hl : s.channel.longInhibit = false) :
    s.Suspended (s.suspend d r) d r o
      ∧ s.suspend d r = { s with drives := (s.suspend d r).drives, channel := (s.suspend d r).channel } := by
  have e : s.suspend d r = ((s.endGrant d).modSelected d fun r => { r with state := .selected }).setAsking d true := by
    simp [State.suspend, hl]
  rw [e]
  refine ⟨⟨rfl, rfl, rfl, ?_, h.record, ?_, ⟨fun e he => ?_, fun _ _ => rfl, fun _ _ => rfl⟩, rfl, rfl, rfl, rfl⟩, rfl⟩
  · simp [State.setAsking, vector_get_set]
  · refine State.modSelected_selected (s := s.endGrant d) _ ?_ fun _ => rfl
    simpa [State.endGrant, State.modPos, DriveSeq.selected] using h.selected
  · simp [State.setAsking, State.modSelected, State.modQueue, State.endGrant, State.modPos, Ne.symm he]

/-- The selected request leaves its queue, and no other has changed place (R74). -/
theorem State.leave_queue {s : State} {d : DriveId} {r : Request} (h : (s.drive d).selected = some r) :
    ((s.leave d).drive d).queue = s.left d := by
  simp only [State.leave, h, State.dropHold]
  split <;> simp [State.dropSelected, State.modQueue, State.left]

/-- Emptying the frame of a track changes the regions alone (R104). -/
theorem State.emptyTrack_eq (s : State) (d : DriveId) (c h : Nat) :
    s.emptyTrack d c h = { s with regions := (s.emptyTrack d c h).regions } := by
  unfold State.emptyTrack
  split <;> rfl

/-- A write given up changes no drive and nothing of the channel (R66). -/
theorem State.givenUp_eq (s : State) (d : DriveId) (r : Request) (hw : r.kind.isWrite = true) :
    (s.givenUp d r).drives = s.drives ∧ (s.givenUp d r).channel = s.channel := by
  have empty (s : State) (c h : Nat) : (s.emptyTrack d c h).drives = s.drives ∧ (s.emptyTrack d c h).channel = s.channel := by
    rw [State.emptyTrack_eq]
    exact ⟨rfl, rfl⟩
  have answered (s : State) (p : Option PendingVolume) (c : Cause) :
      (s.failPending c p).drives = s.drives ∧ (s.failPending c p).channel = s.channel := by
    unfold State.failPending
    split <;> exact ⟨rfl, rfl⟩
  have held (s : State) : (s.dropHold d r).drives = s.drives ∧ (s.dropHold d r).channel = s.channel := by
    unfold State.dropHold
    split <;> exact ⟨rfl, rfl⟩
  unfold State.givenUp
  split
  · dsimp only
    split
    · exact empty _ _ _
    · exact ⟨rfl, rfl⟩
  · dsimp only
    split
    · exact ⟨(empty _ _ _).1.trans (answered _ _ _).1, (empty _ _ _).2.trans (answered _ _ _).2⟩
    · exact answered _ _ _
  · exact ⟨(empty _ _ _).1.trans (answered _ _ _).1, (empty _ _ _).2.trans (answered _ _ _).2⟩
  · rename_i h1 h2 h3
    unfold State.failRequest
    split
    · exact ⟨rfl, rfl⟩
    · split
      · rename_i e
        rw [e] at hw
        cases hw
      · dsimp only
        split
        · exact ⟨(empty _ _ _).1.trans (held s).1, (empty _ _ _).2.trans (held s).2⟩
        · exact held s
      · rename_i e
        rw [e] at hw
        cases hw
      · rename_i e
        rw [e] at hw
        cases hw
      · rename_i e
        rw [e] at hw
        cases hw
      · exact ⟨rfl, rfl⟩

/-- A write withdrawn by the long inhibit has left its queue, its drive asks no more and nothing is kept of it (R66). -/
theorem State.withdrawSelected_gone {s : State} {d : DriveId} {r : Request} (h : (s.drive d).selected = some r)
    (hw : r.kind.isWrite = true) :
    ((s.withdrawSelected d r).drive d).queue = s.left d ∧ (s.withdrawSelected d r).op d = none
      ∧ (s.withdrawSelected d r).channel.asking.get d = false := by
  have e := State.givenUp_eq (((s.leave d).setAsking d false).setOp d none) d r hw
  refine ⟨?_, ?_, ?_⟩
  · rw [State.drive, State.withdrawSelected, e.1]
    exact State.leave_queue h
  · rw [State.op, State.withdrawSelected, e.2]
    exact State.op_setOp_self _ _ _
  · rw [State.withdrawSelected, e.2]
    simp [State.setOp, State.setAsking, vector_get_set]

end Sys2Proof.Machine
end

