-- ==== Sys2Proof/Laws/Check.lean ====
section
/-! SUPPORT. The check register and its own check bytes (R8, R9). -/
namespace Sys2Proof.Machine

/-- A bit equal to the highest stage of the register only shifts it. -/
theorem checkBit_shift (c : BitVec 16) (n : Nat) (b : Bool) (hn : n < 16) (h : b = c.getLsbD (15 - n)) :
    checkBit (c <<< n) b = c <<< (n + 1) := by
  have e : (c <<< n).msb = b := by
    rw [h, BitVec.msb_eq_getLsbD_last, BitVec.getLsbD_shiftLeft]
    simp; omega
  rw [checkBit, e, if_pos (by simp), BitVec.shiftLeft_add]

/-- The register's own bits, most significant first, shift it out. -/
theorem bits_shift_out (c : BitVec 16) : ∀ n ≤ 16,
    ((List.range n).map fun i => c.getLsbD (15 - i)).foldl checkBit c = c <<< n
  | 0, _ => by simp
  | n + 1, h => by
    rw [List.range_succ, List.map_append, List.foldl_append, bits_shift_out c n (by omega)]
    exact checkBit_shift c n _ (by omega) rfl

/-- The check bytes are the register's bits, most significant first. -/
theorem checkBytes_bits (c : BitVec 16) :
    (checkBytes c).flatMap byteBits = (List.range 16).map fun i => c.getLsbD (15 - i) := by
  simp [checkBytes, byteBits, List.range_succ]

/-- Bytes enter the register bit by bit. -/
theorem foldl_checkByte (bs : List Byte) (r : BitVec 16) :
    bs.foldl checkByte r = (bs.flatMap byteBits).foldl checkBit r := by
  induction bs generalizing r with
  | nil => rfl
  | cons b rest ih => simp [ih, checkByte, List.foldl_append]

/-- Its own check bytes bring the register to zero. -/
theorem checkBytes_close (c : BitVec 16) : (checkBytes c).foldl checkByte c = 0#16 := by
  rw [foldl_checkByte, checkBytes_bits, bits_shift_out c 16 (by decide)]
  simp

/-- With their last bit wrong, they leave the generator's terms. -/
theorem checkBytes_miss (c : BitVec 16) : (checkBytes (c ^^^ 1#16)).foldl checkByte c = generator := by
  have e : ((List.range 16).map fun i => (c ^^^ 1#16).getLsbD (15 - i))
      = ((List.range 15).map fun i => c.getLsbD (15 - i)) ++ [!c.getLsbD 0] := by
    simp [List.range_succ]
  have m : (c <<< 15).msb = c.getLsbD 0 := by simp [BitVec.msb_eq_getLsbD_last]
  rw [foldl_checkByte, checkBytes_bits, e, List.foldl_append, bits_shift_out c 15 (by decide)]
  show checkBit (c <<< 15) (!c.getLsbD 0) = generator
  rw [checkBit, m, if_neg (by cases c.getLsbD 0 <;> decide), ← BitVec.shiftLeft_add]
  simp

/-- Zero bytes keep the register at zero. -/
theorem zeros_keep_check : ∀ n, (List.replicate n 0#8).foldl checkByte 0#16 = 0#16
  | 0 => rfl
  | n + 1 => by
    have : checkByte 0#16 0#8 = 0#16 := by decide
    rw [List.replicate_succ, List.foldl_cons, this, zeros_keep_check n]

end Sys2Proof.Machine
end

