-- ==== Sys2Proof/Laws/Volumes.lean ====
section
/-! SUPPORT. The release of a volume: what it can do (R93, R106, R107, R122). -/
namespace Sys2Proof.Machine

/-- A CLOSING region keeps its frame and its readers until its FILL has left. -/
theorem Region.release_closing {r : Region} (h : r.state = .closing) : r.release = r := by simp [Region.release, h]

/-- Every other region shuts. -/
theorem Region.release_close {r : Region} (h : r.state ≠ .closing) : r.release = r.close := by simp [Region.release, h]

/-- The release changes the positioner of the drive, the region and the volume of the drive, and the claims. -/
theorem State.releaseVolume_eq (s : State) (d : DriveId) :
    s.releaseVolume d = { s with
      drives := (s.releaseVolume d).drives, regions := (s.releaseVolume d).regions, vols := (s.releaseVolume d).vols,
      cw := s.cw.volumeGone d } := by
  unfold State.releaseVolume State.unloadIdle
  split <;> rfl

@[simp] theorem State.releaseVolume_line (s : State) (d : DriveId) (l : Line) : (s.releaseVolume d).line l = s.line l := by
  rw [releaseVolume_eq]; rfl

@[simp] theorem State.releaseVolume_vol (s : State) (d : DriveId) : (s.releaseVolume d).vol d = (s.vol d).released := by
  unfold State.releaseVolume State.unloadIdle
  split <;> simp

@[simp] theorem State.releaseVolume_region (s : State) (d : DriveId) :
    (s.releaseVolume d).region d = (s.region d).release := by
  unfold State.releaseVolume State.unloadIdle
  split <;> simp

/-- Of the drive, the head is unloaded at most. -/
theorem State.releaseVolume_drive (s : State) (d : DriveId) :
    (s.releaseVolume d).drive d = s.drive d
      ∨ (s.releaseVolume d).drive d = { s.drive d with pos := (s.drive d).pos.unloaded } := by
  unfold State.releaseVolume State.unloadIdle
  split
  · exact .inr (by simp [State.modPos])
  · exact .inl (by simp)

end Sys2Proof.Machine
end

