-- ==== Sys2Proof/WellFormed.lean ====
section
/-! DEFINITION. Which commands the outside can send. Lines, drives and buffers are in range by their types; what is
left to check is the length of a data field (Table 1-1) and the durations (R22, R23, R59, R179). -/
namespace Sys2Proof

/-- The sector lengths of the size codes 0-3. -/
def sectorLengths : List Nat := [128, 256, 512, 1024]

/-- The longest time between two index pulses that are timed: the no-index timer ends at 500 ms (R23). -/
def maxPulseGapUs : Nat := 500000

/-- The longest time since the last pulse time at a selection: in READY a period ends by itself at 177 000 µs (R22). -/
def maxElapsedUs : Nat := 177000

/-- The longest time a write gate is open: a format's runs from one index pulse to the next (R59), and a drive whose pulse
does not come faults at its second missing pulse, 354 000 µs after the last one (R22). -/
def maxGateUs : Nat := 354000

/-- The longest silence limit, 600 s (Table 10-1). -/
def maxSilenceUs : Nat := 600000000

/-- A command the outside can send. -/
def Instr.wellFormed : Instr → Bool
  | .dataFieldRead f => sectorLengths.contains f.bytes.length
  | .indexPulse _ t => t ≤ maxPulseGapUs
  | .selection _ t => t ≤ maxElapsedUs
  | .lineStatus _ _ t => t ≤ maxSilenceUs
  | .supplyBelowInhibit t => t ≤ maxGateUs
  | .drainTimerExpiry t => t ≤ maxGateUs
  | .volumeStatus .. | .eject .. | .prepareVolume .. | .lookup .. | .listStories .. | .createStory .. | .readBlock ..
  | .writeBlock .. | .fileStory .. | .moveStory .. | .spike .. | .revive .. | .purge .. | .readClock .. | .setClock ..
  | .openStory .. | .release .. | .breakClaim .. | .watchSet .. | .watchStatus .. | .watchClear .. | .configure ..
  | .driveStatus .. | .statistics .. | .clearDrive .. | .sweep .. | .rawRead .. | .restart .. | .characterReceived ..
  | .frameTimerExpiry .. | .frameComplete .. | .replyFrameSent .. | .rateChangeEffect .. | .linePresentFalls ..
  | .linePresentRises .. | .silenceTimerExpiry .. | .readyRises .. | .readyDrops .. | .indexPeriodTimeout ..
  | .speedReached .. | .speedFault .. | .noIndexTimeout .. | .driveFaultAsserted .. | .senseLevelChange ..
  | .recalStepEnd .. | .recalSettleEnd .. | .moveStepEnd .. | .settleTimerEnd .. | .headLoadTimerEnd ..
  | .unloadDelayReached .. | .channelGrant | .idFieldAccepted .. | .dataWindowExpired | .dataFieldWritten
  | .attemptEnd | .volumeDrainComplete .. | .supplyAtRestore | .supplyBelowRestore
  | .restoreTimerExpiry | .longInhibitTimerExpiry | .clockSecond | .powerOn .. | .externalResetAsserted ..
  | .externalResetReleased .. | .selfTestComplete .. | .partRunning | .drainEnd ..
  | .formatFieldFinished => true

end Sys2Proof
end

