-- ==== Sys2Proof/Tests/Slice0.lean ====
section
/-! SUPPORT. Tests: the check of commands refuses ill-formed ones, the spec's worked cases, one command each on small states,
and for every obligation states that meet its hypotheses. Expected results are the spec's own figures. -/
namespace Sys2Proof.Tests
open Sys2Proof Sys2Proof.Machine

/-! ### Small states -/

/-- Run one command. -/
def after (c : Instr) (s : State) : State :=
  match exec c s with
  | .next t => t
  | _ => s

/-- A request as a line unit hands it over. -/
def held (code : Byte) (body : List Byte) : Held :=
  { tag := 1#8, code := code, body := body, stage := .inProgress, taken := false, orphan := false, reply := none,
    cls := .console }

/-- The M256 profile of sections 1.7 and 7.9. -/
def m256 : Profile :=
  { recording := .mfm, sizeCode := 1, spt := 26, sides := 2, interleave := 3, skew := 5, granule := 4, indexSectors := 12 }

/-- The entry of handle 50 in section 7.9. -/
def story50 : Entry :=
  { state := .live, slug := [0x41#8], basket := 2, priority := 1, length := 13000,
    extents := [{ first := 10, count := 5 }, { first := 40, count := 8 }], day := 5, minute := 7, version := 7,
    author := 2, decoded := true }

/-- The label of the volume. -/
def label7 : LabelInfo := { name := List.replicate 8 0x41#8, serial := 4120, day := 5, minute := 7 }

/-- A mounted volume with one story. -/
def mountedVol : Volume :=
  { freshVolume with
    state := .mounted, profile := some m256, label := some label7, entries := freshVolume.entries.set 50 story50,
    sectors := List.replicate 12 .clean, free := [48, 60] }

/-- A drive with a diskette, at rest on a cylinder. -/
def readyDrive (cylinder : Nat) : DriveSeq :=
  { freshDrive true { quietLevels with ready := true, twoSided := true } with
    condition := .ready, noIndexTimer := false,
    pos := { freshPositioner with state := .resting, cylinder := some cylinder } }

/-- The same with the head loaded. -/
def loadedDrive (cylinder : Nat) : DriveSeq :=
  { readyDrive cylinder with pos := { freshPositioner with state := .onTrack, cylinder := some cylinder, headLoaded := true } }

/-- The claim of a line on story 50 of drive 2. -/
def claimOf (l : Line) : Claim := { drive := 2, serial := 4120, handle := 50, holder := l, arrival := 17 }

/-- A running part with a volume in drive 2, and a request in buffer 0 of a line. -/
def running (l : Line) (h : Held) (u : DriveSeq) (v : Volume) (claims : List Claim) : State :=
  { State.reset with
    lines := State.reset.lines.set l.val
      { freshLine true 120 .b9600 with bufs := (Vector.replicate 2 none).set 0 (some h) } l.isLt,
    drives := State.reset.drives.set 2 u,
    vols := State.reset.vols.set 2 v,
    regions := State.reset.regions.set 2 { freshRegion with state := .opened, frames := [.empty, .empty] },
    cw := { freshClaimUnit with claims := claims, counter := 18 },
    part := { freshPart inputsAtReset.straps with state := .running, selfTest := false } }

/-- The usual state: drive 2 at rest on cylinder 0 with the mounted volume, nothing claimed. -/
def desk (l : Line) (code : Byte) (body : List Byte) : State := running l (held code body) (readyDrive 0) mountedVol []

/-- The same with line `l` holding the claim on story 50. -/
def claimed (l : Line) (code : Byte) (body : List Byte) : State :=
  running l (held code body) (readyDrive 0) mountedVol [claimOf l]

/-- A request that waits in a buffer, examined when its line had the class `x`. -/
def heldAs (x : LineClass) (code : Byte) (body : List Byte) : Held := { held code body with cls := x }

/-- The request of `running` waits for its owner, whatever class it was examined by. -/
theorem running_waits_as (x : LineClass) (l : Line) (code : Byte) (body : List Byte) (u : DriveSeq) (v : Volume)
    (cs : List Claim) : (running l (heldAs x code body) u v cs).Waiting l 0 code (heldAs x code body) := by
  have e : (running l (heldAs x code body) u v cs).line l =
      { freshLine true 120 .b9600 with bufs := (Vector.replicate 2 none).set 0 (some (heldAs x code body)) } := by
    show (State.reset.lines.set l.val _ l.isLt).get l = _
    rw [vector_get_set, if_pos rfl]
  refine ⟨rfl, ?_, rfl, rfl, rfl, rfl, ?_⟩
  · show ((running l (heldAs x code body) u v cs).line l).bufs.get 0 = _
    rw [e]
    rfl
  · rw [e]
    exact ⟨fun _ => rfl, fun _ => rfl⟩

/-- The request of `running` waits for its owner. -/
theorem running_waits (l : Line) (code : Byte) (body : List Byte) (u : DriveSeq) (v : Volume) (cs : List Claim) :
    (running l (held code body) u v cs).Waiting l 0 code (held code body) := running_waits_as .console l code body u v cs

/-! ### The character on the line (R169) -/

/-- 0xC3 is 1100 0011: least significant bit first, between a low start bit and a high stop bit. -/
theorem test_char_bits :
    charBits 0xC3#8 = [false, true, true, false, false, false, false, true, true, true]
      ∧ charOf [true, true, false, false, false, false, true, true] true = (0xC3#8, false) := by decide

/-- A break is one character with a framing error. -/
theorem test_char_break : charOf (List.replicate 8 false) false = (0x00#8, true) := by decide

/-! ### The check of commands (WellFormed) -/

theorem test_wellFormed_data_length : (Instr.dataFieldRead
    { sync := 4, mark := .data, bytes := List.replicate 100 0#8, check := 0, whole := true }).wellFormed = false := by
  decide
theorem test_wellFormed_pulse : (Instr.indexPulse 0 500001).wellFormed = false
    ∧ (Instr.indexPulse 0 500000).wellFormed = true := by decide
theorem test_wellFormed_selection : (Instr.selection 0 177001).wellFormed = false
    ∧ (Instr.selection 0 177000).wellFormed = true := by decide
theorem test_wellFormed_lineStatus : (Instr.lineStatus 0 0 600000001).wellFormed = false
    ∧ (Instr.lineStatus 0 0 600000000).wellFormed = true := by decide
theorem test_wellFormed_gate : (Instr.supplyBelowInhibit 354001).wellFormed = false
    ∧ (Instr.drainTimerExpiry 354001).wellFormed = false ∧ (Instr.supplyBelowInhibit 354000).wellFormed = true := by decide

/-! ### Worked cases of the spec -/

/-- R2: 5 208 and 10 416 whole bytes pass at nominal speed, 4 875 and 9 750 at the fast end of the speed window. -/
theorem test_trackBytes : bytesIn .fm 166667 = 5208 ∧ bytesIn .mfm 166667 = 10416 ∧ bytesIn .fm 156000 = 4875
    ∧ bytesIn .mfm 156000 = 9750 := by decide
/-- Table 1-3, F128 and M256: the bytes of a sector as written, the formatted bytes before the trailing filler and the
filler that follows them at nominal speed. -/
theorem test_formatLengths :
    let f128 : ReadProfile := { recording := .fm, sizeCode := 0, spt := 26 }
    (formatSector f128 0 0 1).length = 181 ∧ (formatSector m256.read 5 0 22).length = 362
    ∧ (let g : Gate := { zone := .outer, precomp := 0, recording := .fm, items := filler .fm 4779, trailing := true }
       g.trailingBytes 166667 = 429)
    ∧ (let g : Gate := { zone := .outer, precomp := 0, recording := .mfm, items := filler .mfm 9555, trailing := true }
       g.trailingBytes 166667 = 861) := by decide +kernel
/-- R4 item 3, R2: filler runs to the pulse. In 166 667 µs 83 333 half-cells of FM end and one more begins 1 µs before the
pulse, so 83 334 are written; the cells of MFM end with the pulse. -/
theorem test_lastFillerCell :
    let gate (r : Recording) : Gate := { zone := .outer, precomp := 0, recording := r, items := [], trailing := true }
    ((gate .fm).cells 166667).length = 83334 ∧ ((gate .mfm).cells 166667).length = 166667 :=
  ⟨Gate.cells_trailing rfl _, Gate.cells_trailing rfl _⟩
/-- R2: 0x4E after a 0 bit, cell by cell; its transitions stand two, three or four cells apart. -/
theorem test_mfmCells :
    byteCells .mfm false 0x4E#8 = [true, false, false, true, false, false, true, false,
      false, true, false, true, false, true, false, false] := by decide
/-- R10: spacings 3, 2 and 2 cells; the second transition has three cells before it and two after it and is written late. -/
theorem test_precomp : transitions 1000 125 [true, false, false, true, false, true, false, true] = [0, 3125, 5000, 7000] := by
  decide
/-- R10 items 1 and 4: after a byte of zeros, the first clock transition of 0x80 that follows its 1 bit has three cells before
it and two after it, so it is written late; where the gate of a write is closed just after it, as by a removal (R35), it is the
last one and stands where it is. -/
theorem test_precomp_cut :
    let g : Gate := { zone := .inner, precomp := 125, recording := .mfm, items := [.byte 0x00#8, .byte 0x80#8],
                      trailing := false }
    20125 ∈ g.transitions 32 ∧ (g.transitions 21).getLast? = some 20000 := by
  have all : ∀ b, 20125 ∈ transitions 1000 125 ((streamCells .mfm b [.byte 0x00#8, .byte 0x80#8]).take 32)
      ∧ (transitions 1000 125 ((streamCells .mfm b [.byte 0x00#8, .byte 0x80#8]).take 21)).getLast? = some 20000 := by
    decide
  exact all _
/-- R4, Tables 1-2 and 1-3: on an F128 track the first ID mark is byte 79 and its field ends at byte 85; the data mark is byte
103 and its field ends at byte 233. -/
theorem test_field_runs :
    let p : ReadProfile := { recording := .fm, sizeCode := 0, spt := 26 }
    let g : Gate := { zone := .outer, precomp := 0, recording := .fm, items := formatTrack p 1 0 0 0 0, trailing := true }
    (fun n => g.fieldRuns 128 (32 * n)) <$> [0, 78, 79, 85, 86, 102, 103, 233, 234]
      = [false, false, true, true, false, false, true, true, false] := by decide +kernel

/-- Section 1.7.1: block 37 of the story stands at sector ID 22 of track (5, 0), slot 9. -/
theorem test_block37 : m256.blocks story50 = 52 ∧ m256.storyCapacity story50 = 13312 ∧ m256.granules = 975
    ∧ m256.locate story50.extents 37 = some { cylinder := 5, head := 0, sectorId := 22 } ∧ m256.slot 5 0 22 = 9 := by decide
/-- Section 1.7.2: handle 50 is in index sector 6, sector ID 7 of track (1, 0), slot 2. -/
theorem test_handle50 : m256.capacity = 96 ∧ m256.used = 12 ∧ m256.sectorOf 50 = 6 ∧ m256.indexPlace 6 = (0, 7)
    ∧ m256.slot 1 0 7 = 2 := by decide
/-- Section 4.5.1: the three costs. -/
theorem test_costs :
    slotUs 26 = 6410 ∧ nowSlot 26 20000 = 3
    ∧ costOf (defaultConfig .b9600) 26 true 5 20000 (Request.fresh (.desk 5) (.fill 0) 8 1 none none m256.read) = 6
    ∧ costOf (defaultConfig .b9600) 26 true 5 20000
        (Request.fresh (.desk 2) (.write 0 none) 5 0 (some 22) (some 9) m256.read) = 6
    ∧ costOf (defaultConfig .b9600) 26 true 5 20000
        (Request.fresh (.desk 0) (.write 0 none) 4 1 (some 10) (some 20) m256.read) = 17 := by
  decide
/-- Section 6.3.1: the label of the worn diskette. -/
theorem test_quantize :
    quantize { info := label7, recording := 2, sizeCode := 1, spt := 28, sides := 2, interleave := 4, skew := 31,
               indexSectors := 12, granule := 4 } false =
      some { profile := { m256 with sides := 1, interleave := 1 }, limited := true, interleaveIgnored := true,
             changed := true } := by
  decide
/-- The state of Table 2-4: a FILL on cylinder 8 selected at cylinder 5. -/
def moving : State :=
  after (.selection 2 20000) (State.reset.modDrive 2 fun _ =>
    { readyDrive 5 with queue := [Request.fresh (.desk 0) (.fill 0) 8 0 none none m256.read] })
/-- Table 2-4: the first step is made at the selection, and the next at its end. -/
theorem test_move :
    ((moving.drive 2).pos.state, (moving.drive 2).pos.cylinder, (moving.drive 2).pos.remaining) = (.moving, some 6, 2)
    ∧ ((after (.moveStepEnd 2) moving).drive 2).pos.cylinder = some 7 := by
  decide +kernel
/-- The state of section 7.9 step 1: a WRITE BLOCK of block 52. -/
def extended : State :=
  after (.writeBlock 0 0) (claimed 0 codeWriteBlock ([2#8, 50#8, 0#8, 52#8, 1#8, 0#8] ++ List.replicate 256 7#8))
/-- Section 7.9 step 1: the write takes granule 48, the block is at ID 11 of track (5, 1), and the entry's sector is
offered at once. -/
theorem test_extend :
    ((extended.vol 2).entry 50).extents = [{ first := 10, count := 5 }, { first := 40, count := 9 }]
    ∧ (extended.vol 2).free = [60] ∧ (extended.vol 2).sector 6 = .queued
    ∧ ((extended.drive 2).queue.map fun r => (r.cylinder, r.head, r.sectorId)) = [(5, 1, some 11), (1, 0, some 7)] := by
  decide +kernel
/-- Section 7.9 step 3: FILE with length 12 300 on 56 allocated blocks keeps 13 granules. -/
theorem test_file : neededGranules m256 12300 = 13
    ∧ cutExtents 13 [{ first := 10, count := 5 }, { first := 40, count := 9 }]
        = [{ first := 10, count := 5 }, { first := 40, count := 8 }] := by decide

/-! #### Section 8.6 -/

/-- The watches of the sequence: line 4's watch 0, line 6's watches 0 and 1. -/
def watch40 : WatchSpec := { drive := some 2, target := .baskets 0x0004#16, events := 0b10010#5, signal := true }
def watch60 : WatchSpec := { drive := some 2, target := .story 50, events := 0b10000#5, signal := false }
def watch61 : WatchSpec := { drive := none, target := .baskets 0x0014#16, events := 0b01001#5, signal := true }

/-- The unit at the start of the sequence, but for the claims. -/
def handover (claims : List Claim) : ClaimUnit :=
  { freshClaimUnit with
    claims := claims, counter := 18,
    watches := (freshClaimUnit.watches.set 4 ((Vector.replicate 4 Watch.unused).set 0 (.armed watch40))).set 6
      (((Vector.replicate 4 Watch.unused).set 0 (.armed watch60)).set 1 (.armed watch61)) }

/-- The last event of the story's claim being freed. -/
def freed50 : LastEvent := { kind := .claimFreed, drive := 2, handle := 50 }

/-- Step 1: line 2's FILE with the release flag. -/
def filed : State :=
  after (.fileStory 2 0) { desk 2 codeFile [2#8, 50#8, 0#8, 0x30#8, 0x0C#8, 1#8] with cw := handover [claimOf 2] }

theorem test_file_frees_claim : filed.cw.claims = [] ∧ (filed.cw.watches.get 4).get 0 = .raised watch40 freed50
    ∧ (filed.cw.watches.get 6).get 0 = .raised watch60 freed50 ∧ (filed.cw.watches.get 6).get 1 = .armed watch61
    ∧ filed.attention 4 = true ∧ filed.attention 6 = false := by decide +kernel

/-- Step 6: line 6 breaks line 4's claim. -/
def broken : State :=
  after (.breakClaim 6 0) { desk 6 codeBreakClaim [2#8, 50#8] with cw := handover [claimOf 4] }

theorem test_break_sets_flag : broken.cw.claims = [] ∧ broken.cw.broken.get 4 = some (2, 50)
    ∧ (broken.cw.watches.get 4).get 0 = .raised watch40 freed50 ∧ (broken.cw.watches.get 6).get 0 = .armed watch60
    ∧ broken.attention 4 = true
    ∧ (broken.buffer 6 0).bind Held.reply = some (.done false false [4#8]) := by decide +kernel

/-! #### Section 9.9 -/

/-- Line 3 with both buffers HELD, a frame in its receive area, and what of replies is on the line. -/
def busyLine (frame : List Byte) (judged : Bool) (pending : Option PendingReply) : State :=
  (desk 3 codeReadBlock [2#8, 50#8, 0#8, 37#8]).modLine 3 fun u =>
    { u with bufs := u.bufs.set 1 (some (held codeWriteBlock [])), rx := .held frame judged, pendingReply := pending,
             order := if pending.isSome then [.pendingPlace] else [],
             tx := pending.map fun r => replyFrame r.tag r.code r.reply }

/-- A LIST frame with tag 13. -/
def frame13 : List Byte := (frameOf 13#8 codeList [2#8, 0xFF#8, 0xFF#8, 7#8, 0#8, 0#8]).drop 1
/-- A READ CLOCK frame with tag 14 and a wrong check byte. -/
def frame14 : List Byte := [0#8, 2#8, 14#8, 0x4A#8, 0#8]
/-- The BUSY of tag 13. -/
def busy13 : PendingReply := { tag := 13#8, code := codeList, reply := .busy .noBuffer }

/-- Step 3: with both buffers HELD the frame is answered from the pending place. -/
theorem test_no_buffer :
    let u := (after (.frameComplete 3) (busyLine frame13 false none)).line 3
    u.pendingReply = some busy13 ∧ u.order = [.pendingPlace] ∧ u.framesTaken = 1 ∧ u.rx = .hunt := by decide +kernel
/-- Step 4: the frame with the wrong check waits HELD, counted once. -/
theorem test_frame_waits :
    let u := (after (.frameComplete 3) (busyLine frame14 false (some busy13))).line 3
    u.rx = .held frame14 true ∧ u.checkErrors = 1 ∧ u.pendingReply = some busy13 := by decide +kernel
/-- Step 5: the BUSY sent, the frame is judged again and answered, and not counted again. -/
theorem test_frame_judged_again :
    let u := (after (.replyFrameSent 3) (busyLine frame14 true (some busy13))).line 3
    u.rx = .hunt ∧ u.checkErrors = 0 ∧ u.order = [.pendingPlace]
    ∧ u.pendingReply.map PendingReply.reply = some (.lineFault .check) := by decide +kernel

/-! ### States that meet the hypotheses of the obligations -/

/-- The usual state with nothing asked: a running part, the volume mounted in drive 2. -/
def base : State := desk 0 codeReadClock []

theorem witness_StepRunsTheFrontCommand :
    ({ State.reset with pending := [.channelGrant] } : State).pending = .channelGrant :: [] ∧ State.reset.pending = [] :=
  ⟨rfl, rfl⟩

theorem witness_PowerOnAndResetTakeTheResetState :
    (after (.externalResetAsserted true) base).part.extReset = true := by decide +kernel

/-- The part with its self-test complete. -/
def tested : State := after (.selfTestComplete (Vector.replicate 4 false)) State.reset

theorem witness_StartUpEndsInRunning :
    (State.reset.part.state = .startUp ∧ State.reset.part.selfTest = true)
    ∧ (tested.part.state = .startUp ∧ tested.part.selfTest = false ∧ tested.part.extReset = false
        ∧ (∀ l, (tested.line l).resetDue = false) ∧ ∀ d, (tested.drive d).reportHeld = false)
    ∧ (let s := tested.modDrive 2 fun _ => { readyDrive 0 with reportHeld := true }
       (∀ l, (s.line l).resetDue = false) ∧ (s.drive 2).reportHeld = true ∧ (s.vol 2).state = .noVolume
        ∧ (s.drive 2).queue = []) := by decide +kernel

/-- A line as `base` has it, with its receive area set. -/
def receiving (rx : RxArea) : State := base.modLine 0 fun u => { u with rx := rx }

theorem witness_ReceiverHuntsAssemblesAndAbandons :
    (∀ rx, (receiving rx).part.extReset = false ∧ ((receiving rx).line 0).present = true
        ∧ ((receiving rx).line 0).resetDue = false ∧ ((receiving rx).line 0).rx = rx
        ∧ (((receiving rx).line 0).tx = none ↔ ((receiving rx).line 0).order = []))
    ∧ ((base.line 1).present = false ∧ ((base.modLine 0 fun u => { u with resetDue := true }).line 0).resetDue = true)
    ∧ ((0#8).toNat * 256 + (1#8).toNat < 2 ∧ 1100 < (4#8).toNat * 256 + (0x4D#8).toNat)
    ∧ (2 ≤ (0#8).toNat * 256 + (2#8).toNat ∧ (4#8).toNat * 256 + (0x4C#8).toNat ≤ 1100)
    ∧ ([7#8].length < (0#8).toNat * 256 + (2#8).toNat ∧ [7#8, 0x4A#8].length = (0#8).toNat * 256 + (2#8).toNat) :=
  ⟨fun rx => ⟨rfl, rfl, rfl, rfl, fun _ => rfl, fun _ => rfl⟩, by decide +kernel, by decide, by decide, by decide⟩

/-- The characters after the start code of a READ CLOCK frame with tag 1. -/
def clockFrame : List Byte := (frameOf 1#8 codeReadClock []).drop 1

/-- The line with a frame HELD, every buffer as given, and a reply in the pending place or not. -/
def judging (bs : List Byte) (bufs : Vector (Option Held) 2) (pending : Bool) : State :=
  base.modLine 0 fun u =>
    { u with rx := .held bs false, bufs := bufs, order := if pending then [.pendingPlace] else [],
             pendingReply := if pending then some { tag := 0#8, code := 0#8, reply := .lineFault .check } else none,
             tx := if pending then some [startCode] else none }

theorem witness_FramesAreJudgedAnsweredOrTaken :
    (frameGood [0#8, 2#8, 1#8, 0x4A#8, 0#8] = false ∧ frameGood clockFrame = true)
    ∧ ((judging clockFrame (Vector.replicate 2 none) false).modPart fun p => { p with state := .draining }).part.state
        ≠ .running
    ∧ (∀ b, (((judging clockFrame (Vector.replicate 2 (some (held codeReadClock []))) true).line 0).bufs.get b).isSome)
    ∧ (∀ bs bufs p, let s := judging bs bufs p
        s.part.extReset = false ∧ s.part.state = .running ∧ (s.line 0).rx = .held bs false
        ∧ ((s.line 0).tx = none ↔ (s.line 0).order = [])
        ∧ ((s.line 0).pendingReply = none ↔ p = false) ∧ (s.line 0).bufs = bufs)
    ∧ (bodyLength codeReadClock [] = some (some 0) ∧ permitted codeReadClock [] (base.classOf 0) = true
        ∧ bodyLength codeReadClock [1#8] ≠ some (some 1) ∧ permitted codeRestart [] (base.classOf 1) = false) := by
  refine ⟨by decide, by decide, by decide +kernel, fun bs bufs p => ?_, by decide +kernel⟩
  refine ⟨rfl, rfl, rfl, ?_, ?_, rfl⟩
  · show ((if p then some [startCode] else none) = none ↔ (if p then [ReplySlot.pendingPlace] else []) = [])
    cases p <;> simp
  · show ((if p then some _ else none) = none ↔ _)
    cases p <;> simp

/-- The reply order of a line unit is as R175 to R177 give it, as a check. -/
def orderlyCheck (u : LineUnit) : Bool :=
  decide u.order.Nodup
    && [0, 1].all (fun b : BufId =>
      match u.bufs.get b with
      | none => decide (ReplySlot.buf b ∉ u.order)
      | some h => decide ((ReplySlot.buf b ∈ u.order ↔ h.stage ≠ .inProgress)
          ∧ (h.stage ≠ .inProgress ↔ h.reply.isSome = true) ∧ (h.stage = .sending ↔ u.order.head? = some (.buf b))))
    && decide (ReplySlot.pendingPlace ∈ u.order ↔ u.pendingReply.isSome = true) && decide (u.tx = none ↔ u.order = [])

theorem orderly_of_check {u : LineUnit} (c : orderlyCheck u = true) : u.Orderly := by
  simp only [orderlyCheck, Bool.and_eq_true, decide_eq_true_eq, List.all_eq_true] at c
  obtain ⟨⟨⟨once, bufs⟩, place⟩, idle⟩ := c
  have key (b : BufId) := bufs b (by revert b; decide)
  refine ⟨once, fun b => ?_, fun b h e => ?_, place, idle, fun b h e => ?_⟩
  · have := key b
    split at this
    · simp_all
    · rename_i h e
      rw [(of_decide_eq_true this).1]
      simp [e]
  · have := key b
    rw [e] at this
    exact (of_decide_eq_true this).2.1
  · have := key b
    rw [e] at this
    exact (of_decide_eq_true this).2.2

/-- A line sends the reply of buffer 0 while that of buffer 1 and the pending place wait. -/
def sendingUnit : LineUnit :=
  { freshLine true 120 .b9600 with
    bufs := (Vector.replicate 2 none).set 0 (some { held codeReadClock [] with stage := .sending, reply := some (.ok []) })
      |>.set 1 (some { held codeReadClock [] with stage := .complete, reply := some (.ok []) }),
    order := [.buf 0, .buf 1, .pendingPlace],
    pendingReply := some { tag := 0#8, code := 0#8, reply := .lineFault .check },
    tx := some [startCode] }

theorem sendingUnit_orderly : sendingUnit.Orderly := orderly_of_check (by decide +kernel)

/-- Every line of the usual state is orderly. -/
theorem base_orderly : base.linesOrderly := fun l =>
  orderly_of_check ((by decide +kernel : ∀ l, orderlyCheck (base.line l) = true) l)

theorem witness_SentRepliesFreeTheirBuffer :
    (let s := base.modLine 0 fun _ => sendingUnit
     s.part.extReset = false ∧ (s.line 0).Orderly ∧ (s.line 0).tx = some [startCode]
      ∧ (s.line 0).order = .buf 0 :: [.buf 1, .pendingPlace] ∧ (∀ bs, (s.line 0).rx ≠ .held bs true)
      ∧ (s.line 0).resetDue = false)
    ∧ (let s := base.modLine 0 fun u => u.setBuf 0 (some { held codeReadClock [] with orphan := true })
       ∃ h, s.buffer 0 0 = some h ∧ h.stage = .inProgress ∧ h.orphan = true ∧ ∀ bs, (s.line 0).rx ≠ .held bs true)
    ∧ (let s := base.modLine 0 fun _ => { sendingUnit with
          bufs := sendingUnit.bufs.set 1 none, order := [.buf 0], pendingReply := none, resetDue := true }
       (s.line 0).Orderly ∧ (s.line 0).order = [.buf 0] ∧ (s.line 0).resetDue = true
        ∧ ∀ bs, (s.line 0).rx ≠ .held bs true)
    ∧ (∀ bs, let s := base.modLine 0 fun _ => { sendingUnit with rx := .held bs true }
       (s.line 0).Orderly ∧ (s.line 0).order = .buf 0 :: [.buf 1, .pendingPlace] ∧ (s.line 0).rx = .held bs true
        ∧ s.part.state = .running)
    ∧ (∀ bs, let s := busyLine bs true (some busy13)
       (s.line 3).Orderly ∧ (s.line 3).order = .pendingPlace :: [] ∧ (s.line 3).rx = .held bs true
        ∧ ∀ b, (s.line 3).bufs.get b ≠ none)
    ∧ (frameGood frame14 = false ∧ frameGood clockFrame = true
        ∧ bodyLength (frameCode clockFrame) (frameBody clockFrame) = some (some (frameBody clockFrame).length)
        ∧ permitted (frameCode clockFrame) (frameBody clockFrame) (base.classOf 0) = true) :=
  ⟨⟨rfl, sendingUnit_orderly, rfl, rfl, fun _ => RxArea.noConfusion, rfl⟩,
   ⟨_, rfl, rfl, rfl, fun _ => RxArea.noConfusion⟩,
   ⟨orderly_of_check (by decide +kernel), rfl, rfl, fun _ => RxArea.noConfusion⟩,
   fun bs => ⟨orderly_of_check (by rfl), rfl, rfl, rfl⟩,
   fun bs => ⟨orderly_of_check (by rfl), rfl, rfl, fun b => by
    revert b; exact (by decide +kernel : ∀ b, ((busyLine [] true (some busy13)).line 3).bufs.get b ≠ none)⟩,
   by decide +kernel⟩

/-- A DONE reply of a CONFIGURE waits behind another reply, the configured rate being 76 800 baud. -/
def rateChanged (own : Bool) : State :=
  { base.modLine 0 fun _ => { sendingUnit with bufs := sendingUnit.bufs.set 1 (some
      { held codeConfigure [] with stage := .complete, reply := some (.ok []), oldRate := own }) } with
    cfg := { base.cfg with rates := Vector.replicate 8 .b76800 } }

/-- R182 item 1: the reply of a CONFIGURE that changed its own line's rate goes out at the old rate; the reply of one that
did not goes out at the new rate. -/
theorem test_old_rate_of_configure :
    ((after (.replyFrameSent 0) (rateChanged true)).line 0).rate = .b9600
    ∧ ((after (.replyFrameSent 0) (rateChanged false)).line 0).rate = .b76800 := by decide +kernel

theorem witness_LineLossReturnSilenceAndRate :
    (base.part.extReset = false ∧ (base.line 0).present = true ∧ (base.line 0).resetDue = false)
    ∧ (base.line 1).present = false ∧ ((base.line 0).tx = none ∧ (base.line 0).rx = .hunt)
    ∧ ((receiving (.receiving [])).line 0).rx ≠ .hunt ∧ (base.line 0).silence = .running 120
    ∧ ((base.modLine 0 fun u => { u with resetDue := true }).line 0).resetDue = true
    ∧ (base.line 1).silence = .stopped ∧ (base.modPart fun p => { p with extReset := true }).part.extReset = true := by
  decide +kernel

theorem witness_StatusRequestsChangeNothingElse :
    (∀ code ∈ [codeReadClock, codeWatchStatus, codeVolumeStatus, codeDriveStatus, codeLineStatus], ∀ body,
        (desk 0 code body).Waiting 0 0 code (held code body))
    ∧ driveOf 3 = some 3 ∧ driveOf 4 = none ∧ lineOf 7 = some 7 ∧ lineOf 8 = none :=
  ⟨fun _ _ _ => running_waits .., rfl, rfl, rfl, rfl⟩

theorem witness_TheClockIsSetAndCounts :
    (desk 0 codeSetClock [1#8, 0x6E#8, 5#8, 0x9F#8]).Waiting 0 0 codeSetClock (held codeSetClock [1#8, 0x6E#8, 5#8, 0x9F#8])
    ∧ (let s : State := { base with clock := { day := 366, minute := 1439, second := 59 } }
       s.part.extReset = false ∧ s.clock.second < 60 ∧ s.clock.minute < 1440 ∧ s.clock.day ≤ 366 ∧ s.clock.day ≠ 0)
    ∧ (base.clock.day = 0 ∧ base.clock.second < 60 ∧ base.clock.minute < 1440) :=
  ⟨running_waits .., by decide +kernel, by decide +kernel⟩

theorem witness_StatisticsReportThenClear : ∀ flag, (desk 0 codeStatistics [flag]).Waiting 0 0 codeStatistics
    (held codeStatistics [flag]) := fun _ => running_waits ..

theorem witness_VolumeGateIsTableSixThree :
    (∀ c v, let s := running 0 (held codeEject []) { readyDrive 0 with condition := c } { mountedVol with state := v } []
        (s.drive 2).condition = c ∧ (s.vol 2).state = v)
    ∧ (∀ code body, (desk 0 code body).Waiting 0 0 code (held code body))
    ∧ driveOf (byteAt [4#8] 0) = none ∧ driveOf (byteAt [2#8] 0) = some 2
    ∧ (let s := running 0 (held codeOpen [2#8]) (readyDrive 0) freshVolume []
       ∀ g ∈ [Group.reads, .changes], s.gateReason 2 g false = some .notReady)
    ∧ base.gateReason 2 .prepare true = none :=
  ⟨fun _ _ => ⟨rfl, rfl⟩, fun _ _ => running_waits .., rfl, rfl, by decide +kernel, by decide +kernel⟩

/-! ### Volumes and stories -/

/-- The request of line 0 in service on track (5, 0), of a kind. -/
def inService (k : ReqKind) : Request :=
  { Request.fresh (.desk 0) k 5 0 (some 22) (some 9) m256.read with state := .inService, granted := true }

/-- The FORMAT-TRACK of a track in service. -/
def formatting (cylinder : Nat) : Request :=
  { Request.fresh .volume .formatTrack cylinder 0 none none m256.read with state := .inService, granted := true }

/-- The channel serves a request at drive 2 on cylinder 5. -/
def serving (h : Held) (r : Request) (o : OpRecord) (x : ChanState) (gate : Option Gate) (u : DriveSeq → DriveSeq) : State :=
  (running 0 h (u { loadedDrive 5 with queue := [r] }) mountedVol []).modChannel fun c =>
    { c with granted := some 2, ops := c.ops.set 2 (some o), state := x, gate := gate }

/-- What every state of `serving` has. -/
theorem serving_has (h : Held) (r : Request) (o : OpRecord) (x : ChanState) (gate : Option Gate) (hr : r.state = .inService) :
    (serving h r o x gate id).channel.granted = some 2 ∧ ((serving h r o x gate id).drive 2).selected = some r
      ∧ (serving h r o x gate id).op 2 = some o ∧ (serving h r o x gate id).channel.state = x
      ∧ (serving h r o x gate id).channel.gate = gate ∧ ((serving h r o x gate id).drive 2).pos.cylinder = some 5
      ∧ ((serving h r o x gate id).drive 2).condition = .ready ∧ (serving h r o x gate id).part.extReset = false
      ∧ (serving h r o x gate id).part.drainOver = false
      ∧ (serving h r o x gate id).channel.inhibit = false ∧ (serving h r o x gate id).channel.longInhibit = false
      ∧ (serving h r o x gate id).buffer 0 0 = some h := by
  refine ⟨rfl, ?_, rfl, rfl, rfl, rfl, rfl, rfl, rfl, rfl, rfl, rfl⟩
  show List.find? (fun r : Request => r.state != .queued) [r] = some r
  simp [hr]

/-- The ID field of a sector of 256 bytes on head 0, with a cylinder and its check right. -/
def idField (cylinder sector : Byte) : IdField :=
  { sync := 4, cylinder := cylinder, head := 0#8, sectorId := sector, sizeCode := 1#8,
    check := checkOf [Config.markByte .id, cylinder, 0#8, sector, 1#8] }

/-- The same with its check wrong. -/
def badIdField (cylinder sector : Byte) : IdField :=
  { idField cylinder sector with check := (idField cylinder sector).check ^^^ 1#16 }

/-- A data field of 256 bytes with its check right: its first two bytes bring the check register to zero, and zeros keep
it there. -/
def dataField : DataField :=
  { sync := 4, mark := .data, bytes := checkBytes (checkOf [Config.markByte .data]) ++ List.replicate 254 0#8,
    check := 0#16, whole := true }

theorem idField_good (cylinder sector : Byte) : idGood (idField cylinder sector) = true := by
  have (bytes : List Byte) : checkGood bytes (checkOf bytes) = true := by
    rw [checkGood, checkOf, List.foldl_append, ← checkOf, checkBytes_close]
    rfl
  exact this (idBytes (idField cylinder sector))

theorem badIdField_bad (cylinder sector : Byte) : idGood (badIdField cylinder sector) = false := by
  have (bytes : List Byte) : checkGood bytes (checkOf bytes ^^^ 1#16) = false := by
    rw [checkGood, checkOf, List.foldl_append, ← checkOf, checkBytes_miss]
    rfl
  exact this (idBytes (idField cylinder sector))

theorem dataField_good : dataGood 256 dataField = true := by
  have e : dataBytes dataField ++ checkBytes 0#16
      = [Config.markByte .data] ++ (checkBytes (checkOf [Config.markByte .data]) ++ List.replicate 256 0#8) := by
    show _ :: (_ ++ List.replicate 254 0#8) ++ List.replicate 2 0#8 = _
    rw [List.cons_append, List.append_assoc, List.replicate_append_replicate]
    rfl
  have good : checkGood (dataBytes dataField) dataField.check = true := by
    show (checkOf (dataBytes dataField ++ checkBytes 0#16) == 0#16) = true
    rw [e, checkOf, List.foldl_append, List.foldl_append]
    show ((List.replicate 256 0#8).foldl checkByte ((checkBytes (checkOf [Config.markByte .data])).foldl checkByte
      (checkOf [Config.markByte .data])) == 0#16) = true
    rw [checkBytes_close, zeros_keep_check]
    rfl
  have len : (dataField.bytes.length == 256) = true := by
    show ((_ ++ List.replicate 254 0#8).length == 256) = true
    rw [List.length_append, List.length_replicate]
    rfl
  rw [dataGood, len, good]
  rfl

/-- The data field read good, and the same cut short, for a request of 256 byte sectors. -/
theorem dataField_reads (r : Request) (h : r.profile = m256.read) :
    r.GoodData dataField ∧ r.BadData { dataField with whole := false } :=
  ⟨⟨by decide, by rw [h]; exact dataField_good⟩, by decide, rfl⟩

/-- The ID field of sector 22 on cylinder 5 names it for a request of the volume's tracks on head 0. -/
theorem idField_names (r : Request) (h : r.profile = m256.read) (hd : r.head = 0) : r.NamedBy (idField 5#8 22#8) 5 22 :=
  ⟨⟨by decide, idField_good _ _⟩, ⟨by rw [h]; decide, by decide, by rw [h]; decide, by rw [hd]; decide⟩, rfl, rfl⟩

/-- The ID field of sector 22 on cylinder 6 is accepted and fits such a request. -/
theorem idField_strays (r : Request) (h : r.profile = m256.read) (hd : r.head = 0) :
    IdAccepted (idField 6#8 22#8) ∧ r.FitsId (idField 6#8 22#8) ∧ (idField 6#8 22#8).cylinder.toNat ≠ 5 :=
  ⟨⟨by decide, idField_good _ _⟩, ⟨by rw [h]; decide, by decide, by rw [h]; decide, by rw [hd]; decide⟩, by decide⟩

/-- A READ BLOCK of block 37, whose place is sector ID 22 of track (5, 0). -/
def readBody : List Byte := [2#8, 50#8, 0#8, 37#8]

/-- The buffer's READ BLOCK. -/
def heldRead : Held := held codeReadBlock readBody

/-- A claim of another line on the story. -/
def othersClaim : Claim := claimOf 3

/-- R182 item 2: an EJECT examined on a console keeps its force flag when the line's class changes, and one examined on a
SLOT line is refused though the line has become a console. -/
theorem test_eject_keeps_its_class :
    ((after (.eject 3 0) (running 3 (heldAs .console codeEject [2#8, 1#8]) (readyDrive 0) mountedVol [claimOf 0])).vol 2).state
        = .draining
    ∧ base.classOf 3 = .reporter
    ∧ ((after (.eject 0 0) (running 0 (heldAs .slot codeEject [2#8, 1#8]) (readyDrive 0) mountedVol [])).buffer 0 0).map
        Held.reply = some (some (.refused .notPermitted none))
    ∧ base.classOf 0 = .console := by decide +kernel

theorem witness_EjectDrainsAndReleases :
    (∀ x l body, (running l (heldAs x codeEject body) (readyDrive 0) mountedVol []).Waiting l 0 codeEject
        (heldAs x codeEject body))
    ∧ ((heldAs .slot codeEject [2#8, 1#8]).cls ≠ .console ∧ (held codeEject [2#8, 1#8]).cls = .console
        ∧ byteAt [2#8, 1#8] 1 ≠ 0 ∧ driveOf (byteAt [4#8, 0#8] 0) = none)
    ∧ (let s := running 0 (held codeEject [2#8, 0#8]) (readyDrive 0) freshVolume []
       s.gateReason 2 .eject true = some .notReady)
    ∧ (let s := desk 0 codeEject [2#8, 0#8]
       s.gateReason 2 .eject true = none ∧ (s.vol 2).state ≠ .foreign ∧ s.cw.others 2 0 = [])
    ∧ (let s := running 0 (held codeEject [2#8, 1#8]) (readyDrive 0) mountedVol [claimOf 0, othersClaim]
       s.gateReason 2 .eject true = none ∧ (s.vol 2).state ≠ .foreign ∧ s.cw.others 2 0 = othersClaim :: [])
    ∧ (let s := running 0 (held codeEject [2#8, 0#8]) (readyDrive 0) { freshVolume with state := .foreign } []
       s.gateReason 2 .eject true = none ∧ (s.vol 2).state = .foreign)
    ∧ (let s := running 0 (held codeEject [2#8, 0#8]) (loadedDrive 5)
          { mountedVol with state := .draining, pendingReq := some (.eject 0 0) } []
       (s.vol 2).state = .draining ∧ (s.drive 2).condition = .ready ∧ (s.drive 2).reportDue = false
        ∧ (s.drive 2).reportHeld = false ∧ s.channel.longInhibit = false
        ∧ (s.region 2).state ≠ .closing
        ∧ (∀ r ∈ (s.drive 2).queue, r.kind.isSectorWrite = false) ∧ (s.vol 2).dirtySet = []
        ∧ s.quiet 2 = true ∧ (s.vol 2).pendingReq = some (.eject 0 0)
        ∧ s.buffer 0 0 = some (held codeEject [2#8, 0#8]) ∧ ((s.line 0).tx = none ↔ (s.line 0).order = [])
        ∧ (s.drive 2).pos.state = .onTrack ∧ (s.drive 2).selected = none)
    ∧ (let s := (running 0 (held codeEject [2#8, 0#8]) (readyDrive 0) { freshVolume with state := .foreign } []).modRegion 2
          fun g => { g with state := .closing }
       (s.region 2).state = .closing ∧ s.gateReason 2 .eject true = none ∧ (s.vol 2).state = .foreign)
    ∧ ((base.vol 2).state ≠ .draining ∧ ({ readyDrive 0 with condition := .faulted } : DriveSeq).condition ≠ .ready) :=
  ⟨fun _ _ _ => running_waits_as .., by decide +kernel, by decide +kernel, by decide +kernel, by decide +kernel,
   by decide +kernel, by decide +kernel, by decide +kernel, by decide +kernel⟩

/-- A PREPARE VOLUME of drive 2 without a name: MFM, 256 byte sectors, some figures of m256. -/
def prepareBody (spt : Byte) : List Byte :=
  [2#8, 0#8, 0x10#8, 0x18#8, 2#8, 1#8, spt, 2#8, 3#8, 5#8, 12#8, 4#8]

/-- The drive holds an unprepared diskette, the volume `v`, and PREPARE VOLUME waits. -/
def preparing (spt : Byte) (u : DriveSeq) (v : Volume) (cs : List Claim) : State :=
  (running 0 (held codePrepareVolume (prepareBody spt)) u v cs).modRegion 2 fun _ => freshRegion

/-- A WRITE of a preparation in service. -/
def prepStep (st : PrepStep) : Request := { inService (.prepWrite st) with origin := .volume }

/-- That WRITE in WRITE-CHECK, the volume PREPARING for line 0. -/
def steps (st : PrepStep) (o : OpRecord) : State :=
  (serving (held codePrepareVolume []) (prepStep st) o .writeCheck none id).modVol 2 fun _ =>
    { freshVolume with state := .preparing, profile := some m256, newLabel := some label7, pendingReq := some (.prepare 0 0 false) }

/-- An open gate. -/
def someGate : Gate := { zone := .outer, precomp := 0, recording := .mfm, items := [], trailing := true }

theorem witness_PrepareVolumeBegins :
    (∀ spt u v cs, (preparing spt u v cs).Waiting 0 0 codePrepareVolume (held codePrepareVolume (prepareBody spt)))
    ∧ (∀ spt, driveOf (byteAt (prepareBody spt) 0) = some 2)
    ∧ (let s := preparing 26#8 { readyDrive 0 with levels := { quietLevels with ready := true, writeProtect := true } } freshVolume []
       s.gateReason 2 .prepare true = none ∧ (s.drive 2).levels.writeProtect = true)
    ∧ (let s := preparing 26#8 (readyDrive 0) mountedVol [claimOf 3]
       s.gateReason 2 .prepare true = none ∧ (s.drive 2).levels.writeProtect = false ∧ s.unsafeToPrepare 2 = true)
    ∧ (let s := preparing 0#8 (readyDrive 0) freshVolume []
       s.unsafeToPrepare 2 = false ∧ quantize (prepareFields (prepareBody 0#8)) (s.drive 2).levels.twoSided = none)
    ∧ (let s := preparing 26#8 (readyDrive 0) freshVolume []
       s.gateReason 2 .prepare true = none ∧ (s.drive 2).levels.writeProtect = false ∧ s.unsafeToPrepare 2 = false
        ∧ (quantize (prepareFields (prepareBody 26#8)) (s.drive 2).levels.twoSided).isSome
        ∧ (s.region 2).state = .shut ∧ (s.drive 2).volumePlaces < 2)
    ∧ (let r := { Request.fresh (.desk 0) (.fill 0) 5 0 none none m256.read with state := .inService }
       let x := Request.fresh (.desk 0) (.fill 1) 6 0 none none m256.read
       let y := Request.fresh (.desk 0) (.directRead 1) 7 0 none none m256.read
       let u := { readyDrive 0 with queue := [r, x, y] }
       let s := ((preparing 26#8 u mountedVol []).modRegion 2 fun g =>
          { g with state := .opened, frames := [.filling 5 0 [⟨1, 0, 1⟩], .filling 6 0 [⟨1, 1, 1⟩], .valid 7 0 1 []] }).modLine
            1 fun w => { w with bufs := Vector.replicate 2 (some (held codeReadBlock [])) }
       s.gateReason 2 .prepare true = none ∧ s.unsafeToPrepare 2 = false ∧ (s.drive 2).volumePlaces < 2
        ∧ (s.region 2).state = .opened ∧ (s.drive 2).selected = some r ∧ (s.region 2).frame 0 = .filling 5 0 [⟨1, 0, 1⟩]
        ∧ (∀ z ∈ (s.drive 2).queue, z.state = .queued → z.kind ≠ .fill 0) ∧ ((s.region 2).frame 2).isValid = true
        ∧ x ∈ (s.drive 2).queue ∧ x.state = .queued ∧ y ∈ (s.drive 2).queue ∧ y.kind = .directRead 1
        ∧ (∃ h, s.buffer 1 1 = some h ∧ h.stage = .inProgress ∧ h.orphan = false ∧ h.reply = none))
    ∧ (∀ st o, (steps st o).Serving 2 (prepStep st) o ∧ (steps st o).channel.gate = none
        ∧ (steps st o).channel.state = .writeCheck ∧ ((steps st o).vol 2).profile = some m256
        ∧ ((steps st o).vol 2).newLabel = some label7 ∧ ((steps st o).vol 2).pendingReq = some (.prepare 0 0 false)
        ∧ (steps st o).InProgress 0 0 (held codePrepareVolume []) ∧ (steps st o).left 2 = []
        ∧ (prepStep st).GoodData dataField ∧ (prepStep st).BadData { dataField with whole := false })
    ∧ (∀ st, (steps st { freshOp 26 with awaiting := some 22 }).WritesGood 2 (prepStep st)
          { freshOp 26 with awaiting := some 22 } 22 (.dataFieldRead dataField)
        ∧ (steps st { freshOp 26 with awaiting := some 22, writes := 2 }).Awaiting 2 (prepStep st)
            { freshOp 26 with awaiting := some 22, writes := 2 } 22)
    ∧ (∀ st o, let s := { (steps st o).modChannel fun c => { c with state := .write, gate := some someGate } with
          cfg := { (steps st o).cfg with writeCheck := false } }
       s.WritesGood 2 (prepStep st) o 22 .dataFieldWritten)
    ∧ (0 < m256.used ∧ 10 + 1 < m256.used ∧ m256.used ≤ 11 + 1) := by
  refine ⟨fun spt u v cs => ?_, fun _ => rfl, by decide +kernel, by decide +kernel, by decide +kernel, by decide +kernel,
    by decide +kernel, fun _ _ => ⟨⟨rfl, rfl, rfl⟩, rfl, rfl, rfl, rfl, rfl, ⟨rfl, rfl, rfl⟩, rfl,
      (dataField_reads _ rfl).1, (dataField_reads _ rfl).2⟩,
    fun _ => ⟨.inl ⟨_, rfl, ⟨⟨rfl, rfl, rfl⟩, rfl, rfl, (by decide : 0 < 2), (by decide : 0 < 2)⟩, rfl,
      (dataField_reads _ rfl).1⟩, ⟨rfl, rfl, rfl⟩, rfl, rfl, (by decide : 0 < 2), (by decide : 0 < 2)⟩,
    fun _ _ => .inr ⟨rfl, ⟨rfl, rfl, rfl⟩, rfl, Option.some_ne_none _, rfl, rfl⟩, by decide⟩
  have w := running_waits 0 codePrepareVolume (prepareBody spt) u v cs
  exact ⟨w.live, w.held, w.named, w.stage, w.untaken, w.owned, w.sending⟩

/-- The slug field "A". -/
def slugA : List Byte := 0x41#8 :: List.replicate 11 0#8
/-- The slug field "B". -/
def slugB : List Byte := 0x42#8 :: List.replicate 11 0#8

theorem witness_LookupAndListReadTheIndex :
    (∀ code body, (desk 0 code body).Waiting 0 0 code (held code body))
    ∧ (driveOf (byteAt (2#8 :: slugA) 0) = some 2 ∧ base.gateReason 2 .reads false = none)
    ∧ (slugOk (slugField (2#8 :: List.replicate 12 0#8) 1) = false ∧ slugOk (slugField (2#8 :: slugA) 1) = true
        ∧ slugOk (slugField (2#8 :: slugB) 1) = true)
    ∧ (((base.vol 2).entry 50).state = .live ∧ ((base.vol 2).entry 50).slug = slugField (2#8 :: slugA) 1
        ∧ ∀ m, m < 50 → ((base.vol 2).entry m).state = .free)
    ∧ (∀ n, n < 256 → ((base.vol 2).entry n).slug ≠ slugField (2#8 :: slugB) 1)
    ∧ 255 < nat2 [2#8, 0xFF#8, 0xFF#8, 7#8, 1#8, 0#8] 4 ∧ nat2 [2#8, 0xFF#8, 0xFF#8, 7#8, 0#8, 0xFF#8] 4 ≤ 255 :=
  ⟨fun _ _ => running_waits .., by decide +kernel, by decide +kernel, by decide +kernel, by decide +kernel, by decide,
   by decide⟩

/-- A CREATE body for drive 2. -/
def createBody (slug : List Byte) (basket priority : Byte) : List Byte := 2#8 :: (slug ++ [basket, priority])

/-- Six claims of line 0 on other stories. -/
def sixClaims : List Claim := (List.range 6).map fun i => { claimOf 0 with handle := i }

theorem witness_CreateMakesAStoryAndClaimsIt :
    (∀ body v cs, (running 0 (held codeCreate body) (readyDrive 0) v cs).Waiting 0 0 codeCreate (held codeCreate body))
    ∧ (base.gateReason 2 .changes true = none ∧ (base.vol 2).profile = some m256
        ∧ driveOf (byteAt (createBody slugB 15#8 3#8) 0) = some 2)
    ∧ (¬ byteAt (createBody slugB 16#8 3#8) 13 ≤ 15 ∧ ¬ byteAt (createBody slugB 15#8 4#8) 14 ≤ 3)
    ∧ (slugOk (slugField (createBody slugB 15#8 3#8) 1) = true ∧ byteAt (createBody slugB 15#8 3#8) 13 ≤ 15
        ∧ byteAt (createBody slugB 15#8 3#8) 14 ≤ 3)
    ∧ (((base.vol 2).entry 50).isStory = true ∧ ((base.vol 2).entry 50).slug = slugField (createBody slugA 15#8 3#8) 1)
    ∧ (∀ n, n < 256 → ((base.vol 2).entry n).slug ≠ slugField (createBody slugB 15#8 3#8) 1)
    ∧ (let s := running 0 (held codeCreate (createBody slugB 15#8 3#8)) (readyDrive 0) mountedVol sixClaims
       s.cw.hasRoom 0 = false)
    ∧ (let s := running 0 (held codeCreate (createBody slugB 15#8 3#8)) (readyDrive 0)
          { mountedVol with entries := Vector.replicate 256 story50 } []
       s.cw.hasRoom 0 = true ∧ (∀ n, n < m256.capacity → ((s.vol 2).entry n).state ≠ .free)
        ∧ ∀ n, n < 256 → ((s.vol 2).entry n).slug ≠ slugField (createBody slugB 15#8 3#8) 1)
    ∧ (base.cw.hasRoom 0 = true ∧ 0 < m256.capacity ∧ ((base.vol 2).entry 0).state = .free
        ∧ m256.sectorOf 0 < (base.vol 2).sectors.length)
    ∧ (let h := { held codeCreate (createBody slugB 15#8 3#8) with orphan := true }
       let s := running 0 h (readyDrive 0) mountedVol []
       s.part.extReset = false ∧ s.buffer 0 0 = some h ∧ h.code = codeCreate ∧ h.stage = .inProgress ∧ h.taken = false
        ∧ h.orphan = true ∧ s.gateReason 2 .changes true = none ∧ (s.vol 2).profile = some m256) :=
  ⟨fun _ _ _ => running_waits .., by decide +kernel, by decide, by decide, by decide +kernel, by decide +kernel,
   by decide +kernel, by decide +kernel, by decide +kernel⟩

/-- The mounted volume with another entry of handle 50. -/
def volWith (e : Entry) : Volume := { mountedVol with entries := mountedVol.entries.set 50 e }

/-- A request of line 0 on story 50 of drive 2 that passes the gate. -/
theorem story_asked (code : Byte) (body : List Byte) (u : DriveSeq) (e : Entry) (cs : List Claim)
    (g : Group) (hg : g = .reads ∨ g = .changes) (hu : u.condition = .ready)
    (hd : driveOf (byteAt body 0) = some 2) (hn : byteAt body 1 = 50) :
    (running 0 (held code body) u (volWith e) cs).StoryAsked 0 0 (held code body) code g 2 m256 50 e where
  waiting := running_waits 0 code body u _ cs
  drive := hd
  admitted := by
    show (if (true && u.condition.refusesWork) = true then _ else volumeGate (volWith e) u.condition g) = none
    rw [hu]
    rcases hg with rfl | rfl <;> rfl
  profile := rfl
  handle := hn
  below := by decide
  entry := by
    show (mountedVol.entries.set 50 e).getD 50 freeEntry = e
    simp [Vector.getD]
  sector := by
    show m256.sectorOf 50 < mountedVol.sectors.length
    decide

/-- The story asked for stays so when the channel, a region or the part's levels change. -/
theorem asked_modChannel {s : State} {l : Line} {b : BufId} {h : Held} {code : Byte} {g : Group} {d : DriveId}
    {p : Profile} {n : Nat} {e : Entry} (a : s.StoryAsked l b h code g d p n e) (f : Channel → Channel) :
    (s.modChannel f).StoryAsked l b h code g d p n e :=
  ⟨⟨a.waiting.live, a.waiting.held, a.waiting.named, a.waiting.stage, a.waiting.untaken, a.waiting.owned,
    a.waiting.sending⟩, a.drive, a.admitted, a.profile, a.handle, a.below, a.entry, a.sector⟩

theorem asked_modRegion {s : State} {l : Line} {b : BufId} {h : Held} {code : Byte} {g : Group} {d : DriveId}
    {p : Profile} {n : Nat} {e : Entry} (a : s.StoryAsked l b h code g d p n e) (x : DriveId) (f : Region → Region) :
    (s.modRegion x f).StoryAsked l b h code g d p n e :=
  ⟨⟨a.waiting.live, a.waiting.held, a.waiting.named, a.waiting.stage, a.waiting.untaken, a.waiting.owned,
    a.waiting.sending⟩, a.drive, a.admitted, a.profile, a.handle, a.below, a.entry, a.sector⟩

/-- A desk WRITE of line 5 of the sector of block 37, in a state. -/
def writeOf (st : ReqState) : Request :=
  { Request.fresh (.desk 5) (.write 0 none) 5 0 (some 22) (some 9) m256.read with state := st }

theorem witness_FileSetsLengthAndFreesTheRest :
    (∀ body e cs, driveOf (byteAt body 0) = some 2 → byteAt body 1 = 50 →
        (running 0 (held codeFile body) (readyDrive 0) (volWith e) cs).StoryAsked 0 0 (held codeFile body) codeFile .changes
          2 m256 50 e)
    ∧ (driveOf (byteAt [2#8, 50#8, 0#8, 0x34#8, 0#8, 0#8] 0) = some 2 ∧ byteAt [2#8, 50#8, 0#8, 0x34#8, 0#8, 0#8] 1 = 50)
    ∧ (freeEntry.state ≠ .live ∧ story50.state = .live)
    ∧ (let s := running 0 (held codeFile [2#8, 50#8, 0#8, 0x34#8, 0#8, 0#8]) (readyDrive 0) (volWith story50) [othersClaim]
       s.cw.holder 2 50 ≠ some 0)
    ∧ (let s := running 0 (held codeFile [2#8, 50#8, 0#8, 0x34#8, 0#8, 0#8]) (readyDrive 0) (volWith story50) [claimOf 0]
       s.cw.holder 2 50 = some 0 ∧ ∀ r ∈ (s.drive 2).queue, ∀ g ∈ extentGranules story50.extents,
          r.writesGranule m256 g = false) :=
  ⟨fun _ _ _ hd hn => story_asked _ _ _ _ _ _ (.inr rfl) rfl hd hn, by decide, by decide, by decide +kernel,
   by decide +kernel⟩

theorem witness_MoveChangesBasketAndPriority :
    (∀ body e cs, driveOf (byteAt body 0) = some 2 → byteAt body 1 = 50 →
        (running 0 (held codeMove body) (readyDrive 0) (volWith e) cs).StoryAsked 0 0 (held codeMove body) codeMove .changes
          2 m256 50 e)
    ∧ (driveOf (byteAt [2#8, 50#8, 15#8, 3#8] 0) = some 2 ∧ byteAt [2#8, 50#8, 15#8, 3#8] 1 = 50)
    ∧ (freeEntry.isStory = false ∧ story50.isStory = true)
    ∧ ((running 0 (held codeMove [2#8, 50#8, 15#8, 3#8]) (readyDrive 0) (volWith story50) [othersClaim]).cw.holder 2 50 = some 3)
    ∧ ((running 0 (held codeMove [2#8, 50#8, 15#8, 3#8]) (readyDrive 0) (volWith story50) [claimOf 0]).cw.holder 2 50 = some 0
        ∧ base.cw.holder 2 50 = none)
    ∧ (15 < byteAt [2#8, 50#8, 16#8, 3#8] 2 ∧ 3 < byteAt [2#8, 50#8, 15#8, 4#8] 3)
    ∧ (byteAt [2#8, 50#8, 2#8, 1#8] 2 = story50.basket ∧ byteAt [2#8, 50#8, 2#8, 1#8] 3 = story50.priority)
    ∧ (byteAt [2#8, 50#8, 15#8, 3#8] 2 ≤ 15 ∧ byteAt [2#8, 50#8, 15#8, 3#8] 3 ≤ 3
        ∧ byteAt [2#8, 50#8, 15#8, 3#8] 2 ≠ story50.basket) :=
  ⟨fun _ _ _ hd hn => story_asked _ _ _ _ _ _ (.inr rfl) rfl hd hn, by decide, by decide, by decide +kernel,
   by decide +kernel, by decide, by decide, by decide⟩

theorem witness_SpikeAndReviveChangeTheStateAlone :
    (∀ code e cs, (running 0 (held code [2#8, 50#8]) (readyDrive 0) (volWith e) cs).StoryAsked 0 0 (held code [2#8, 50#8])
        code .changes 2 m256 50 e)
    ∧ (story50.state = .live ∧ ({ story50 with state := .retired } : Entry).state = .retired ∧ freeEntry.state = .free)
    ∧ ((running 0 (held codeSpike [2#8, 50#8]) (readyDrive 0) (volWith story50) [othersClaim]).cw.holder 2 50 = some 3)
    ∧ ((running 0 (held codeSpike [2#8, 50#8]) (readyDrive 0) (volWith story50) [claimOf 0]).cw.holder 2 50 = some 0
        ∧ base.cw.holder 2 50 = none) :=
  ⟨fun _ _ _ => story_asked _ _ _ _ _ _ (.inr rfl) rfl rfl rfl, by decide, by decide +kernel, by decide +kernel⟩

theorem witness_PurgeFreesTheEntryAndItsGranules :
    (∀ e cs, (running 0 (held codePurge [2#8, 50#8]) (readyDrive 0) (volWith e) cs).StoryAsked 0 0
        (held codePurge [2#8, 50#8]) codePurge .changes 2 m256 50 e)
    ∧ (freeEntry.isStory = false ∧ story50.isStory = true)
    ∧ ((running 0 (held codePurge [2#8, 50#8]) (readyDrive 0) (volWith story50) [othersClaim]).cw.holder 2 50 = some 3)
    ∧ (let s := running 0 (held codePurge [2#8, 50#8]) (readyDrive 0) (volWith story50) [claimOf 0]
       s.cw.holder 2 50 = some 0 ∧ (s.drive 2).queue = [])
    ∧ (let s := running 5 (held codeWriteBlock []) { readyDrive 0 with queue := [writeOf .queued, writeOf .selected] }
          mountedVol []
       writeOf .queued ∈ (s.drive 2).queue ∧ (writeOf .queued).writesGranule m256 44 = true
        ∧ (writeOf .queued).origin = .desk 5 ∧ (writeOf .queued).kind = .write 0 none
        ∧ s.buffer 5 0 = some (held codeWriteBlock [])
        ∧ ∃ r ∈ (s.drive 2).queue, r.state ≠ .queued ∧ r.writesGranule m256 44 = true) :=
  ⟨fun _ _ => story_asked _ _ _ _ _ _ (.inr rfl) rfl rfl rfl, by decide, by decide +kernel, by decide +kernel,
   by decide +kernel⟩

/-- A WRITE BLOCK of a block of 256 bytes. -/
def writeBody (block : Byte) : List Byte := [2#8, 50#8, 0#8, block, 1#8, 0#8] ++ List.replicate 256 7#8

/-- Four extents, the last ending before an allocated granule. -/
def fourExtents : Entry := { story50 with extents := [⟨10, 1⟩, ⟨20, 1⟩, ⟨30, 1⟩, ⟨40, 1⟩] }

theorem witness_WriteBlockPlacesAWriteOrExtends :
    (∀ block u e cs, u.condition = .ready →
        (running 0 (held codeWriteBlock (writeBody block)) u (volWith e) cs).StoryAsked 0 0
          (held codeWriteBlock (writeBody block)) codeWriteBlock .changes 2 m256 50 e)
    ∧ (freeEntry.state ≠ .live
        ∧ (running 0 (held codeWriteBlock (writeBody 51#8)) (readyDrive 0) (volWith story50) []).cw.holder 2 50 ≠ some 0)
    ∧ ((running 0 (held codeWriteBlock (writeBody 51#8)) (readyDrive 0) (volWith story50) [claimOf 0]).cw.holder 2 50
          = some 0 ∧ story50.state = .live
        ∧ m256.blocks story50 < nat2 (writeBody 53#8) 2 ∧ nat2 [2#8, 50#8, 0#8, 0#8, 0#8, 0xFF#8] 4 ≠ m256.bytes)
    ∧ (nat2 (writeBody 51#8) 4 = m256.bytes ∧ nat2 (writeBody 51#8) 2 < m256.blocks story50
        ∧ (m256.locate story50.extents 51).isSome)
    ∧ (base.channel.longInhibit = false ∧ (base.drive 2).deskPlaces < 12
        ∧ 12 ≤ ({ readyDrive 0 with queue := List.replicate 12 (writeOf .queued) } : DriveSeq).deskPlaces)
    ∧ (nat2 (writeBody 52#8) 2 = m256.blocks story50 ∧ 0 < m256.granule ∧ mountedVol.free.Pairwise (· < ·))
    ∧ (mountedVol.allocatable 48 = true ∧ story50.extents.getLast? = some ⟨40, 8⟩
        ∧ story50.extents = [⟨10, 5⟩] ++ [⟨40, 8⟩])
    ∧ (∀ g, ({ mountedVol with free := [] } : Volume).allocatable g = false)
    ∧ (let v : Volume := { mountedVol with free := [60] }
       v.allocatable 60 = true ∧ (∀ x, v.allocatable x = true → 60 ≤ x) ∧ v.allocatable (40 + 8) = false
        ∧ v.allocatable (40 + 1) = false)
    ∧ (4 ≤ fourExtents.extents.length ∧ story50.extents.length < 4
        ∧ nat2 (writeBody 16#8) 2 = m256.blocks fourExtents)
    ∧ (let s (long : Bool) := (running 0 (held codeWriteBlock (writeBody 52#8))
          { readyDrive 0 with queue := List.replicate 12 (writeOf .queued) } (volWith story50) [claimOf 0]).modChannel
            fun c => { c with longInhibit := long }
       (∀ long, (s long).StoryAsked 0 0 (held codeWriteBlock (writeBody 52#8)) codeWriteBlock .changes 2 m256 50 story50)
        ∧ (s true).channel.longInhibit = true ∧ (s false).channel.longInhibit = false
        ∧ 12 ≤ ((s false).drive 2).deskPlaces ∧ (s true).cw.holder 2 50 = some 0
        ∧ ((s true).vol 2).allocatable 48 = true) := by
  refine ⟨fun _ _ _ _ hu => story_asked _ _ _ _ _ _ (.inr rfl) hu rfl rfl, by decide +kernel, by decide +kernel,
    by decide, by decide +kernel, by decide, by decide, fun _ => rfl, ⟨by decide, fun x h => ?_, by decide, by decide⟩,
    by decide, fun _ => asked_modChannel (story_asked _ _ _ _ _ _ (.inr rfl) rfl rfl rfl) _, rfl, rfl, by decide +kernel,
    by decide +kernel, by decide +kernel⟩
  simp [Volume.allocatable] at h
  omega

theorem witness_BlocksAndSlotsCoverTheDataArea :
    (0 < m256.granule ∧ 0 < m256.spt ∧ (m256.sides = 1 ∨ m256.sides = 2)
      ∧ (∀ x ∈ story50.extents, x.first + x.count ≤ m256.granules) ∧ 51 < m256.blocks story50 ∧ m256.blocks story50 ≤ 52)
    ∧ (0 < m256.spt ∧ Nat.gcd 3 26 = 1 ∧ slotOf 26 3 5 21 10 < 26) := by decide

/-! ### The cache -/

/-- READ BLOCK of block 37 waits, with a drive sequencer and a frame table. -/
def reading (u : DriveSeq) (frames : List Frame) : State :=
  (running 0 (held codeReadBlock readBody) u (volWith story50) []).modRegion 2 fun g => { g with frames := frames }

theorem reading_asked (u : DriveSeq) (frames : List Frame) (hu : u.condition = .ready) :
    (reading u frames).StoryAsked 0 0 (held codeReadBlock readBody) codeReadBlock .reads 2 m256 50 story50 :=
  asked_modRegion (story_asked _ _ _ _ _ _ (.inl rfl) hu rfl rfl) _ _

/-- The track of the block, in a frame with every sector in one condition. -/
def trackFrame (n : Nat) (c : SectorCond) : Frame := .valid 5 0 n (List.replicate 26 c)

/-- The place of block 37. -/
def place37 : Place := { cylinder := 5, head := 0, sectorId := 22 }

theorem witness_ReadBlockRefusalsAndHits :
    (∀ e body, driveOf (byteAt body 0) = some 2 → byteAt body 1 = 50 →
        (running 0 (held codeReadBlock body) (readyDrive 0) (volWith e) []).StoryAsked 0 0 (held codeReadBlock body)
          codeReadBlock .reads 2 m256 50 e)
    ∧ (freeEntry.isStory = false ∧ story50.isStory = true ∧ m256.blocks story50 ≤ nat2 [2#8, 50#8, 0#8, 52#8] 2)
    ∧ (nat2 readBody 2 < m256.blocks story50 ∧ m256.locate story50.extents (nat2 readBody 2) = some place37)
    ∧ ((reading { readyDrive 0 with queue := [writeOf .queued] } []).drive 2).queue = [] ++ writeOf .queued :: []
    ∧ (∀ c, ((reading (readyDrive 0) [.empty, trackFrame 1 c]).region 2).frame 1 = trackFrame 1 c)
    ∧ ((reading (readyDrive 0) []).drive 2).queue = []
    ∧ (∀ c : SectorCond, (List.replicate 26 c)[place37.sectorId - 1]? = some c) :=
  ⟨fun _ _ hd hn => story_asked _ _ _ _ _ _ (.inl rfl) rfl hd hn, by decide, by decide, by decide +kernel, fun _ => rfl,
   by decide +kernel, fun _ => rfl⟩

theorem witness_ReadBlockMissesQueueWork :
    (∀ u frames, u.condition = .ready → (reading u frames).StoryAsked 0 0 (held codeReadBlock readBody) codeReadBlock .reads
        2 m256 50 story50)
    ∧ (story50.isStory = true ∧ nat2 readBody 2 < m256.blocks story50
        ∧ m256.locate story50.extents (nat2 readBody 2) = some place37)
    ∧ (((reading (readyDrive 0) [.empty, .filling 5 0 []]).region 2).frames = [.empty] ++ .filling 5 0 [] :: []
        ∧ (∀ f ∈ [Frame.empty], f.fillingFor 5 0 = false) ∧ ((reading (readyDrive 0) []).drive 2).queue = [])
    ∧ 12 ≤ ({ readyDrive 0 with queue := List.replicate 12 { writeOf .queued with cylinder := 9 } } : DriveSeq).deskPlaces
    ∧ (let s := reading (readyDrive 0) [.filling 6 0 [], .valid 7 0 1 []]
       (∀ f ∈ (s.region 2).frames, f.validFor 5 0 = false) ∧ (∀ f ∈ (s.region 2).frames, f.fillingFor 5 0 = false)
        ∧ (s.drive 2).deskPlaces < 12 ∧ (s.region 2).state = .opened ∧ (s.region 2).pick = some 1)
    ∧ (let s := reading (readyDrive 0) [.filling 6 0 []]
       (∀ f ∈ (s.region 2).frames, f.validFor 5 0 = false) ∧ (∀ f ∈ (s.region 2).frames, f.fillingFor 5 0 = false)
        ∧ (s.drive 2).deskPlaces < 12 ∧ (s.region 2).pick = none) :=
  ⟨reading_asked, by decide, by decide +kernel, by decide +kernel, by decide +kernel, by decide +kernel⟩

/-- A region with two VALID frames ranked, one FILLING and one EMPTY. -/
def rankedRegion : Region :=
  { freshRegion with state := .opened, frames := [.valid 3 0 2 [], .valid 4 0 1 [], .filling 5 0 [], .empty] }

theorem witness_AllocationKeepsFillNumbersRanked :
    ([2, 1].Perm ((List.range 2).map (· + 1)))
    ∧ (rankedRegion.frames.filterMap fun f => match f with | .valid _ _ n _ => some n | _ => none) = [2, 1]
    ∧ rankedRegion.pick = some 3 ∧ ({ rankedRegion with frames := rankedRegion.frames.take 3 } : Region).pick = some 1
    ∧ 2 < rankedRegion.frames.length ∧ rankedRegion.state = .opened ∧ (rankedRegion.frame 2).isFilling = true
    ∧ Frame.empty.isValid = false := by decide

theorem witness_FrameDataReadsBack :
    (base.memoryCanonical ∧ (List.replicate 256 7#8).length = m256.read.bytes)
    ∧ (let p : Profile := { m256 with sizeCode := 3, spt := 8 }
       0 < p.spt ∧ 2 < frameCount p ∧ 3 < frameCount p ∧ 1 ≤ 8 ∧ 8 ≤ p.spt ∧ 1023 < p.bytes
        ∧ ((3 : DriveId), 2, 8) ≠ (3, 3, 1))
    ∧ ((∃ t, exec .clockSecond base = .next t) ∧ (∀ f, Instr.clockSecond ≠ .dataFieldRead f)
        ∧ Instr.clockSecond ≠ .dataFieldWritten ∧ (∀ x, Instr.clockSecond ≠ .powerOn x)
        ∧ (∀ x, Instr.clockSecond ≠ .externalResetAsserted x) ∧ (∀ x, Instr.clockSecond ≠ .externalResetReleased x)
        ∧ ∀ x, Instr.clockSecond ≠ .drainEnd x)
    ∧ (∀ k f, let s := serving heldRead (inService k) (freshOp 26) .read none id
        s.Serving 2 (inService k) (freshOp 26) ∧ (inService k).kind = k ∧ ∃ t, exec (.dataFieldRead f) s = .next t) :=
  ⟨⟨rfl, by decide +kernel⟩, by decide +kernel, ⟨⟨_, rfl⟩, nofun, nofun, nofun, nofun, nofun, nofun⟩,
   fun _ _ => ⟨⟨rfl, rfl, rfl⟩, rfl, _, rfl⟩⟩

/-! ### Claims and watches -/

theorem witness_OpenGrantsAFreeClaim :
    (∀ body cs v, (running 0 (held codeOpen body) (readyDrive 0) v cs).Waiting 0 0 codeOpen (held codeOpen body))
    ∧ (driveOf (byteAt [2#8, 96#8] 0) = some 2 ∧ base.gateReason 2 .changes false = none)
    ∧ ((base.vol 2).capacity ≤ byteAt [2#8, 96#8] 1 ∧ byteAt [2#8, 95#8] 1 < (base.vol 2).capacity
        ∧ ((base.vol 2).entry 95).state ≠ .live ∧ ((base.vol 2).entry 50).state = .live)
    ∧ ((running 0 (held codeOpen [2#8, 50#8]) (readyDrive 0) mountedVol [othersClaim]).cw.holder 2 50 = some 3
        ∧ (claimed 0 codeOpen [2#8, 50#8]).cw.holder 2 50 = some 0 ∧ base.cw.holder 2 50 = none ∧ base.cw.hasRoom 0 = true)
    ∧ (let s := running 0 (held codeOpen [2#8, 50#8]) (readyDrive 0) mountedVol sixClaims
       s.cw.holder 2 50 = none ∧ s.cw.hasRoom 0 = false)
    ∧ (let h := { held codeOpen [2#8, 50#8] with orphan := true }
       (running 0 h (readyDrive 0) mountedVol []).buffer 0 0 = some h ∧ h.orphan = true) :=
  ⟨fun _ _ _ => running_waits .., by decide +kernel, by decide +kernel, by decide +kernel, by decide +kernel,
   by decide +kernel⟩

theorem witness_ReleaseAndBreakEndAClaim :
    (∀ code cs, (running 0 (held code [2#8, 50#8]) (readyDrive 0) mountedVol cs).Waiting 0 0 code (held code [2#8, 50#8]))
    ∧ driveOf (byteAt [2#8, 50#8] 0) = some 2
    ∧ ((claimed 0 codeRelease [2#8, 50#8]).cw.holder 2 50 = some 0 ∧ base.cw.holder 2 50 = none
        ∧ (running 0 (held codeRelease [2#8, 50#8]) (readyDrive 0) mountedVol [othersClaim]).cw.holder 2 50 = some 3) :=
  ⟨fun _ _ => running_waits .., rfl, by decide +kernel⟩

/-- A watch of baskets 2 and 3 of any volume, for FILED, with signal. -/
def basketWatch : WatchSpec := { drive := none, target := .baskets 0x000C#16, events := 0b00010#5, signal := true }
/-- A watch of story 50 of drive 2, for CLAIM-FREED. -/
def storyWatch : WatchSpec := { drive := some 2, target := .story 50, events := 0b10000#5, signal := true }

/-- The unit with line 3's watches 0 to 2 armed, raised and unused, and its flag set. -/
def watching : ClaimUnit :=
  { freshClaimUnit with
    watches := freshClaimUnit.watches.set 3
      (((Vector.replicate 4 Watch.unused).set 0 (.armed basketWatch)).set 1
        (.raised storyWatch { kind := .claimFreed, drive := 2, handle := 50 })),
    broken := freshClaimUnit.broken.set 3 (some (2, 50)) }

theorem witness_EventsRaiseTheWatchesTheyMatch :
    (watching.watches.get 3).get 0 = .armed basketWatch
    ∧ (watching.watches.get 3).get 1 = .raised storyWatch { kind := .claimFreed, drive := 2, handle := 50 }
    ∧ (watching.watches.get 3).get 2 = .unused
    ∧ basketWatch.hits (storyEvent .filed 2 50 2 0) = true ∧ basketWatch.hits (storyEvent .filed 2 50 4 0) = false
    ∧ storyWatch.hits (storyEvent .claimFreed 2 50 2 0) = true
    ∧ (3 : Line) ≠ (storyEvent .filed 2 50 2 0).cause ∧ (0 : Line) = (storyEvent .filed 2 50 2 0).cause := by
  decide +kernel

/-- Where nothing of a desk is left, as a check. -/
def goneCheck (s : State) (l : Line) : Bool :=
  decide ((s.line l).rx = .hunt) && decide (s.buffer l 0 = none) && decide (s.buffer l 1 = none)
    && decide ((s.line l).order = [] ∧ (s.line l).pendingReply = none ∧ (s.line l).tx = none)
    && decide ((∀ c ∈ s.cw.claims, c.holder ≠ l) ∧ (∀ n, (s.cw.watches.get l).get n = .unused) ∧ s.cw.broken.get l = none)

theorem gone_of_check {s : State} {l : Line} (c : goneCheck s l = true) : s.DeskGone l := by
  simp only [goneCheck, Bool.and_eq_true, decide_eq_true_eq] at c
  obtain ⟨⟨⟨⟨rx, b0⟩, b1⟩, r⟩, k⟩ := c
  refine ⟨rx, fun b h e => ?_, r, k.1, k.2.1, k.2.2⟩
  have two : ∀ c : BufId, c = 0 ∨ c = 1 := by decide
  rcases two b with rfl | rfl
  · rw [b0] at e; cases e
  · rw [b1] at e; cases e

theorem base_quiet : base.absentLinesQuiet := by
  have key : ∀ l, (base.line l).present = false → goneCheck base l = true := by decide +kernel
  intro l h
  rcases h with h | h
  · exact gone_of_check (key l h)
  · cases h

theorem witness_AttentionFollowsWatchesAndFlag :
    base.absentLinesQuiet ∧ (base.line 1).portState = .absent
    ∧ ({ base with cw := watching } : State).attention 3 = true ∧ base.attention 0 = false :=
  ⟨base_quiet, by decide +kernel, by decide +kernel, by decide +kernel⟩

/-- The usual state with a request of line 3 and its watches and flag as `watching` has them. -/
def watchingState (code : Byte) (body : List Byte) (cw : ClaimUnit) : State :=
  { desk 3 code body with cw := cw }

theorem watching_waits (code : Byte) (body : List Byte) (cw : ClaimUnit) :
    (watchingState code body cw).Waiting 3 0 code (held code body) := by
  have w := running_waits 3 code body (readyDrive 0) mountedVol []
  exact ⟨w.live, w.held, w.named, w.stage, w.untaken, w.owned, w.sending⟩

/-- A WATCH SET of the story `x` of drive 2 for CLAIM-FREED. -/
def storyWatchBody (drive x : Byte) : List Byte := [drive, 1#8, 0#8, 0#8, x, 0x10#8, 1#8]

theorem witness_WatchSetAndClear :
    (∀ code body cw, (watchingState code body cw).Waiting 3 0 code (held code body))
    ∧ (watchSpecOf [4#8, 0#8, 0#8, 12#8, 0#8, 2#8, 1#8] = none ∧ watchSpecOf (storyWatchBody 2#8 50#8) = some storyWatch
        ∧ watchSpecOf [0xFF#8, 0#8, 0#8, 12#8, 0#8, 2#8, 1#8] = some basketWatch)
    ∧ ((State.reset.vol 2).inService = false ∧ (base.vol 2).inService = true ∧ (base.vol 2).capacity ≤ 96)
    ∧ (base.watchRefused storyWatch = none
        ∧ ∀ n, ((freshClaimUnit.watches.set 3 (Vector.replicate 4 (.armed storyWatch))).get 3).get n ≠ .unused)
    ∧ ((watching.watches.get 3).get 2 = .unused ∧ (watching.watches.get 3).get 1 ≠ .unused
        ∧ (watching.watches.get 3).get 0 = .armed basketWatch)
    ∧ (byteAt [3#8, 0#8] 0 = (3 : Fin 4).val ∧ byteAt [4#8, 0#8] 0 = 4 ∧ byteAt [4#8, 0#8] 1 = 0 ∧ 4 < byteAt [5#8, 0#8] 0
        ∧ byteAt [4#8, 1#8] 1 ≠ 0)
    ∧ (let h := { held codeWatchSet [] with orphan := true }
       (running 0 h (readyDrive 0) mountedVol []).buffer 0 0 = some h ∧ h.orphan = true)
    ∧ (storyWatch.drive = some 2 ∧ storyWatch.target = .story 50) :=
  ⟨watching_waits, by decide, by decide +kernel, by decide +kernel, by decide +kernel, by decide, by decide +kernel,
   by decide⟩

/-! ### Configuration and maintenance -/

/-- A CONFIGURE body with one item present. -/
def configBody (off : Nat) (value : List Byte) : List Byte :=
  List.replicate off 0#8 ++ 1#8 :: value ++ List.replicate (93 - off - value.length) 0#8

theorem witness_ConfigureTakesALegalRecord :
    configRefused (configBody offBypass [0#8]) = false ∧ configRefused (configBody (offClass 7) [3#8]) = false
    ∧ rateValues ≠ [] ∧ rateValues.Pairwise (· < ·) ∧ (defaultConfig .b9600).stepPeriod ∈ [3000, 6000, 10000, 15000] := by
  decide

theorem witness_ConfigureAppliesTheRecord :
    (∀ body, (desk 0 codeConfigure body).Waiting 0 0 codeConfigure (held codeConfigure body))
    ∧ configRefused (configBody (offClass 7) [4#8]) = true ∧ configRefused (configBody offPeriod [16#8]) = false
    ∧ byteAt (configBody offPeriod [16#8]) 0 = 0
    ∧ (let body := configBody (offRate 0) [5#8]
       configRefused body = false ∧ byteAt body 0 = 0 ∧ base.cfg.rates.get 0 ≠ (base.cfg.taken body).rates.get 0) :=
  ⟨fun _ => running_waits .., by decide, by decide, by decide, by decide +kernel⟩

theorem witness_MarginsFollowTheStrobeRange :
    (∀ body, (desk 0 codeConfigure body).Waiting 0 0 codeConfigure (held codeConfigure body))
    ∧ (∀ x ∈ [[2#8, 2#8], [0#8, 0#8], [0#8, 1#8]], configRefused (configBody offStrobe x) = false
        ∧ byteAt (configBody offStrobe x) 0 = 0)
    ∧ (base.cfg.taken (configBody offStrobe [2#8, 2#8])).strobeMin ≠ base.cfg.strobeMin
    ∧ (base.cfg.taken (configBody offStrobe [0#8, 1#8])).strobeMax ≠ base.cfg.strobeMax
    ∧ ((base.margin 2 .inner).preferred.code = 1 ∧ base.op 2 = none)
    ∧ (let s := after (.configure 0 0) (desk 0 codeConfigure (configBody offStrobe [0#8, 1#8]))
       s.nextStrobe (freshOp 26) none = some .early) :=
  ⟨fun _ => running_waits .., by decide, by decide +kernel, by decide +kernel, by decide +kernel, by decide +kernel⟩

/-- CONFIGURE of the drives in use waits, drive 2 standing in a condition and in use or not. -/
def usingDrives (now was : BitVec 4) (u : DriveSeq) : State :=
  { running 0 (held codeConfigure (configBody offDrives [now.setWidth 8])) u mountedVol [] with
    cfg := { defaultConfig .b9600 with drivesInUse := was } }

/-- CONFIGURE takes drive 2 out of use, with a request of line 5 still to be answered. -/
def leavingUse (u : DriveSeq) (g : Region) (f : Volume → Volume) : State :=
  (((usingDrives 0xB#4 0xF#4 u).modRegion 2 fun _ => g).modVol 2 f).modLine 5 fun w =>
    { w with bufs := (Vector.replicate 2 none).set 0 (some (held codeWriteBlock [])) }

/-- A reader of line 5. -/
def reader5 : Reader := { line := 5, buf := 0, sector := 22 }

/-- A waiter of line 5. -/
def waiter5 : Waiter := changeWaiter m256 50 5 0 false

theorem witness_DrivesInUseFollowTheConfiguration :
    (∀ now was u, (usingDrives now was u).Waiting 0 0 codeConfigure
        (held codeConfigure (configBody offDrives [now.setWidth 8])))
    ∧ (let body := configBody offDrives [0xB#8]
       configRefused body = false ∧ byteAt body 0 ≠ 0 ∧ (BitVec.ofNat 4 (byteAt body 1)).getLsbD 2 = false)
    ∧ (let body := configBody offDrives [0xF#8]
       configRefused body = false ∧ (BitVec.ofNat 4 (byteAt body 1)).getLsbD 2 = true)
    ∧ (usingDrives 0xB#4 0xF#4 (readyDrive 0)).part.straps.drivesPresent.get 2 = true
    ∧ ((usingDrives 0xB#4 0xF#4 (readyDrive 0)).cfg.drivesInUse.getLsbD 2 = true
        ∧ (usingDrives 0xF#4 0xB#4 (readyDrive 0)).cfg.drivesInUse.getLsbD 2 = false)
    ∧ ((freshDrive false quietLevels).condition = .offline ∧ (freshDrive false quietLevels).levels.driveFault = false)
    ∧ (∀ u g f, let s := leavingUse u g f
        s.buffer 0 0 = some (held codeConfigure (configBody offDrives [0xB#8])) ∧ s.part.extReset = false
        ∧ s.drive 2 = u ∧ s.region 2 = g ∧ s.vol 2 = f mountedVol ∧ s.cfg.drivesInUse = 0xF#4 ∧ s.op 2 = none
        ∧ s.InProgress 5 0 (held codeWriteBlock []) ∧ (held codeWriteBlock []).reply = none)
    ∧ (((5 : Line), (0 : BufId)) ≠ (0, 0) ∧ (∀ e : DriveId, (0xF#4).getLsbD e.val = false → False)
        ∧ ∀ e : DriveId, e ≠ 2 → (0xF#4).getLsbD e.val = (0xB#4).getLsbD e.val)
    ∧ (writeOf .selected ∈ [writeOf .selected] ∧ (writeOf .selected).origin = .desk 5
        ∧ (writeOf .selected).kind.buffer = some 0 ∧ (writeOf .selected).kind.isWrite = true)
    ∧ (∀ x, let g := { freshRegion with state := x, frames := [Frame.filling 5 0 [reader5]] }
        g.state = x ∧ reader5 ∈ g.allReaders ∧ reader5 ∈ (g.frame 0).readers)
    ∧ ((inService (.fill 0)).kind = .fill 0 ∧ (inService (.fill 0)).origin ≠ .volume)
    ∧ (waiter5 ∈ [waiter5] ∧ waiter5.kind ≠ .extending none ∧ waiter5.line = 5 ∧ waiter5.buf = 0)
    ∧ (∀ q u g, ((leavingUse u g fun v => { v with pendingReq := some q, waiters := [waiter5] }).vol 2).pendingReq = some q)
    ∧ (∀ o u g f, ((leavingUse u g f).setOp 2 (some o)).op 2 = some o) := by
  refine ⟨fun now was u => ?_, by decide, by decide, by decide +kernel, by decide +kernel, by decide,
    fun _ _ _ => ⟨rfl, rfl, rfl, rfl, rfl, rfl, rfl, ⟨rfl, rfl, rfl⟩, rfl⟩, by decide, by decide,
    fun _ => ⟨rfl, .head _, .head _⟩, by decide, by decide, fun _ _ _ => rfl, fun _ _ _ _ => rfl⟩
  have w := running_waits 0 codeConfigure (configBody offDrives [now.setWidth 8]) u mountedVol []
  exact ⟨w.live, w.held, w.named, w.stage, w.untaken, w.owned, w.sending⟩

/-- A LABEL-READ that waits. -/
def labelRequest : Request := Request.fresh .volume .labelRead 0 0 none none labelProfile

/-- Drive 2 FAULTED with READY and DRIVE-FAULT asserted, a LABEL-READ waiting, and its console asking for CLEAR DRIVE. -/
def faultedTwice : State :=
  running 0 (held codeClearDrive [2#8])
    { readyDrive 0 with condition := .faulted, levels := { quietLevels with ready := true, driveFault := true },
                        queue := [labelRequest] } mountedVol []

/-- A FAULTED drive holds only what a fault keeps, when drive 2's queue is a LABEL-READ that waits. -/
theorem faultedQueues_of {s : State} (two : (s.drive 2).queue = [labelRequest])
    (others : ∀ d, d ≠ 2 → (s.drive d).queue = []) : s.faultedQueues := fun d _ r hr => by
  by_cases e : d = 2
  · subst e
    rw [two, List.mem_singleton] at hr
    subst hr
    exact ⟨rfl, rfl, .inl rfl⟩
  · rw [others d e] at hr
    cases hr

theorem faultedTwice_queues : faultedTwice.faultedQueues := faultedQueues_of rfl (by decide +kernel)

theorem witness_ClearDriveLeavesFaulted :
    (∀ body u, (running 0 (held codeClearDrive body) u mountedVol []).Waiting 0 0 codeClearDrive (held codeClearDrive body))
    ∧ driveOf (byteAt [4#8] 0) = none ∧ driveOf (byteAt [2#8] 0) = some 2
    ∧ (∀ c lv, ((running 0 (held codeClearDrive [2#8]) { readyDrive 0 with condition := c, levels := lv } mountedVol []).drive
        2).condition = c)
    ∧ (∀ lv, ((running 0 (held codeClearDrive [2#8]) { readyDrive 0 with levels := lv } mountedVol []).drive 2).levels = lv)
    ∧ (faultedTwice.Waiting 0 0 codeClearDrive (held codeClearDrive [2#8]) ∧ (faultedTwice.drive 2).condition = .faulted
        ∧ (faultedTwice.drive 2).levels.ready = true ∧ (faultedTwice.drive 2).levels.driveFault = true
        ∧ faultedTwice.faultedQueues) :=
  ⟨fun _ _ => running_waits .., rfl, rfl, fun _ _ => rfl, fun _ => rfl,
   ⟨running_waits .., rfl, rfl, rfl, faultedTwice_queues⟩⟩

/-- A SWEEP in service, with its record. -/
def sweeping (o : OpRecord) : State := serving (held codeSweep []) (inService (.sweep 0)) o .read none id

/-- The record of a sweep after its last revolution: 20 sectors at EARLY, 26 at NORMAL and at LATE. -/
def swept : OpRecord :=
  { freshOp 26 with
    sweepRun := some .late, sweepCount := [(.early, 20), (.normal, 26)], sweepGood := (List.range 26).map (· + 1) }

theorem witness_SweepAndRawReadArePlacedOrRefused :
    (∀ code body u v, (running 0 (held code body) u v []).Waiting 0 0 code (held code body))
    ∧ ((desk 0 codeSweep [2#8, 76#8, 1#8, 2#8, 1#8, 26#8]).setSweepFlag 2 true).Waiting 0 0 codeSweep
        (held codeSweep [2#8, 76#8, 1#8, 2#8, 1#8, 26#8])
    ∧ sweepFields [2#8, 76#8, 1#8, 2#8, 1#8, 26#8] = some m256.read
    ∧ rawFields [2#8, 76#8, 1#8, 26#8, 2#8, 1#8, 26#8] = some m256.read
    ∧ (((desk 0 codeSweep []).setSweepFlag 2 true).channel.sweepFlag.get 2 = true ∧ base.channel.sweepFlag.get 2 = false)
    ∧ (byteAt [2#8, 76#8, 1#8] 1 ≤ 76 ∧ byteAt [2#8, 76#8, 1#8] 2 ≤ 1 ∧ 76 < byteAt [2#8, 77#8, 1#8] 1
        ∧ 1 < byteAt [2#8, 76#8, 2#8] 2 ∧ driveOf (byteAt [4#8] 0) = none ∧ sweepFields [2#8, 76#8, 1#8, 2#8, 1#8, 0#8] = none)
    ∧ ((base.drive 2).condition = .ready ∧ (base.vol 2).state ≠ .mounting ∧ (base.vol 2).state ≠ .preparing
        ∧ (base.drive 2).deskPlaces < 12
        ∧ 12 ≤ ({ readyDrive 0 with queue := List.replicate 12 (writeOf .queued) } : DriveSeq).deskPlaces)
    ∧ (∀ c v, let s := running 0 (held codeSweep []) { readyDrive 0 with condition := c } { mountedVol with state := v } []
        (s.drive 2).condition = c ∧ (s.vol 2).state = v)
    ∧ (∀ o, (sweeping o).Serving 2 (inService (.sweep 0)) o ∧ (sweeping o).InProgress 0 0 (held codeSweep [])
        ∧ (sweeping o).part.extReset = false ∧ ((sweeping o).drive 2).condition = .ready
        ∧ ((sweeping o).drive 2).levels.trackZero = false ∧ (sweeping o).channel.gate = none
        ∧ ((sweeping o).drive 2).pos.cylinder = some 5)
    ∧ ({ freshOp 26 with sweepLeft := [.early, .normal, .late] } : OpRecord).sweepLeft = .early :: [.normal, .late]
    ∧ (swept.sweepLeft = []
        ∧ swept.sweepCount ++ [(.late, swept.sweepGood.length)] = [(.early, 20)] ++ (.normal, 26) :: [(.late, 26)])
    ∧ (let o := { freshOp 26 with sweepRun := some .early, wrong := 1 }
       o.awaiting = none ∧ o.pulses < 2 ∧ o.wrong < 2 ∧ 22 ∉ o.sweepGood)
    ∧ ((inService (.sweep 0)).NamedBy (idField 5#8 22#8) 5 22 ∧ IdAccepted (idField 6#8 22#8)
        ∧ (inService (.sweep 0)).FitsId (idField 6#8 22#8) ∧ (idField 6#8 22#8).cylinder.toNat ≠ 5
        ∧ (inService (.sweep 0)).GoodData dataField
        ∧ (inService (.sweep 0)).BadData { dataField with whole := false }) := by
  refine ⟨fun _ _ _ _ => running_waits .., ?_, by decide, by decide, by decide +kernel, by decide, by decide +kernel,
    fun _ _ => ⟨rfl, rfl⟩, fun _ => ⟨⟨rfl, rfl, rfl⟩, ⟨rfl, rfl, rfl⟩, rfl, rfl, rfl, rfl, rfl⟩, rfl, by decide, by decide,
    idField_names _ rfl rfl, (idField_strays (inService (.sweep 0)) rfl rfl).1,
    (idField_strays (inService (.sweep 0)) rfl rfl).2.1, by decide, dataField_reads _ rfl⟩
  have w := running_waits 0 codeSweep [2#8, 76#8, 1#8, 2#8, 1#8, 26#8] (readyDrive 0) mountedVol []
  exact ⟨w.live, w.held, w.named, w.stage, w.untaken, w.owned, w.sending⟩

/-- A desk WRITE of line 5 waits at drive 2. -/
def writeWaiting : State :=
  running 5 (held codeWriteBlock []) { readyDrive 0 with queue := [writeOf .queued] } mountedVol []

/-- A FORMAT-TRACK of drive 2 with its gate open over some items. -/
def formatOpen (items : List TrackItem) : State :=
  serving heldRead (formatting 5) (freshOp 26) .format (some { someGate with items := items }) id

theorem formatOpen_serves (items : List TrackItem) :
    (formatOpen items).Serving 2 (formatting 5) (freshOp 26)
      ∧ (formatOpen items).channel.state = .format
      ∧ (formatOpen items).channel.gate = some { someGate with items := items } := ⟨⟨rfl, rfl, rfl⟩, rfl, rfl⟩

/-- Over the ID mark a field runs; over nothing none does. -/
theorem formatOpen_field (r : Request) :
    r.InField { someGate with items := [.mark .id] } 0 ∧ ¬ r.InField { someGate with items := [] } 0 :=
  ⟨⟨by decide, 0, Nat.le_refl 0, .inl ⟨rfl, by decide⟩⟩, fun h => absurd h.1 (by decide)⟩

theorem base_drained : base.Drained where
  replies := rfl
  queues d r h := absurd h (by
    have : ∀ d, (base.drive d).queue = [] := by decide +kernel
    simp [this d])
  dirty d := .inl (by
    have : ∀ d, ∀ x ∈ (base.vol d).sectors, x = SectorState.clean := by decide +kernel
    intro j
    by_cases h : j < (base.vol d).sectors.length
    · rw [Volume.sector, List.getD_eq_getElem _ _ h]
      exact this d _ (List.getElem_mem h)
    · rw [Volume.sector, List.getD_eq_default _ _ (Nat.le_of_not_lt h)])
  volumes d := by revert d; decide +kernel

theorem witness_RestartDrainsAndRestartsTheBlocks :
    (desk 0 codeRestart []).Waiting 0 0 codeRestart (held codeRestart []) ∧ (desk 0 codeRestart []).part.drainOver = false
    ∧ (let s := base.modPart fun p => { p with state := .draining, drainTimer := true }
       s.part.state = .draining ∧ s.part.drainTimer = true ∧ s.Drained
        ∧ ∀ d r o, ¬ s.Serving d r o)
    ∧ (∀ items, let s := (formatOpen items).modPart fun p => { p with state := .draining, drainTimer := true }
        s.part.state = .draining ∧ s.part.drainTimer = true ∧ s.channel.state = .format
        ∧ s.channel.gate = some { someGate with items := items } ∧ s.Serving 2 (formatting 5) (freshOp 26))
    ∧ (let s := base.modPart fun p => { p with state := .draining, drainOver := true }
       s.part.state = .draining ∧ s.part.drainOver = true ∧ s.channel.gate = none
        ∧ (∀ l bs, (s.line l).rx ≠ .held bs true) ∧ s.linesOrderly ∧ s.cfg.period ≠ 0)
    ∧ (base.part.state ≠ .draining ∧ (formatOpen []).channel.gate ≠ none)
    ∧ (let s := writeWaiting.modPart fun p => { p with state := .draining }
       s.part.drainOver = false ∧ ¬ s.Drained) := by
  refine ⟨running_waits .., by decide +kernel, ⟨rfl, rfl, ⟨base_drained.1, base_drained.2, base_drained.3, base_drained.4⟩,
    fun d r o h => ?_⟩, fun _ => ⟨rfl, rfl, rfl, rfl, rfl, rfl, rfl⟩,
    ⟨rfl, rfl, rfl, fun l bs => ?_, base_orderly, by decide⟩, ⟨by decide +kernel, Option.some_ne_none _⟩, rfl, fun h => ?_⟩
  · exact absurd h.granted (Option.some_ne_none d ∘ Eq.symm)
  · have : ∀ l, (base.line l).rx = .hunt := by decide +kernel
    show (base.line l).rx ≠ _
    rw [this l]
    exact RxArea.noConfusion
  · exact (h.queues 2 (writeOf .queued) (.head _)).1 0 none rfl

/-! ### Drives and head positioning -/

/-- The usual state with another drive sequencer 2. -/
def withDrive (u : DriveSeq) : State := running 0 (held codeReadClock []) u mountedVol []

theorem witness_DriveLevelsAreTaken : ∀ c lv,
    (withDrive { readyDrive 0 with condition := c, levels := lv }).part.extReset = false
    ∧ ((withDrive { readyDrive 0 with condition := c, levels := lv }).drive 2).condition = c
    ∧ ((withDrive { readyDrive 0 with condition := c, levels := lv }).drive 2).levels = lv := fun _ _ => ⟨rfl, rfl, rfl⟩

/-- A reader of block 37 on line 0. -/
def reader37 : Reader := { line := 0, buf := 0, sector := 22 }

/-- A volume request of line 0 and a changed entry wait in drive 2. -/
def asked (q : PendingVolume) : State :=
  running 0 (held codeReadClock []) (readyDrive 0)
    { mountedVol with pendingReq := some q, waiters := [changeWaiter m256 50 0 0 false] } []

/-- A margin record from before a recovery. -/
def earlier : Margin := freshMargin base.cfg

/-- The record of an operation that has taught a zone a strobe. -/
def taughtOp (z : Zone) : OpRecord := { freshOp 26 with undo := [(.inner, earlier)], zone := z }

/-- That operation in service. -/
def taughtIn (z : Zone) : State := withDrive (readyDrive 0) |>.modChannel fun c =>
  { c with ops := c.ops.set 2 (some (taughtOp z)) }

theorem witness_RemovalClearsTheDrive :
    (∀ c, (withDrive { readyDrive 0 with condition := c }).part.extReset = false
        ∧ ((withDrive { readyDrive 0 with condition := c }).drive 2).condition = c)
    ∧ (writeOf .queued ∈ (writeWaiting.drive 2).queue ∧ (writeOf .queued).origin = .desk 5
        ∧ (writeOf .queued).kind.buffer = some 0 ∧ writeWaiting.buffer 5 0 = some (held codeWriteBlock []))
    ∧ (let s := reading (readyDrive 0) [.filling 5 0 [reader37]]
       (s.region 2).state ≠ .closing ∧ reader37 ∈ (s.region 2).allReaders
        ∧ s.buffer 0 0 = some (held codeReadBlock readBody))
    ∧ (let r := inService (.fill 0)
       let s := (running 0 heldRead { readyDrive 0 with queue := [r] } mountedVol []).modRegion 2 fun g =>
          { g with state := .closing, frames := [.filling 5 0 [reader37]] }
       (s.region 2).state = .closing ∧ r ∈ (s.drive 2).queue ∧ r.origin ≠ .volume ∧ r.kind = .fill 0
        ∧ (∀ x ∈ (s.drive 2).queue, x = r) ∧ reader37 ∈ ((s.region 2).frame 0).readers
        ∧ s.buffer 0 0 = some heldRead)
    ∧ (∀ q, let s := asked q
        (s.drive 2).condition = .ready ∧ (s.vol 2).pendingReq = some q ∧ s.InProgress 0 0 (held codeReadClock [])
        ∧ changeWaiter m256 50 0 0 false ∈ (s.vol 2).waiters
        ∧ (changeWaiter m256 50 0 0 false).kind ≠ .extending none)
    ∧ ((∀ z, (taughtIn z).op 2 = some (taughtOp z) ∧ (Zone.inner, earlier) ∈ (taughtOp z).undo
          ∧ ∀ m, (Zone.inner, m) ∈ (taughtOp z).undo → m = earlier)
        ∧ (∀ z m, (Zone.outer, m) ∉ (taughtOp z).undo) ∧ base.op 2 = none) :=
  ⟨fun _ => ⟨rfl, rfl⟩, by decide +kernel, by decide +kernel, by decide +kernel,
   fun _ => ⟨rfl, rfl, ⟨rfl, rfl, rfl⟩, .head _, WaiterKind.noConfusion⟩,
   ⟨fun _ => ⟨rfl, .head _, fun m h => by simpa [taughtOp] using h⟩, fun _ m h => by simp [taughtOp] at h, rfl⟩⟩

/-- A volume request in service at drive 2. -/
def volumeService (k : ReqKind) : Request := { inService k with origin := .volume }

/-- Drive 2, READY and about to fail its speed, with a queue and the volume changed by `f`. -/
def slowing (q : List Request) (f : Volume → Volume) : State :=
  running 0 heldRead { readyDrive 0 with index := { clearedTiming with miss := 2 }, queue := q } (f mountedVol) []

/-- A FILL of frame 0 in service there, for the block of line 0, in a region in the state `x`. -/
def slowFill (x : RegionState) : State :=
  (slowing [inService (.fill 0)] id).modRegion 2 fun g => { g with state := x, frames := [.filling 5 0 [reader37]] }

/-- The waiter of a change of handle 50, its image taken. -/
def changed50 : Waiter := { changeWaiter m256 50 0 0 false with covered := true }

/-- The INDEX-WRITE of index sector 6 in service there, that waiter on it. -/
def slowIndexWrite : State :=
  slowing [volumeService (.indexWrite 6)] fun v => { v with sectors := v.sectors.set 6 .writing, waiters := [changed50] }

/-- A format of PREPARE VOLUME in service there. -/
def slowPrepare : State :=
  slowing [volumeService .formatTrack] fun v =>
    { v with state := .preparing, pendingReq := some (.prepare 0 0 false), waiters := [] }

theorem witness_FaultEndsServiceAndKeepsTheVolume :
    (∀ u, (withDrive u).part.extReset = false ∧ ((withDrive u).vol 2).state ≠ .preparing ∧ ((withDrive u).drive 2) = u)
    ∧ (let u := { readyDrive 0 with index := { clearedTiming with miss := 2 }, queue := [labelRequest, writeOf .queued] }
       u.condition = .ready ∧ u.index.miss = 2 ∧ labelRequest ∈ u.queue ∧ labelRequest.origin = .volume
        ∧ labelRequest.state = .queued ∧ (∀ r ∈ u.queue, r.origin = .volume → r.kind.isWrite = false))
    ∧ (let u := { readyDrive 0 with condition := .speedCheck, noIndexTimer := true }
       u.condition = .speedCheck ∧ u.noIndexTimer = true ∧ u.queue = [])
    ∧ (let u := { readyDrive 0 with pos := { freshPositioner.startRecal 6000 with remaining := 0 } }
       u.pos.state = .recalibrating ∧ u.pos.stepTimer ≠ none ∧ u.pos.remaining = 0 ∧ u.levels.trackZero = false)
    ∧ (writeOf .queued ∈ (writeWaiting.drive 2).queue ∧ writeWaiting.buffer 5 0 = some (held codeWriteBlock []))
    ∧ (∀ q f, (slowing q f).part.extReset = false ∧ ((slowing q f).drive 2).condition = .ready
        ∧ ((slowing q f).drive 2).index.miss = 2 ∧ ((slowing q f).drive 2).queue = q ∧ (slowing q f).vol 2 = f mountedVol
        ∧ (slowing q f).InProgress 0 0 heldRead)
    ∧ (∀ k ∈ [ReqKind.labelRead, .indexLoad], volumeService k ∈ [volumeService k]
        ∧ (volumeService k).origin = .volume ∧ (volumeService k).state ≠ .queued ∧ (volumeService k).kind = k)
    ∧ (∀ x, inService (.fill 0) ∈ ((slowFill x).drive 2).queue ∧ (inService (.fill 0)).origin ≠ .volume
        ∧ ((slowFill x).region 2).state = x ∧ reader37 ∈ (((slowFill x).region 2).frame 0).readers
        ∧ (slowFill x).InProgress reader37.line reader37.buf heldRead
        ∧ ∀ y ∈ ((slowFill x).drive 2).queue, y = inService (.fill 0))
    ∧ (volumeService (.indexWrite 6) ∈ (slowIndexWrite.drive 2).queue ∧ (volumeService (.indexWrite 6)).state ≠ .queued
        ∧ 6 < (slowIndexWrite.vol 2).sectors.length ∧ changed50 ∈ (slowIndexWrite.vol 2).waiters ∧ changed50.sector = 6
        ∧ ∀ x y, x ∈ (slowIndexWrite.drive 2).queue → x.kind ≠ .write changed50.buf y)
    ∧ (∀ r ∈ (slowIndexWrite.drive 2).queue, r.origin = .volume → r.kind.isWrite = true → ∃ j, r.kind = .indexWrite j)
    ∧ (volumeService .formatTrack ∈ (slowPrepare.drive 2).queue ∧ (slowPrepare.vol 2).pendingReq = some (.prepare 0 0 false)
        ∧ slowPrepare.InProgress 0 0 heldRead)
    ∧ (∀ z, (taughtIn z).op 2 = some (taughtOp z) ∧ (Zone.inner, earlier) ∈ (taughtOp z).undo) := by
  refine ⟨fun _ => ⟨rfl, VolState.noConfusion, rfl⟩, by decide, by decide, by decide, by decide +kernel,
    fun _ _ => ⟨rfl, rfl, rfl, rfl, rfl, rfl, rfl, rfl⟩, by decide,
    fun _ => ⟨.head _, Origin.noConfusion, rfl, .head _, ⟨rfl, rfl, rfl⟩, fun y h => List.mem_singleton.mp h⟩,
    ⟨.head _, by decide, by decide +kernel, .head _, by decide +kernel, fun x y h e => ?_⟩, fun r h _ _ => ?_,
    ⟨.head _, rfl, rfl, rfl, rfl⟩, fun _ => ⟨rfl, .head _⟩⟩
  · rw [List.mem_singleton.mp h] at e
    cases e
  · rw [List.mem_singleton.mp h]
    exact ⟨6, rfl⟩

theorem witness_IndexPulsesTimeAndCount :
    (∀ c, ((withDrive { readyDrive 0 with condition := c }).drive 2).condition = c
        ∧ (withDrive { readyDrive 0 with condition := c }).channel.granted ≠ some 2
        ∧ (withDrive { readyDrive 0 with condition := c }).part.extReset = false)
    ∧ (let s := serving (held codeReadBlock readBody) (inService (.directRead 0)) (freshOp 26) .search none id
       (s.drive 2).condition = .ready ∧ s.channel.granted = some 2 ∧ (s.drive 2).selected = some (inService (.directRead 0))
        ∧ s.op 2 = some (freshOp 26) ∧ s.channel.gate = none ∧ (inService (.directRead 0)).kind.isFormat = false
        ∧ (inService (.directRead 0)).kind.isSweep = false)
    ∧ (let u := { readyDrive 0 with index := { clearedTiming with pulseSeen := true } }
       u.condition = .ready ∧ u.index.pulseSeen = true) :=
  ⟨fun _ => ⟨rfl, fun h => (by cases h), rfl⟩, by decide +kernel, by decide⟩

/-- A drive whose speed has been found right. -/
def spunUp (trackZero : Bool) : DriveSeq :=
  { readyDrive 0 with condition := .speedCheck, index := { clearedTiming with run := 2 }, noIndexTimer := true,
                      levels := { quietLevels with ready := true, trackZero := trackZero }, pos := freshPositioner }

/-- A drive that recalibrates. -/
def recalibrating (trackZero : Bool) (remaining : Nat) (step settle : Option Nat) (due : Bool) : DriveSeq :=
  { readyDrive 0 with
    levels := { quietLevels with ready := true, trackZero := trackZero }, reportDue := due,
    pos := { freshPositioner with state := .recalibrating, remaining := remaining, stepTimer := step, settleTimer := settle } }

/-- R27: TRACK-ZERO before any step leaves the count of step 1; after a step and the settle time it is 0. -/
theorem test_remaining_at_zero :
    (((after (.speedReached 2) (withDrive (spunUp true))).drive 2).pos.state,
        ((after (.speedReached 2) (withDrive (spunUp true))).drive 2).pos.remaining) = (.resting, 80)
    ∧ (((after (.recalSettleEnd 2) (withDrive (recalibrating true 78 none (some 15000) false))).drive 2).pos.state,
        ((after (.recalSettleEnd 2) (withDrive (recalibrating true 78 none (some 15000) false))).drive 2).pos.remaining)
      = (.resting, 0) := by decide +kernel

theorem witness_SpeedReachedRecalibratesToZero :
    (∀ z, (withDrive (spunUp z)).part.extReset = false ∧ ((withDrive (spunUp z)).drive 2).condition = .speedCheck
        ∧ ((withDrive (spunUp z)).drive 2).index.run = 2 ∧ ((withDrive (spunUp z)).drive 2).levels.driveFault = false
        ∧ ((withDrive (spunUp z)).drive 2).levels.trackZero = z ∧ ((withDrive (spunUp z)).drive 2).queue = [])
    ∧ tested.part.state = .startUp ∧ (tested.modDrive 2 fun _ => spunUp true).part.state = .startUp
    ∧ (∀ z n st se due, let u := recalibrating z n st se due
        u.pos.state = .recalibrating ∧ u.pos.stepTimer = st ∧ u.pos.settleTimer = se ∧ u.levels.trackZero = z
        ∧ u.pos.remaining = n ∧ u.selected = none ∧ u.reportDue = due ∧ u.queue = [])
    ∧ (let s := running 0 (held codeReadClock []) (recalibrating true 3 none (some 15000) true) freshVolume []
       s.part.state ≠ .startUp ∧ (s.vol 2).state = .noVolume) :=
  ⟨fun _ => ⟨rfl, rfl, rfl, rfl, rfl, rfl⟩, by decide +kernel, by decide +kernel,
   fun _ _ _ _ _ => ⟨rfl, rfl, rfl, rfl, rfl, rfl, rfl, rfl⟩, by decide +kernel⟩

/-- A drive on its way, with its timers, a request selected or not. -/
def movingDrive (st : PosState) (remaining unload : Nat) (step settle load : Option Nat) (q : List Request) : DriveSeq :=
  { readyDrive 5 with
    queue := q,
    pos := { freshPositioner with
      state := st, cylinder := some 5, headLoaded := true, remaining := remaining, unload := unload,
      stepTimer := step, settleTimer := settle, loadTimer := load } }

theorem witness_MovesEndOnTrack :
    (∀ st n x a b c q, let s := withDrive (movingDrive st n x a b c q)
        (s.drive 2).pos.state = st ∧ (s.drive 2).pos.remaining = n ∧ (s.drive 2).pos.unload = x
        ∧ (s.drive 2).pos.stepTimer = a ∧ (s.drive 2).pos.settleTimer = b ∧ (s.drive 2).pos.loadTimer = c
        ∧ (s.drive 2).pos.cylinder = some 5 ∧ s.channel.longInhibit = false ∧ (s.drive 2).queue = q)
    ∧ (movingDrive .settling 0 0 none (some 15000) none [writeOf .selected]).selected = some (writeOf .selected)
    ∧ (movingDrive .onTrack 0 4 none none none []).selected = none
    ∧ base.cfg.unloadDelay ≤ 4 ∧ 3 < base.cfg.unloadDelay
    ∧ (let u := { recalibrating true 3 none (some 15000) false with queue := [writeOf .recalWait] }
       u.pos.state = .recalibrating ∧ u.pos.settleTimer = some 15000 ∧ u.reportDue = false
        ∧ u.selected = some (writeOf .recalWait)) :=
  ⟨fun _ _ _ _ _ _ _ => ⟨rfl, rfl, rfl, rfl, rfl, rfl, rfl, rfl, rfl⟩, by decide, by decide, by decide, by decide,
   by decide⟩

/-! ### Service order -/

theorem witness_SelectionFollowsTheServiceOrder :
    (∀ q ∈ [[], [writeOf .queued]], (withDrive { readyDrive 0 with queue := q } |>.drive 2).maySelect = true
        ∧ (withDrive { readyDrive 0 with queue := q } |>.drive 2).pos.cylinder = some 0)
    ∧ base.channel.longInhibit = false
    ∧ (∀ (i : Nat) (x : Request), ([] : List Request)[i]? ≠ some x)
    ∧ (∀ (r : Request) (i : Nat) (x : Request), [r][i]? = some x → i = 0 ∧ x = r)
    ∧ ({ writeOf .queued with passed := 4 } : Request).passed = base.cfg.bypass
    ∧ (writeOf .queued).passed ≠ base.cfg.bypass ∧ (writeOf .queued).eligible base.cfg 0 = true
    ∧ (let c : ConfigRecord := { base.cfg with masks := Vector.replicate 8 0#16 }
       (writeOf .queued).eligible c 0 = false)
    ∧ (∀ c ∈ [(writeOf .queued).cylinder, 60], let u := { loadedDrive c with queue := [writeOf .queued] }
        u.maySelect = true ∧ u.pos.state = .onTrack ∧ u.pos.cylinder = some c)
    ∧ (let u := { readyDrive (writeOf .queued).cylinder with queue := [writeOf .queued] }
       u.maySelect = true ∧ u.pos.state = .resting ∧ u.pos.cylinder = some (writeOf .queued).cylinder)
    ∧ (writeOf .queued).cylinder ≠ 60 := by
  refine ⟨by decide +kernel, rfl, fun i x h => by simp at h, fun r i x h => ?_, by decide, by decide, by decide +kernel,
    by decide +kernel, by decide +kernel, by decide +kernel, by decide⟩
  cases i with
  | zero => simp at h; exact ⟨rfl, h.symm⟩
  | succ i => simp at h

/-- Drive 2 asks for its selected request. -/
def asking (inhibit : Bool) : State :=
  (withDrive { loadedDrive 5 with queue := [writeOf .selected] }).modChannel fun c =>
    { c with asking := c.asking.set 2 true, inhibit := inhibit }

theorem witness_ChannelGrantRotates :
    ((asking false).channel.granted = none ∧ (asking false).part.drainOver = false
      ∧ ((asking false).drive 2).selected = some (writeOf .selected) ∧ (asking false).channel.asking.get 2 = true
      ∧ (asking false).channel.inhibit = false ∧ (∀ e, e ≠ 2 → (asking false).channel.asking.get e = false)
      ∧ (asking false).op 2 = none)
    ∧ ((asking true).channel.inhibit = true ∧ (writeOf .selected).kind.isWrite = true
        ∧ ∀ e, (asking true).channel.asking.get e = true → e = 2)
    ∧ (∀ x ∈ [ReqState.selected, .recalWait],
        let o := { freshOp 26 with step := .three, writes := 1, recovered := [22], image := some [7#8] }
        let s := ((asking false).modDrive 2 fun u => { u with queue := [writeOf x] }).setOp 2 (some o)
        (s.drive 2).selected = some (writeOf x) ∧ s.op 2 = some o ∧ s.channel.asking.get 2 = true)
    ∧ (∀ c ∈ [0, 5], let r := { inService (.sweep 0) with cylinder := c, state := .selected }
        let s := (asking false).modDrive 2 fun u => { u with queue := [r] }
        (s.drive 2).selected = some r ∧ r.kind.isSweep = true ∧ s.op 2 = none ∧ s.channel.asking.get 2 = true)
    ∧ (writeOf .selected).kind.isSweep = false := by decide +kernel

/-! ### The channel -/

/-- The record of a read at ladder step 2 with the EARLY strobe, its data field awaited. -/
def retriedEarly : OpRecord := { freshOp 26 with step := .two, strobe := .early, awaiting := some 22, inPass := false }

theorem witness_SingleReadsFindTheirSector :
    (∀ k o x, (inService k).state = .inService ∧ (serving heldRead (inService k) o x none id).op 2 = some o
        ∧ (serving heldRead (inService k) o x none id).channel.state = x)
    ∧ (∀ k, ((serving heldRead (inService k) (freshOp 26) .search none id).drive 2).selected = some (inService k)
        ∧ (inService k).sectorId = some 22 ∧ (inService k).origin = .desk 0)
    ∧ (serving heldRead (inService (.directRead 0)) (freshOp 26) .search none id).buffer 0 0 = some heldRead
    ∧ ((freshOp 26).pulses < 2 ∧ (freshOp 26).wrong < 2 ∧ (freshOp 26).awaiting = none ∧ (freshOp 26).acted = false)
    ∧ (idGood (badIdField 5#8 22#8) = false ∧ (∀ c k, idGood (idField c k) = true ∧ (idField c k).sync = 4)
        ∧ ({ idField 5#8 22#8 with sync := 3 } : IdField).sync < 4 ∧ (26#8).toNat ≤ m256.read.spt
        ∧ m256.read.spt < (27#8).toNat)
    ∧ (dataGood 256 dataField = true ∧ dataGood 256 { dataField with whole := false } = false ∧ dataField.sync = 4
        ∧ ({ dataField with sync := 3 } : DataField).sync < 4)
    ∧ (let s (n : Nat) : State :=
        (serving heldRead (inService (.directRead 0)) retriedEarly .read none id).setMargin 2 .outer
          { preferred := .normal, leanEarly := n, leanNormal := 0, leanLate := 0 }
       retriedEarly.step = .two ∧ retriedEarly.strobe ∉ retriedEarly.learned
        ∧ retriedEarly.strobe ≠ ((s 0).margin 2 retriedEarly.zone).preferred
        ∧ ((s 1).margin 2 retriedEarly.zone).lean retriedEarly.strobe < 2
        ∧ 2 ≤ ((s 2).margin 2 retriedEarly.zone).lean retriedEarly.strobe) :=
  ⟨fun _ _ _ => ⟨rfl, rfl, rfl⟩, fun k => ⟨(serving_has _ _ _ _ _ rfl).2.1, rfl, rfl⟩, rfl, by decide,
   ⟨badIdField_bad _ _, fun _ _ => ⟨idField_good _ _, rfl⟩, by decide, by decide, by decide⟩,
   ⟨dataField_good, rfl, rfl, by decide⟩, by decide +kernel⟩

/-- The WRITE BLOCK of block 37 in the buffer. -/
def heldWrite : Held := held codeWriteBlock (writeBody 37#8)

/-- The INDEX-WRITE of index sector 6 in service (for the test on the track of block 37). -/
def indexWrite : Request := { inService (.indexWrite 6) with origin := .volume }

/-- The volume with index sector 6 in a state and that waiter. -/
def waiting (x : SectorState) (v : Volume) : Volume := { v with sectors := v.sectors.set 6 x, waiters := [changed50] }

/-- That INDEX-WRITE in service, the volume changed by `f`. -/
def indexing (o : OpRecord) (x : ChanState) (f : Volume → Volume) : State :=
  (serving heldRead indexWrite o x none id).modVol 2 fun v => { f v with profile := some m256 }

/-- A write of one sector of each kind, in service. -/
def sectorWrites : List Request :=
  [inService (.write 0 none), inService (.write 0 (some .waiting)), indexWrite, prepStep .label, prepStep (.index 3)]

/-- What those requests have in common. -/
theorem sectorWrites_share (r : Request) (h : r ∈ sectorWrites) :
    r.state = .inService ∧ r.WritesSector ∧ r.sectorId = some 22 ∧ r.profile = m256.read ∧ r.head = 0
      ∧ r.granted = true := by
  simp only [sectorWrites, List.mem_cons, List.not_mem_nil, or_false] at h
  rcases h with rfl | rfl | rfl | rfl | rfl
  · exact ⟨rfl, .inl ⟨_, _, _, rfl, rfl⟩, rfl, rfl, rfl, rfl⟩
  · exact ⟨rfl, .inl ⟨_, _, _, rfl, rfl⟩, rfl, rfl, rfl, rfl⟩
  · exact ⟨rfl, .inr ⟨rfl, .inl ⟨_, rfl⟩⟩, rfl, rfl, rfl, rfl⟩
  · exact ⟨rfl, .inr ⟨rfl, .inr ⟨_, rfl⟩⟩, rfl, rfl, rfl, rfl⟩
  · exact ⟨rfl, .inr ⟨rfl, .inr ⟨_, rfl⟩⟩, rfl, rfl, rfl, rfl⟩

/-- Such a request served, the guard in INHIBIT or not, the long inhibit on or not, the diskette protected or not. -/
def writing (r : Request) (o : OpRecord) (x : ChanState) (gate : Option Gate) (inhibit long protect : Bool) : State :=
  (serving heldWrite r o x gate fun u => { u with levels := { u.levels with writeProtect := protect } }).modChannel fun c =>
    { c with inhibit := inhibit, longInhibit := long }

theorem writing_has (r : Request) (o : OpRecord) (x : ChanState) (gate : Option Gate) (inhibit long protect : Bool)
    (hr : r.state = .inService) :
    (writing r o x gate inhibit long protect).Serving 2 r o
      ∧ (writing r o x gate inhibit long protect).channel.state = x
      ∧ (writing r o x gate inhibit long protect).channel.gate = gate
      ∧ (writing r o x gate inhibit long protect).channel.inhibit = inhibit
      ∧ (writing r o x gate inhibit long protect).channel.longInhibit = long
      ∧ ((writing r o x gate inhibit long protect).drive 2).levels.writeProtect = protect
      ∧ ((writing r o x gate inhibit long protect).drive 2).pos.cylinder = some 5
      ∧ (writing r o x gate inhibit long protect).InProgress 0 0 heldWrite
      ∧ (writing r o x gate inhibit long protect).part.drainOver = false
      ∧ (writing r o x gate inhibit long protect).cfg.writeCheck = true := by
  refine ⟨⟨rfl, ?_, rfl⟩, rfl, rfl, rfl, rfl, rfl, rfl, ⟨rfl, rfl, rfl⟩, rfl, rfl⟩
  show List.find? (fun r : Request => r.state != .queued) [r] = some r
  simp [hr]

/-- The channel looks for the ID field of such a request, one field of another cylinder counted or none. -/
theorem writing_seeks (r : Request) (h : r ∈ sectorWrites) (o : OpRecord) (x : ChanState) (inhibit long protect : Bool)
    (ha : o.awaiting = none) (hp : o.pulses < 2) (hw : o.wrong < 2) :
    (writing r o x none inhibit long protect).Seeking 2 r o 5 :=
  ⟨(writing_has r o x none inhibit long protect (sectorWrites_share r h).1).1, rfl, ha, hp, hw, rfl⟩

theorem writing_awaits (r : Request) (h : r ∈ sectorWrites) (o : OpRecord) (x : ChanState) (inhibit long protect : Bool)
    (ha : o.awaiting = some 22) (hp : o.pulses < 2) (hw : o.wrong < 2) :
    (writing r o x none inhibit long protect).Awaiting 2 r o 22 :=
  ⟨(writing_has r o x none inhibit long protect (sectorWrites_share r h).1).1, rfl, ha, hp, hw⟩

theorem witness_SingleReadsClimbTheLadder :
    (∀ o, let s := serving heldRead (inService (.directRead 0)) o .search none id
        s.channel.granted = some 2 ∧ (s.drive 2).selected = some (inService (.directRead 0)) ∧ s.op 2 = some o
        ∧ s.channel.gate = none ∧ s.buffer 0 0 = some heldRead ∧ (s.drive 2).levels.trackZero = false)
    ∧ (1 < 2 ∧ (freshOp 26).step = .initial ∧ (freshOp 26).awaiting = none)
    ∧ ((base.margin 2 .outer).preferred = .normal ∧ base.cfg.allows .early = true ∧ base.cfg.allows .late = true
        ∧ [Strobe.normal, .early, .late] = [.normal] ++ .early :: [.late]
        ∧ [Strobe.normal, .early, .late] = ([.normal] ++ .early :: []) ++ .late :: []
        ∧ [Strobe.normal, .early, .late] = [.normal, .early] ++ .late :: [])
    ∧ (let c : ConfigRecord := { base.cfg with strobeMin := .normal, strobeMax := .normal }
       ∀ y, c.allows y = true → y = .normal)
    ∧ ((∀ k, IdAccepted (idField 6#8 22#8) ∧ (inService k).FitsId (idField 6#8 22#8))
        ∧ (idField 6#8 22#8).cylinder.toNat ≠ 5)
    ∧ (∀ o, let s := serving heldRead (inService (.directRead 0)) o .search none fun u =>
          { u with levels := { u.levels with trackZero := true } }
        (s.drive 2).levels.trackZero = true ∧ (s.drive 2).reportDue = false ∧ (s.drive 2).pos.cylinder = some 5
        ∧ s.channel.state = .search)
    ∧ (∀ r ∈ sectorWrites, r.WritesSector ∧ ∀ o x i, (writing r o x none i false false).Serving 2 r o
        ∧ (writing r o x none i false false).channel.gate = none
        ∧ (writing r o x none i false false).channel.state = x ∧ (writing r o x none i false false).channel.inhibit = i
        ∧ (writing r o x none i false false).channel.longInhibit = false
        ∧ (writing r o x none i false false).preferredFor 2 r = .normal)
    ∧ (∀ r ∈ sectorWrites, ∀ w x i, (writing r { freshOp 26 with wrong := 1, writes := w } x none i false false).Seeking 2 r
          { freshOp 26 with wrong := 1, writes := w } 5
        ∧ IdAccepted (idField 6#8 22#8) ∧ r.FitsId (idField 6#8 22#8) ∧ (idField 6#8 22#8).cylinder.toNat ≠ 5)
    ∧ (∀ r ∈ sectorWrites, ∀ i, (writing r { freshOp 26 with awaiting := some 22, pulses := 2 } .writeCheck none i false
          false).Serving 2 r { freshOp 26 with awaiting := some 22, pulses := 2 })
    ∧ ((freshOp 26).writes = 0 ∧ ({ freshOp 26 with writes := 1, pulses := 2 } : OpRecord).writes < 2
        ∧ [Strobe.normal, .early, .late] = [] ++ .normal :: [.early] ++ .late :: [])
    ∧ (∀ o, (writing (inService (.write 0 none)) o .search none false false false).InProgress 0 0 heldWrite
        ∧ ((writing indexWrite o .search none false false false).region 2).frames.countP (Frame.validFor 5 0) ≤ 1)
    ∧ (∀ o, (indexing o .search (waiting .writing)).Serving 2 indexWrite o
        ∧ ((indexing o .search (waiting .writing)).vol 2).waiters = [changed50] ∧ changed50.kind ≠ .extending none
        ∧ (indexing o .search (waiting .writing)).InProgress changed50.line changed50.buf heldRead)
    ∧ (∀ st o, (steps st o).Serving 2 (prepStep st) o ∧ ((steps st o).vol 2).pendingReq = some (.prepare 0 0 false)
        ∧ (steps st o).InProgress 0 0 (held codePrepareVolume []) ∧ 1 ≤ ({ o with writes := 2 } : OpRecord).writes) := by
  refine ⟨fun o => ?_, by decide, by decide +kernel, fun y h => ?_, ⟨fun k => ?_, by decide⟩,
    fun _ => ⟨rfl, rfl, rfl, rfl⟩, fun r h => ⟨(sectorWrites_share r h).2.1, fun o x i => ?_⟩,
    fun r h w x i => ⟨writing_seeks r h _ x i false false rfl (by decide : 0 < 2) (by decide : 1 < 2),
      idField_strays r (sectorWrites_share r h).2.2.2.1 (sectorWrites_share r h).2.2.2.2.1⟩,
    fun r h i => (writing_has r _ .writeCheck none i false false (sectorWrites_share r h).1).1, by decide, fun _ => ⟨⟨rfl, rfl, rfl⟩, (by decide : [Frame.empty, .empty].countP (Frame.validFor 5 0) ≤ 1)⟩, fun _ => ⟨⟨rfl, rfl, rfl⟩, rfl, by decide, rfl, rfl, rfl⟩,
    fun _ _ => ⟨⟨rfl, rfl, rfl⟩, rfl, ⟨rfl, rfl, rfl⟩, (by decide : 1 ≤ 2)⟩⟩
  · have := serving_has heldRead (inService (.directRead 0)) o .search none rfl
    exact ⟨this.1, this.2.1, this.2.2.1, rfl, rfl, rfl⟩
  · revert h
    cases y <;> decide
  · have := idField_strays (inService k) rfl rfl
    exact ⟨this.1, this.2.1⟩
  · have := writing_has r o x none i false false (sectorWrites_share r h).1
    refine ⟨this.1, rfl, rfl, rfl, rfl, ?_⟩
    rw [State.preferredFor]
    generalize zoneOf _ _ = z
    cases z <;> rfl

/-- The data WRITE of an extending WRITE BLOCK, waiting in the queue. -/
def extendingWrite : Request := Request.fresh (.desk 0) (.write 0 (some .waiting)) 7 0 (some 3) (some 2) m256.read

/-- The write check of that INDEX-WRITE, two writes made, with an extending WRITE BLOCK waiting for it, its data WRITE
written or not. -/
def extendingIndex (written : Option Bool) : State :=
  (indexing { freshOp 26 with awaiting := some 22, writes := 2 } .writeCheck fun v =>
    { waiting .writing v with waiters := [{ changed50 with kind := .extending written }] }).modDrive 2 fun u =>
      { u with queue := [indexWrite, extendingWrite] }

/-- A state whose gate is open, the write-check item off. -/
def unchecked (s : State) : State :=
  { s.modChannel fun c => { c with gate := some someGate } with cfg := { s.cfg with writeCheck := false } }

theorem witness_DeskWritesAreWrittenAndChecked :
    (∀ o x g, let s := serving heldWrite (inService (.write 0 none)) o x g id
        s.channel.granted = some 2 ∧ (s.drive 2).selected = some (inService (.write 0 none)) ∧ s.op 2 = some o
        ∧ s.channel.state = x ∧ s.channel.gate = g ∧ s.buffer 0 0 = some heldWrite
        ∧ (s.drive 2).pos.cylinder = some 5 ∧ s.part.drainOver = false ∧ s.channel.longInhibit = false
        ∧ s.channel.inhibit = false)
    ∧ (let s := serving heldWrite (inService (.write 0 none)) (freshOp 26) .search none fun u =>
          { u with levels := { u.levels with writeProtect := true } }
       (s.drive 2).levels.writeProtect = true ∧ (s.drive 2).selected = some (inService (.write 0 none)))
    ∧ (let s := (serving heldWrite (inService (.write 0 none)) (freshOp 26) .search none id).modChannel fun c =>
          { c with inhibit := true }
       s.channel.inhibit = true ∧ (s.drive 2).levels.writeProtect = false)
    ∧ (idGood (idField 5#8 22#8) = true ∧ (idField 5#8 22#8).sync = 4 ∧ (idField 5#8 22#8).sizeCode.toNat = m256.read.sizeCode
        ∧ (idField 5#8 22#8).sectorId.toNat = 22 ∧ 22 ≤ m256.read.spt ∧ (idField 5#8 22#8).cylinder.toNat = 5)
    ∧ (base.cfg.writeCheck = true ∧ ({ base.cfg with writeCheck := false } : ConfigRecord).writeCheck = false)
    ∧ (dataGood m256.read.bytes dataField = true ∧ dataGood m256.read.bytes { dataField with whole := false } = false
        ∧ ({ freshOp 26 with writes := 1 } : OpRecord).writes = 1 ∧ 2 ≤ ({ freshOp 26 with writes := 2 } : OpRecord).writes)
    ∧ (let fs := [Frame.empty, trackFrame 1 .bad]
       frameWhere (Frame.validFor 5 0) fs = some 1 ∧ fs.countP (Frame.validFor 5 0) ≤ 1
        ∧ (writeDataOf heldWrite.body).length = m256.read.bytes ∧ base.memoryCanonical)
    ∧ (∀ o x f, (indexing o x f).Serving 2 indexWrite o ∧ (indexing o x f).channel.state = x
        ∧ ((indexing o x f).drive 2).pos.cylinder = some 5 ∧ (indexing o x f).channel.gate = none
        ∧ ((indexing o x f).vol 2).profile = some m256 ∧ (indexing o x f).part.drainOver = false
        ∧ ((indexing o x f).drive 2).levels.writeProtect = false ∧ (indexing o x f).channel.inhibit = false
        ∧ (indexing o x f).InProgress 0 0 heldRead)
    ∧ (indexWrite.NamedBy (idField 5#8 22#8) 5 22 ∧ indexWrite.GoodData dataField
        ∧ indexWrite.BadData { dataField with whole := false } ∧ indexWrite.sectorId = some 22)
    ∧ (let v := ((indexing (freshOp 26) .writeCheck (waiting .writing)).vol 2)
       6 < v.sectors.length ∧ v.sector 6 = .writing ∧ v.waiters = [changed50] ∧ changed50.covered = true
        ∧ changed50.kind = .change ∧ ((indexing (freshOp 26) .writeCheck (waiting .writingDirty)).vol 2).sector 6
          = .writingDirty)
    ∧ (∀ f, (indexing { freshOp 26 with awaiting := some 22 } .writeCheck f).WritesGood 2 indexWrite
        { freshOp 26 with awaiting := some 22 } 22 (.dataFieldRead dataField))
    ∧ (∀ f o, (unchecked (indexing o .write f)).WritesGood 2 indexWrite o 22 .dataFieldWritten)
    ∧ (∀ r ∈ sectorWrites, r.WritesSector ∧ r.sectorId = some 22 ∧ r.NamedBy (idField 5#8 22#8) 5 22
        ∧ r.BadData { dataField with whole := false }
        ∧ ∀ i p, (writing r (freshOp 26) .search none i false p).Seeking 2 r (freshOp 26) 5
          ∧ (writing r (freshOp 26) .search none i false p).channel.state = .search
          ∧ (writing r (freshOp 26) .search none i false p).channel.inhibit = i
          ∧ (writing r (freshOp 26) .search none i false p).channel.longInhibit = false
          ∧ ((writing r (freshOp 26) .search none i false p).drive 2).levels.writeProtect = p
          ∧ (writing r (freshOp 26) .search none i false p).part.drainOver = false)
    ∧ ((freshOp 26).acted = false ∧ areaGet [(1, [7#8, 8#8])] 1 = some [7#8, 8#8] ∧ areaGet [(3, [9#8])] 3 = some [9#8])
    ∧ (∀ st o f, let s := (steps st o).modVol 2 f
        s.Serving 2 (prepStep st) o ∧ (s.drive 2).levels.writeProtect = false ∧ s.channel.inhibit = false
        ∧ s.vol 2 = f ((steps st o).vol 2))
    ∧ (∀ r ∈ sectorWrites, ∀ o, (writing r o .write (some someGate) false false false).Serving 2 r o
        ∧ (writing r o .write (some someGate) false false false).channel.state = .write
        ∧ (writing r o .write (some someGate) false false false).channel.gate ≠ none
        ∧ (writing r o .write (some someGate) false false false).cfg.writeCheck = true
        ∧ ((writing r o .write (some someGate) false false false).modPart fun p => { p with drainOver := true }).Serving 2 r o)
    ∧ (∀ r ∈ sectorWrites, ∀ w i,
        (writing r { freshOp 26 with awaiting := some 22, writes := w } .writeCheck none i false false).Awaiting 2 r
          { freshOp 26 with awaiting := some 22, writes := w } 22
        ∧ (writing r { freshOp 26 with awaiting := some 22, writes := w } .writeCheck none i false false).channel.inhibit = i)
    ∧ ({ freshOp 26 with awaiting := some 22, writes := 1 } : OpRecord).writes < 2
    ∧ (∀ x, let r := inService (.write 0 x)
        (writing r { freshOp 26 with awaiting := some 22 } .writeCheck none false false false).WritesGood 2 r
          { freshOp 26 with awaiting := some 22 } 22 (.dataFieldRead dataField)
        ∧ (∀ o, (unchecked (writing r o .write none false false false)).WritesGood 2 r o 22 .dataFieldWritten)
        ∧ r.kind = .write 0 x ∧ ∀ o y, (writing r o y none false false false).InProgress 0 0 heldWrite)
    ∧ (∀ k, let s := extendingIndex k
        s.Serving 2 indexWrite { freshOp 26 with awaiting := some 22, writes := 2 }
        ∧ (s.vol 2).waiters = [{ changed50 with kind := .extending k }] ∧ s.left 2 = [extendingWrite]
        ∧ extendingWrite.origin = .desk changed50.line ∧ extendingWrite.kind = .write changed50.buf (some .waiting)
        ∧ s.InProgress changed50.line changed50.buf heldRead
        ∧ s.WritesGood 2 indexWrite { freshOp 26 with awaiting := some 22, writes := 2 } 22 (.dataFieldRead dataField))
    ∧ (∀ o f, let s := (indexing o .writeCheck f).modRegion 2 fun g => { g with frames := [.empty, trackFrame 1 .bad] }
        s.memoryCanonical ∧ frameWhere (Frame.validFor 5 0) (s.region 2).frames = some 1
        ∧ (s.region 2).frame 1 = .valid 5 0 1 (List.replicate 26 .bad))
    ∧ (∀ o f, let s := (indexing o .writeCheck f).modRegion 2 fun g => { g with frames := [.empty] }
        ∀ f ∈ (s.region 2).frames, f.validFor 5 0 = false)
    ∧ (∀ st f, let o : OpRecord := { freshOp 26 with awaiting := some 22 }
        ((steps st o).modVol 2 f).WritesGood 2 (prepStep st) o 22 (.dataFieldRead dataField)) := by
  refine ⟨fun o x g => ?_, by decide +kernel, by decide +kernel, ⟨idField_good _ _, rfl, by decide, by decide, by decide,
    by decide⟩, by decide +kernel, ⟨dataField_good, rfl, rfl, by decide⟩, ⟨by decide +kernel, by decide +kernel,
    by decide +kernel, rfl⟩, fun _ _ _ => ⟨⟨rfl, rfl, rfl⟩, rfl, rfl, rfl, rfl, rfl, rfl, rfl, rfl, rfl, rfl⟩,
    ⟨idField_names _ rfl rfl, (dataField_reads _ rfl).1, (dataField_reads _ rfl).2, rfl⟩, by decide +kernel,
    fun _ => .inl ⟨_, rfl, ⟨⟨rfl, rfl, rfl⟩, rfl, rfl, (by decide : 0 < 2), (by decide : 0 < 2)⟩, rfl,
      (dataField_reads _ rfl).1⟩,
    fun _ _ => .inr ⟨rfl, ⟨rfl, rfl, rfl⟩, rfl, by simp [unchecked], rfl, rfl⟩, fun r h => ?_, by decide +kernel,
    fun _ _ _ => ⟨⟨rfl, rfl, rfl⟩, rfl, rfl, rfl⟩, fun r h o => ?_,
    fun r h w i => ⟨writing_awaits r h _ .writeCheck i false false rfl (by decide : 0 < 2) (by decide : 0 < 2), rfl⟩,
    by decide,
    fun _ => ⟨.inl ⟨_, rfl, ⟨⟨rfl, rfl, rfl⟩, rfl, rfl, (by decide : 0 < 2), (by decide : 0 < 2)⟩, rfl,
      (dataField_reads _ rfl).1⟩, fun _ => .inr ⟨rfl, ⟨rfl, rfl, rfl⟩, rfl, Option.some_ne_none _, rfl, rfl⟩, rfl,
      fun _ _ => ⟨rfl, rfl, rfl⟩⟩,
    fun _ => ⟨⟨rfl, rfl, rfl⟩, rfl, rfl, rfl, rfl, ⟨rfl, rfl, rfl⟩,
      .inl ⟨_, rfl, ⟨⟨rfl, rfl, rfl⟩, rfl, rfl, (by decide : 0 < 2), (by decide : 0 < 2)⟩, rfl, (dataField_reads _ rfl).1⟩⟩,
    fun _ _ => ⟨rfl, by simp; rfl, rfl⟩, fun _ _ => by simp [Frame.validFor],
    fun _ _ => .inl ⟨_, rfl, ⟨⟨rfl, rfl, rfl⟩, rfl, rfl, (by decide : 0 < 2), (by decide : 0 < 2)⟩, rfl,
      (dataField_reads _ rfl).1⟩⟩
  · have := serving_has heldWrite (inService (.write 0 none)) o x g rfl
    exact ⟨this.1, this.2.1, this.2.2.1, rfl, rfl, rfl, rfl, rfl, rfl, rfl⟩
  · obtain ⟨_, w, k, p, d, _⟩ := sectorWrites_share r h
    exact ⟨w, k, idField_names r p d, (dataField_reads r p).2, fun i b =>
      ⟨writing_seeks r h _ .search i false b rfl (by decide : 0 < 2) (by decide : 0 < 2), rfl, rfl, rfl, rfl, rfl⟩⟩
  · have := (writing_has r o .write (some someGate) false false false (sectorWrites_share r h).1).1
    exact ⟨this, rfl, by simp [(writing_has r o .write (some someGate) false false false (sectorWrites_share r h).1).2.2.1],
      rfl, this.granted, this.selected, this.record⟩

/-- That FORMAT-TRACK at the moment its gate would open: in SEARCH, or in WRITE-CHECK with the check bad and one write made. -/
def formatDue (x : ChanState) (inhibit long protect : Bool) : State :=
  (serving heldRead (formatting 5) { freshOp 26 with checkBad := true, writes := 1 } x none fun u =>
    { u with levels := { u.levels with writeProtect := protect } }).modChannel fun c =>
      { c with inhibit := inhibit, longInhibit := long }

theorem witness_FormatsRunFromPulseToPulse :
    (∀ c x g, let s := serving heldRead (formatting c) (freshOp 26) x g id
        s.part.extReset = false ∧ (s.drive 2).condition = .ready ∧ s.channel.granted = some 2
        ∧ (s.drive 2).selected = some (formatting c) ∧ s.op 2 = some (freshOp 26) ∧ s.channel.state = x
        ∧ s.channel.gate = g ∧ s.part.drainOver = false ∧ s.channel.inhibit = false
        ∧ (s.drive 2).levels.writeProtect = false ∧ (s.vol 2).profile = some m256 ∧ s.cfg.writeCheck = true)
    ∧ (some someGate ≠ (none : Option Gate) ∧ (formatting 0).kind = .formatTrack ∧ (formatting 76).kind = .formatTrack)
    ∧ (let s := (serving heldRead (formatting 5) (freshOp 26) .format (some someGate) id).modChannel fun c =>
          { c with inhibit := true }
       s.channel.inhibit = true ∧ s.channel.longInhibit = false)
    ∧ ((serving heldRead (formatting 5) (freshOp 26) .format (some someGate) id).modPart fun p =>
          { p with drainOver := true }).part.drainOver = true
    ∧ (∀ o, (serving heldRead (formatting 5) o .writeCheck none id).Serving 2 (formatting 5) o
        ∧ ((serving heldRead (formatting 5) o .writeCheck none id).drive 2).pos.cylinder = some 5
        ∧ (serving heldRead (formatting 5) o .writeCheck none id).left 2 = [])
    ∧ ((formatting 5).NamedBy (idField 5#8 22#8) 5 22 ∧ (formatting 5).GoodData dataField
        ∧ (formatting 5).BadData { dataField with whole := false })
    ∧ ((serving heldRead (formatting 5) { freshOp 26 with wrong := 1 } .writeCheck none id).Seeking 2 (formatting 5)
          { freshOp 26 with wrong := 1 } 5
        ∧ IdAccepted (idField 6#8 22#8) ∧ (formatting 5).FitsId (idField 6#8 22#8) ∧ (idField 6#8 22#8).cylinder.toNat ≠ 5)
    ∧ (let ks := (List.range 26).map (· + 1)
       (∀ k, k < 27 → 1 ≤ k → ks.count k = 1 ∧ k ∈ ks) ∧ (freshOp 26).checkBad = false ∧ (freshOp 26).awaiting = none
        ∧ ¬ (1 ∈ (freshOp 26).checkGood) ∧ (formatting 5).profile.spt = 26)
    ∧ (let s := ((serving heldRead (formatting 5) { freshOp 26 with writes := 2 } .writeCheck none id).modVol 2 fun v =>
          { v with pendingReq := some (.prepare 0 0 false), newLabel := some label7 })
       (s.vol 2).pendingReq = some (.prepare 0 0 false) ∧ s.InProgress 0 0 heldRead ∧ (s.vol 2).newLabel = some label7)
    ∧ (∀ x i p, let s := formatDue x i false p
        s.Serving 2 (formatting 5) { freshOp 26 with checkBad := true, writes := 1 } ∧ s.channel.gate = none
        ∧ s.part.drainOver = false ∧ s.channel.state = x ∧ s.channel.inhibit = i ∧ s.channel.longInhibit = false
        ∧ (s.drive 2).levels.writeProtect = p ∧ (s.drive 2).condition = .ready ∧ s.part.extReset = false)
    ∧ (let s := { formatOpen [] with cfg := { base.cfg with writeCheck := false } }
       s.Serving 2 (formatting 5) (freshOp 26) ∧ s.cfg.writeCheck = false
        ∧ ((s.left 2).filter fun x => x.origin == .volume).length < 2)
    ∧ ((formatting 5).InField { someGate with items := [.mark .id] } 0
        ∧ ¬ (formatting 5).InField { someGate with items := [] } 0
        ∧ ∀ items, (formatOpen items).Serving 2 (formatting 5) (freshOp 26)
            ∧ (formatOpen items).channel.state = .format
            ∧ (formatOpen items).channel.gate = some { someGate with items := items })
    ∧ (serving heldRead (formatting 5) { freshOp 26 with awaiting := some 21 } .writeCheck none id).Awaiting 2 (formatting 5)
        { freshOp 26 with awaiting := some 21 } 21 := by
  refine ⟨fun c x g => ?_, by decide, by decide +kernel, rfl, fun _ => ⟨⟨rfl, rfl, rfl⟩, rfl, rfl⟩,
    ⟨idField_names _ rfl rfl, (dataField_reads _ rfl).1, (dataField_reads _ rfl).2⟩,
    ⟨⟨⟨rfl, rfl, rfl⟩, rfl, rfl, by decide, by decide, rfl⟩, idField_strays _ rfl rfl⟩, by decide +kernel,
    ⟨rfl, ⟨rfl, rfl, rfl⟩, rfl⟩, fun _ _ _ => ⟨⟨rfl, rfl, rfl⟩, rfl, rfl, rfl, rfl, rfl, rfl, rfl, rfl⟩,
    ⟨⟨rfl, rfl, rfl⟩, rfl, by decide +kernel⟩,
    ⟨(formatOpen_field _).1, (formatOpen_field _).2, fun items => formatOpen_serves items⟩,
    ⟨⟨rfl, rfl, rfl⟩, rfl, rfl, (by decide : 0 < 2), (by decide : 0 < 2)⟩⟩
  have := serving_has heldRead (formatting c) (freshOp 26) x g rfl
  exact ⟨rfl, rfl, this.1, this.2.1, rfl, rfl, rfl, rfl, rfl, rfl, rfl, rfl⟩

/-- The FILL of the track of block 37 in service, all but the pass's end done. -/
def filling : Request := { inService (.fill 0) with sectorId := none, slot := none, lines := [0], wanted := [22] }

/-- Its record: every sector good but the last, which is not recorded. -/
def fillOp : OpRecord :=
  { freshOp 26 with notes := List.replicate 25 .good ++ [.unrecorded], passStart := some 22 }

/-- A read of a mount in service, sector 1 wanted (for the test on the track of block 37). -/
def mountRead (k : ReqKind) : Request := { inService k with origin := .volume, sectorId := none, slot := none, wanted := [1] }

/-- That read in service, the mounting volume changed by `f`. -/
def loading (k : ReqKind) (o : OpRecord) (f : Volume → Volume) : State :=
  (serving heldRead (mountRead k) o .read none id).modVol 2 fun _ => f { mountedVol with state := .mounting }

/-- That FILL in service with a record, for one reader, its region in the state `x`. -/
def fillServing (x : RegionState) (o : OpRecord) : State :=
  (serving heldRead filling o .search none id).modRegion 2 fun g =>
    { g with state := x, frames := [.filling 5 0 [reader37]] }

/-- Its record after the pass, sector 22 failing, on a step of the ladder at a strobe. -/
def laddering (x : LadderStep) (strobe : Strobe) : OpRecord :=
  { freshOp 26 with
    notes := (List.replicate 26 .good).set 21 .bad, inPass := false, failing := [22], step := x, strobe := strobe,
    basePref := .normal }

theorem witness_AFillEndsWithItsFrameValid :
    let s := (serving heldRead filling fillOp .search none id).modRegion 2 fun g =>
      { g with frames := [.filling 5 0 [reader37]] }
    ((s.channel.granted = some 2 ∧ (s.drive 2).selected = some filling ∧ s.op 2 = some fillOp ∧ filling.kind = .fill 0
      ∧ s.channel.gate = none ∧ fillOp.awaiting = none ∧ fillOp.inPass = true ∧ fillOp.passStart = some 22
      ∧ fillOp.pulses < 2 ∧ fillOp.wrong < 2 ∧ fillOp.recovered = [] ∧ (s.drive 2).pos.cylinder = some 5)
    ∧ (idGood (idField 5#8 22#8) = true ∧ (idField 5#8 22#8).sizeCode.toNat = filling.profile.sizeCode
      ∧ (idField 5#8 22#8).sectorId.toNat = 22 ∧ 22 ≤ filling.profile.spt
      ∧ (∀ w ∈ filling.wanted, 1 ≤ w ∧ fillOp.notes[w - 1]? = some .good))
    ∧ ((s.region 2).state = .opened ∧ 0 < (s.region 2).frames.length ∧ (s.region 2).frame 0 = .filling 5 0 [reader37]
      ∧ reader37.sector ∈ filling.wanted ∧ s.buffer 0 0 = some heldRead))
    ∧ (∀ k o f, (loading k o f).Serving 2 (mountRead k) o ∧ ((loading k o f).drive 2).pos.cylinder = some 5
        ∧ (loading k o f).channel.gate = none ∧ (loading k o f).left 2 = [])
    ∧ (∀ k, (mountRead k).NamedBy (idField 5#8 22#8) 5 22 ∧ (mountRead k).wanted = [1] ∧ (mountRead k).kind = k)
    ∧ (fillOp.notes[0]? = some .good ∧ (freshOp 26).notes[0]? ≠ some .good)
    ∧ (∀ bytes, (((loading .labelRead fillOp fun v => { v with labelArea := [(1, bytes)] }).vol 2).labelArea = [(1, bytes)])
        ∧ areaGet [(1, bytes)] 1 = some bytes)
    ∧ (quantize (decodeLabel (encodeLabel label7 m256)) true).isSome = true
    ∧ quantize (decodeLabel (List.replicate 128 0#8)) true = none
    ∧ (let q := [mountRead .indexLoad, { mountRead .indexLoad with state := .queued, head := 1 }]
       ∃ x ∈ q.filter fun x => x.state == .queued, x.kind = .indexLoad)
    ∧ (∀ x o, (fillServing x o).Serving 2 filling o ∧ (fillServing x o).channel.gate = none
        ∧ (fillServing x o).channel.state ≠ .writeCheck ∧ ((fillServing x o).drive 2).pos.cylinder = some 5
        ∧ ((fillServing x o).region 2).state = x ∧ ((fillServing x o).region 2).frame 0 = .filling 5 0 [reader37]
        ∧ ((fillServing x o).region 2).frames.length = 1
        ∧ (fillServing x o).InProgress reader37.line reader37.buf heldRead ∧ (fillServing x o).memoryCanonical)
    ∧ (∀ p, let o := { freshOp 26 with passStart := p }
       o.inPass = true ∧ o.step = .initial ∧ o.awaiting = none ∧ o.pulses < 2 ∧ o.wrong < 2 ∧ o.failing = []
        ∧ o.writes = 0 ∧ (filling.wanted.filter fun w =>
            (o.notes.map fun n => if n = .unrecorded then SectorNote.absent else n)[w - 1]? != some .good) = [22])
    ∧ (filling.wanted.filter fun w =>
        ((laddering .one .normal).notes.set 21 .good)[w - 1]? != some .good) = []
    ∧ (∀ x y, let o := laddering x y
       o.inPass = false ∧ o.step = x ∧ o.strobe = y ∧ o.basePref = .normal ∧ 22 ∈ o.failing ∧ o.writes = 0
        ∧ o.pulses < 2 ∧ o.wrong < 2 ∧ o.awaiting = none ∧ o.failing.filter (· != 22) = [])
    ∧ (filling.NamedBy (idField 5#8 22#8) 5 22 ∧ filling.GoodData dataField
        ∧ filling.BadData { dataField with whole := false } ∧ IdAccepted (idField 6#8 22#8)
        ∧ filling.FitsId (idField 6#8 22#8) ∧ (idField 6#8 22#8).cylinder.toNat ≠ 5)
    ∧ ((∀ k f, (loading k retriedEarly f).Awaiting 2 (mountRead k) retriedEarly 22 ∧ (mountRead k).GoodData dataField)
        ∧ (∀ x, (fillServing x { retriedEarly with failing := [22, 23] }).Awaiting 2 filling
            { retriedEarly with failing := [22, 23] } 22)
        ∧ retriedEarly.step = .two ∧ retriedEarly.inPass = false ∧ [22, 23].filter (· != 22) ≠ [])
    ∧ (let o := { freshOp 26 with pulses := 2, awaiting := some 22, passStart := some 21 }
       let notes := (List.replicate 26 SectorNote.unrecorded).set 21 .bad
       o.notes[21]? ≠ some .good ∧ { o with awaiting := none, notes := o.notes.set 21 .bad } = { o with awaiting := none, notes := notes }
        ∧ (filling.wanted.filter fun w =>
            (notes.map fun n => if n = .unrecorded then SectorNote.absent else n)[w - 1]? != some .good) ≠ [])
    ∧ (∀ x, ({ laddering .three x with pulses := 2, awaiting := some 22 } : OpRecord).pulses = 2)
    ∧ (let o := { freshOp 26 with wrong := 1, step := .three, inPass := false, failing := [1] }
       ∀ k f, (loading k o f).Seeking 2 (mountRead k) o 5 ∧ (mountRead k).FitsId (idField 6#8 22#8)
        ∧ (loading k o f).channel.state ≠ .writeCheck)
    ∧ (∀ p x y, let o := { freshOp 26 with awaiting := some 21, passStart := y, inPass := p, failing := [21, 22] }
        (fillServing x o).Awaiting 2 filling o 21 ∧ ((fillServing x o).drive 2).pos.cylinder = some 5
        ∧ o.passStart = y ∧ o.inPass = p)
    ∧ (let o := { fillOp with awaiting := some 26 }
       (∀ x, (fillServing x o).Awaiting 2 filling o 26)
        ∧ (filling.wanted.filter fun w => (o.notes.set 25 .bad)[w - 1]? != some .good) = []) := by
  refine ⟨⟨by decide +kernel, ⟨idField_good _ _, by decide +kernel⟩, by decide +kernel⟩,
    fun _ _ _ => ⟨⟨rfl, rfl, rfl⟩, rfl, rfl, rfl⟩, fun _ => ⟨idField_names _ rfl rfl, rfl, rfl⟩, by decide +kernel,
    fun _ => ⟨rfl, rfl⟩, by decide +kernel, by decide +kernel, by decide +kernel,
    fun _ _ => ⟨⟨rfl, rfl, rfl⟩, rfl, ChanState.noConfusion, rfl, rfl, rfl, rfl, ⟨rfl, rfl, rfl⟩, rfl⟩,
    fun _ => ⟨rfl, rfl, rfl, (by decide : 0 < 2), (by decide : 0 < 2), rfl, rfl, rfl⟩, by decide,
    fun _ _ => ⟨rfl, rfl, rfl, rfl, .head _, rfl, (by decide : 0 < 2), (by decide : 0 < 2), rfl, rfl⟩,
    ⟨idField_names _ rfl rfl, (dataField_reads _ rfl).1, (dataField_reads _ rfl).2, (idField_strays filling rfl rfl).1,
      (idField_strays filling rfl rfl).2.1, by decide⟩,
    ⟨fun _ _ => ⟨⟨⟨rfl, rfl, rfl⟩, rfl, rfl, (by decide : 0 < 2), (by decide : 0 < 2)⟩, (dataField_reads _ rfl).1⟩,
      fun _ => ⟨⟨rfl, rfl, rfl⟩, rfl, rfl, (by decide : 0 < 2), (by decide : 0 < 2)⟩, rfl, rfl, by decide⟩,
    by decide +kernel, fun _ => rfl,
    fun _ _ => ⟨⟨⟨rfl, rfl, rfl⟩, rfl, rfl, (by decide : 0 < 2), (by decide : 1 < 2), rfl⟩,
      (idField_strays (mountRead _) rfl rfl).2.1, ChanState.noConfusion⟩,
    fun _ _ _ => ⟨⟨⟨rfl, rfl, rfl⟩, rfl, rfl, (by decide : 0 < 2), (by decide : 0 < 2)⟩, rfl, rfl, rfl⟩,
    fun _ => ⟨⟨rfl, rfl, rfl⟩, rfl, rfl, (by decide : 0 < 2), (by decide : 0 < 2)⟩, by decide⟩

/-- A volume request that waits in its queue. -/
def volumeWaiting (k : ReqKind) : Request := { Request.fresh .volume k 5 0 (some 22) (some 9) m256.read with state := .queued }

/-- Such a request waits at drive 2, the volume changed by `f`. -/
def heldBack (k : ReqKind) (f : Volume → Volume) : State :=
  running 0 heldRead { readyDrive 0 with queue := [volumeWaiting k] } (f mountedVol) []

/-- The usual state with the guard's figures changed. -/
def supplied (f : Channel → Channel) : State := writeWaiting.modChannel f

/-- The drive sequencer `u` of drive 2 during the long inhibit. -/
def comingToWait (u : DriveSeq) : State :=
  (running 0 heldWrite u mountedVol []).modChannel fun c => { c with inhibit := true, longInhibit := true }

/-- The one request of a queue is chosen, eligible and not at the bypass limit. -/
theorem chosen_alone {s : State} {d : DriveId} {us c : Nat} {r : Request} (hq : (s.drive d).queue = [r])
    (hs : r.state = .queued) (hp : r.passed ≠ s.cfg.bypass) (he : r.eligible s.cfg (s.drive d).patternStep = true) :
    s.Chosen d us c 0 r := by
  have alone {i : Nat} {x : Request} (h : (s.drive d).queue[i]? = some x) : x = r := by
    rw [hq] at h
    cases i with
    | zero => exact (Option.some.inj h).symm
    | succ i => cases h
  refine .inr (.inl ⟨fun i x h => hp (alone h.1.1 ▸ h.2), ⟨⟨by rw [hq]; rfl, hs, fun j _ h => absurd h (Nat.not_lt_zero j)⟩,
    he⟩, fun i x h => ?_⟩)
  rw [alone h.1.1]
  exact ⟨Nat.le_refl _, fun _ => Nat.zero_le _⟩

theorem witness_TheSupplyGuardsWrites :
    (∀ f, (supplied f).part.extReset = false ∧ (supplied f).channel = f writeWaiting.channel)
    ∧ (writeWaiting.channel.inhibit = false ∧ writeWaiting.channel.supply = .restored)
    ∧ (writeOf .queued ∈ (writeWaiting.drive 2).queue ∧ (writeOf .queued).origin = .desk 5
        ∧ (writeOf .queued).kind = .write 0 none ∧ writeWaiting.buffer 5 0 = some (held codeWriteBlock [])
        ∧ (writeOf .queued).kind.isWrite = true ∧ labelRequest.kind.isWrite = false)
    ∧ (writeWaiting.HeldBack 2 (writeOf .queued) ∧ writeWaiting.InProgress 5 0 (held codeWriteBlock [])
        ∧ (held codeWriteBlock []).reply = none)
    ∧ ((asking true).HeldBack 2 (writeOf .selected) ∧ (writeOf .selected).state ≠ .queued)
    ∧ (let s := heldBack (.indexWrite 6) (waiting .queued)
       s.HeldBack 2 (volumeWaiting (.indexWrite 6)) ∧ 6 < (s.vol 2).sectors.length
        ∧ (∀ x ∈ (s.drive 2).queue, x.kind ≠ .formatTrack ∧ ∀ st, x.kind ≠ .prepWrite st)
        ∧ changed50 ∈ (s.vol 2).waiters ∧ changed50.sector = 6
        ∧ (∀ x y, x ∈ (s.drive 2).queue → x.origin = .desk changed50.line → x.kind ≠ .write changed50.buf y)
        ∧ ∀ r, (s.drive 2).selected = some r → ¬ s.HeldBack 2 r)
    ∧ (∀ k, k = .formatTrack ∨ k = .prepWrite .label →
        let s := heldBack k fun v => { v with state := .preparing, pendingReq := some (.prepare 0 0 false) }
        s.HeldBack 2 (volumeWaiting k) ∧ (s.vol 2).pendingReq = some (.prepare 0 0 false) ∧ s.InProgress 0 0 heldRead)
    ∧ (∀ r ∈ formatting 5 :: sectorWrites, (r.WritesSector ∨ r.kind = .formatTrack)
        ∧ (∀ st settle load, let s := comingToWait (movingDrive st 0 0 none settle load [r])
            s.channel.longInhibit = true ∧ (s.drive 2).selected = some r ∧ (s.drive 2).pos.state = st
            ∧ (s.drive 2).pos.settleTimer = settle ∧ (s.drive 2).pos.loadTimer = load ∧ (s.drive 2).pos.stepTimer = none)
        ∧ (let q : Request := { r with state := .queued }
           let s := comingToWait { loadedDrive 5 with queue := [q] }
           (q.WritesSector ∨ q.kind = .formatTrack) ∧ (s.drive 2).maySelect = true ∧ (s.drive 2).pos.state = .onTrack
            ∧ (s.drive 2).pos.cylinder = some q.cylinder ∧ s.Chosen 2 0 q.cylinder 0 q))
    ∧ (∀ r ∈ sectorWrites, ∀ x o, o.pulses < 2 → o.wrong < 2 →
        let s := writing r o x none true true false
        s.channel.longInhibit = true ∧ s.channel.inhibit = true ∧ (s.drive 2).levels.writeProtect = false
        ∧ s.part.drainOver = false ∧ s.channel.state = x ∧ r.sectorId = some 22 ∧ r.NamedBy (idField 5#8 22#8) 5 22
        ∧ (o.awaiting = none → s.Seeking 2 r o 5))
    ∧ (∀ r ∈ sectorWrites,
        let s (o : OpRecord) : State := writing r o .writeCheck none true true false
        (let o := { freshOp 26 with awaiting := some 22, writes := 1 }
         (s o).CheckFails 2 r o (.dataFieldRead { dataField with whole := false }) ∧ (s o).CheckFails 2 r o .dataWindowExpired)
        ∧ (let o := { freshOp 26 with pulses := 2, writes := 1 }
           (s o).CheckFails 2 r o .attemptEnd)
        ∧ (let o := { freshOp 26 with wrong := 1, writes := 1 }
           (s o).CheckFails 2 r o (.idFieldAccepted (idField 6#8 22#8))))
    ∧ (formatOpen []).channel.gate ≠ none
    ∧ (∀ x, let s := formatDue x true true false
        s.Serving 2 (formatting 5) { freshOp 26 with checkBad := true, writes := 1 } ∧ s.channel.longInhibit = true
        ∧ s.channel.gate = none ∧ s.channel.inhibit = true ∧ s.channel.state = x)
    ∧ (∀ f d r o, (f writeWaiting.channel).granted = none → ¬ (supplied f).Serving d r o) := by
  refine ⟨fun _ => ⟨rfl, rfl⟩, by decide +kernel, by decide +kernel,
    ⟨⟨.head _, rfl, .inl rfl⟩, ⟨rfl, rfl, rfl⟩, rfl⟩, ⟨⟨.head _, rfl, .inr ⟨rfl, rfl⟩⟩, by decide⟩,
    ⟨⟨.head _, rfl, .inl rfl⟩, by decide, fun x h => ?_, .head _, rfl, fun x y h => ?_, fun _ h => by cases h⟩,
    fun k h => ⟨⟨.head _, ?_, .inl rfl⟩, rfl, ⟨rfl, rfl, rfl⟩⟩,
    fun r h => ⟨?_, fun st settle load => ⟨rfl, ?_, rfl, rfl, rfl, rfl⟩, ?_⟩,
    fun r h x o hp hw => ⟨rfl, rfl, rfl, rfl, rfl, (sectorWrites_share r h).2.2.1,
      idField_names r (sectorWrites_share r h).2.2.2.1 (sectorWrites_share r h).2.2.2.2.1,
      fun ha => writing_seeks r h o x true true false ha hp hw⟩,
    fun r h => ?_, Option.some_ne_none _, fun _ => ⟨⟨rfl, rfl, rfl⟩, rfl, rfl, rfl, rfl⟩, fun f d r o e h => ?_⟩
  · cases List.mem_singleton.mp h
    exact ⟨by decide, fun _ => ReqKind.noConfusion⟩
  · cases List.mem_singleton.mp h
    exact fun h => by cases h
  · rcases h with rfl | rfl <;> rfl
  · exact (List.mem_cons.mp h).elim (fun e => .inr (e ▸ rfl)) fun h => .inl (sectorWrites_share r h).2.1
  · show List.find? (fun r : Request => r.state != .queued) [r] = some r
    have : r.state = .inService := (List.mem_cons.mp h).elim (fun e => e ▸ rfl) fun h => (sectorWrites_share r h).1
    simp [this]
  · simp only [sectorWrites, List.mem_cons, List.not_mem_nil, or_false] at h
    rcases h with rfl | rfl | rfl | rfl | rfl | rfl
    · exact ⟨.inr rfl, rfl, rfl, rfl, chosen_alone rfl rfl (by decide) rfl⟩
    · exact ⟨.inl (.inl ⟨_, _, _, rfl, rfl⟩), rfl, rfl, rfl, chosen_alone rfl rfl (by decide) rfl⟩
    · exact ⟨.inl (.inl ⟨_, _, _, rfl, rfl⟩), rfl, rfl, rfl, chosen_alone rfl rfl (by decide) rfl⟩
    · exact ⟨.inl (.inr ⟨rfl, .inl ⟨_, rfl⟩⟩), rfl, rfl, rfl, chosen_alone rfl rfl (by decide) rfl⟩
    · exact ⟨.inl (.inr ⟨rfl, .inr ⟨_, rfl⟩⟩), rfl, rfl, rfl, chosen_alone rfl rfl (by decide) rfl⟩
    · exact ⟨.inl (.inr ⟨rfl, .inr ⟨_, rfl⟩⟩), rfl, rfl, rfl, chosen_alone rfl rfl (by decide) rfl⟩
  · obtain ⟨hs, _, _, p, d, _⟩ := sectorWrites_share r h
    have bad := (dataField_reads r p).2
    obtain ⟨acc, fits, far⟩ := idField_strays r p d
    have aw := writing_awaits r h { freshOp 26 with awaiting := some 22, writes := 1 } .writeCheck true true false rfl
      (by decide : 0 < 2) (by decide : 0 < 2)
    exact ⟨⟨.inl ⟨22, aw, rfl, .inl ⟨_, rfl, bad⟩⟩, .inl ⟨22, aw, rfl, .inr rfl⟩⟩,
      .inr ⟨.inl rfl, .inl ⟨(writing_has r _ .writeCheck none true true false hs).1, rfl, rfl, rfl⟩⟩,
      .inr ⟨.inl rfl, .inr ⟨5, _, writing_seeks r h _ .writeCheck true true false rfl (by decide : 0 < 2)
        (by decide : 1 < 2), rfl, acc, fits, far, rfl⟩⟩⟩
  · exact Option.some_ne_none d (h.granted.symm.trans e)

/-! ### Promises -/

/-- A format granted, the index pulse its gate opens at waiting. -/
def opening : State :=
  { serving heldRead (formatting 5) (freshOp 26) .search none id with pending := [.indexPulse 2 166667] }

theorem witness_NoGateOpensUnderInhibit :
    ∃ t, step opening = .next t ∧ opening.channel.gate = none ∧ t.channel.gate ≠ none :=
  ⟨after (.indexPulse 2 166667) { opening with pending := [] }, rfl, rfl, by decide +kernel⟩

/-- The usual state with the clock's second waiting. -/
def ticking : State := { base with pending := [.clockSecond] }

theorem witness_BoundsAreKeptByEveryStep :
    (∃ t, step ticking = .next t) ∧ ticking.stepsBelowPeriod ∧ ticking.claimsBounded ∧ ticking.queuesBounded
    ∧ ticking.memoryCanonical
    ∧ ((∃ t, step { faultedTwice with pending := [.clockSecond] } = .next t)
        ∧ ({ faultedTwice with pending := [.clockSecond] } : State).faultedQueues ∧ (faultedTwice.drive 2).queue ≠ []) :=
  ⟨⟨_, rfl⟩, (by decide +kernel : ∀ d, (base.drive d).patternStep < base.cfg.period),
   (by decide +kernel : base.cw.claims.length ≤ 32 ∧ ∀ l, (base.cw.ofLine l).length ≤ 6),
   (by decide +kernel : ∀ d, (base.drive d).deskPlaces ≤ 12 ∧ (base.drive d).volumePlaces ≤ 2), rfl,
   ⟨⟨_, rfl⟩, faultedTwice_queues, by decide +kernel⟩⟩

theorem witness_PositionersStayLegal : (∃ t, step ticking = .next t) ∧ ticking.positionersLegal :=
  ⟨⟨_, rfl⟩, (by decide +kernel : ∀ d,
    ((base.drive d).pos.headLoaded = true ↔ (base.drive d).pos.state = .moving ∨ (base.drive d).pos.state = .settling
      ∨ (base.drive d).pos.state = .onTrack)
    ∧ ((base.drive d).pos.cylinder = none ↔ (base.drive d).pos.state = .unknown ∨ (base.drive d).pos.state = .recalibrating)
    ∧ ((base.drive d).pos.target.isSome = true ↔ (base.drive d).pos.state = .moving
      ∨ (base.drive d).pos.state = .settling))⟩

theorem witness_ReplyOrdersStayOrderly : (∃ t, step ticking = .next t) ∧ ticking.linesOrderly :=
  ⟨⟨_, rfl⟩, fun l => base_orderly l⟩

theorem witness_AbsentLinesStayQuiet : (∃ t, step ticking = .next t) ∧ ticking.absentLinesQuiet :=
  ⟨⟨_, rfl⟩, fun l h => ⟨(base_quiet l h).receive, (base_quiet l h).buffers, (base_quiet l h).replies,
    (base_quiet l h).claims, (base_quiet l h).watches, (base_quiet l h).flag⟩⟩

theorem witness_RecordsReadBackAsWritten :
    (story50.decoded = true ∧ story50.slug.length ≤ 12 ∧ (∀ c ∈ story50.slug, c ≠ 0#8) ∧ story50.basket < 16
      ∧ story50.priority < 4 ∧ story50.length < 2 ^ 21 ∧ story50.day < 2 ^ 9 ∧ story50.minute < 2 ^ 11
      ∧ story50.version < 256 ∧ story50.author < 8 ∧ story50.extents.length ≤ 4
      ∧ ∀ x ∈ story50.extents, x.first < 4096 ∧ x.count < 4096)
    ∧ (label7.name.length = 8 ∧ label7.serial < 65536 ∧ label7.day < 65536 ∧ label7.minute < 65536 ∧ m256.spt < 256
      ∧ m256.granule < 256)
    ∧ checkGood [1#8] (checkOf [1#8]) = true ∧ (List.replicate 1098 0#8).length ≤ 1098 := by decide +kernel

theorem witness_QuantizedLabelsNeedNoNotes :
    (quantize { info := label7, recording := 2, sizeCode := 1, spt := 28, sides := 2, interleave := 4, skew := 31,
                indexSectors := 12, granule := 4 } false).isSome = true := by decide

theorem witness_MountedIndexPartitionsTheGranules :
    (mountedVol.mountEnd m256).hasReason = false
    ∧ (({ mountedVol with wpAtDecode := true } : Volume).mountEnd m256).hasReason = true := by decide +kernel

end Sys2Proof.Tests
end

section
/-! SUPPORT and settlement of Chapter 8's statements on events (R161, R164) and on the attention output (R167): what a
watch and a line's watches are after an event, and when a watch or a line asserts attention. -/
namespace Sys2Proof.Machine

/-! ### A watch meets an event (R164) -/

/-- R164 items 2 to 4: the drive is ANY or the event's, the target holds the event's basket or names its handle, and the
event set holds its kind. -/
theorem WatchSpec.hits_iff (w : WatchSpec) (e : Event) :
    w.hits e = true ↔ (w.drive = none ∨ w.drive = some e.drive)
      ∧ (∀ set, w.target = .baskets set → set.getLsbD e.basket = true) ∧ (∀ x, w.target = .story x → x = e.handle)
      ∧ w.events.getLsbD e.kind.code = true := by
  obtain ⟨drive, target, events, signal⟩ := w
  cases drive <;> cases target <;> simp [WatchSpec.hits, and_assoc]

@[simp] theorem Watch.meet_unused (e : Event) : Watch.unused.meet e = .unused := rfl

/-- A watch in use, ARMED or RAISED before, whose fields fit becomes RAISED with the event as its last. -/
theorem Watch.meet_of_hits {w : WatchSpec} {e : Event} {b : Watch} (hit : w.hits e = true)
    (inUse : b = .armed w ∨ ∃ x, b = .raised w x) : b.meet e = .raised w e.last := by
  obtain rfl | ⟨x, rfl⟩ := inUse <;> exact if_pos hit

/-- A watch in use whose fields do not fit keeps its state and its last event. -/
theorem Watch.meet_of_not_hits {w : WatchSpec} {e : Event} {b : Watch} (miss : ¬ w.hits e = true)
    (inUse : b = .armed w ∨ ∃ x, b = .raised w x) : b.meet e = b := by
  obtain rfl | ⟨x, rfl⟩ := inUse <;> exact if_neg miss

/-! ### The watches of every line after an event (R161) -/

/-- The causing line's watches do not meet its own event. -/
theorem ClaimUnit.raise_watches_cause (c : ClaimUnit) (e : Event) :
    (c.raise e).watches.get e.cause = c.watches.get e.cause := by
  simp [ClaimUnit.raise]

theorem ClaimUnit.raise_watch_of_ne (c : ClaimUnit) {e : Event} {l : Line} (other : l ≠ e.cause) (n : Fin 4) :
    ((c.raise e).watches.get l).get n = ((c.watches.get l).get n).meet e := by
  simp [ClaimUnit.raise, other]

/-- An UNUSED watch stays UNUSED, on the causing line too. -/
theorem ClaimUnit.raise_watch_unused {c : ClaimUnit} {l : Line} {n : Fin 4} (e : Event)
    (unused : (c.watches.get l).get n = .unused) : ((c.raise e).watches.get l).get n = .unused := by
  by_cases other : l = e.cause
  · rw [other, c.raise_watches_cause e, ← other, unused]
  · rw [c.raise_watch_of_ne other, unused, Watch.meet_unused]

/-- A watch in use that the event does not fit is as before, on the causing line too. -/
theorem ClaimUnit.raise_watch_of_not_hits {c : ClaimUnit} {l : Line} {n : Fin 4} {e : Event} {w : WatchSpec}
    (miss : ¬ w.hits e = true)
    (inUse : (c.watches.get l).get n = .armed w ∨ ∃ x, (c.watches.get l).get n = .raised w x) :
    ((c.raise e).watches.get l).get n = (c.watches.get l).get n := by
  by_cases other : l = e.cause
  · rw [other, c.raise_watches_cause e]
  · rw [c.raise_watch_of_ne other, Watch.meet_of_not_hits miss inUse]

/-- Settles O28: each clause is what `raise` makes of one watch, `hits` read as R164 states it. -/
theorem eventsRaiseTheWatchesTheyMatch : Obligations.EventsRaiseTheWatchesTheyMatch := by
  intro c e l n
  refine ⟨?cause, ?unused, ?fits, ?misses, rfl, rfl, rfl⟩
  case cause =>
    rintro rfl
    exact congrArg (·.get n) (c.raise_watches_cause e)
  case unused => exact c.raise_watch_unused e
  case fits =>
    intro w other fits inUse
    rw [c.raise_watch_of_ne other]
    exact Watch.meet_of_hits ((w.hits_iff e).mpr fits) inUse
  case misses =>
    intro w miss inUse
    exact c.raise_watch_of_not_hits (mt (w.hits_iff e).mp miss) inUse

/-! ### The attention output (R167) -/

theorem Watch.signals_iff (w : Watch) : w.signals = true ↔ ∃ x last, w = .raised x last ∧ x.signal = true := by
  cases w <;> simp [Watch.signals]

/-- A check of the elements of a vector, taken place by place. -/
theorem vector_any_iff {α : Type} {n : Nat} (v : Vector α n) (p : α → Bool) :
    v.toList.any p = true ↔ ∃ i, p (v.get i) = true := by
  rw [Vector.any_toList, Vector.any_eq_true]
  exact ⟨fun ⟨i, lt, h⟩ => ⟨⟨i, lt⟩, h⟩, fun ⟨i, h⟩ => ⟨i, i.isLt, h⟩⟩

theorem State.attention_iff (s : State) (l : Line) :
    s.attention l = true ↔
      (∃ n w last, (s.cw.watches.get l).get n = .raised w last ∧ w.signal = true) ∨ s.cw.broken.get l ≠ none := by
  simp only [State.attention, Bool.or_eq_true, vector_any_iff, Watch.signals_iff, Option.isSome_iff_ne_none]

/-- A line whose watches are all UNUSED and whose claim-broken flag is clear has nothing to assert. -/
theorem State.attention_of_nothing {s : State} {l : Line} (unused : ∀ n, (s.cw.watches.get l).get n = .unused)
    (clear : s.cw.broken.get l = none) : s.attention l = false := by
  rw [Bool.eq_false_iff, Ne, s.attention_iff l]
  rintro (⟨n, w, last, raised, -⟩ | flag)
  · exact nomatch (unused n).symm.trans raised
  · exact flag clear

/-- ABSENT is the port state of a line without its desk, and of no other (R170). -/
theorem LineUnit.portState_absent_iff (u : LineUnit) : u.portState = .absent ↔ u.present = false := by
  unfold LineUnit.portState
  split
  · next present => split <;> simp [present]
  · next absent => simpa using absent

/-- Settles O29: the first half is `State.attention_iff`; a line in ABSENT is without its desk, of which nothing is left. -/
theorem attentionFollowsWatchesAndFlag : Obligations.AttentionFollowsWatchesAndFlag := by
  intro s l
  refine ⟨s.attention_iff l, fun quiet absent => ?_⟩
  have gone : s.DeskGone l := quiet l (.inl ((s.line l).portState_absent_iff.mp absent))
  exact ⟨gone.watches, gone.flag, State.attention_of_nothing gone.watches gone.flag⟩

end Sys2Proof.Machine
end

section
/-! SUPPORT. The reply order of a line unit (R175 to R177): what each operation of the line unit keeps of it, the
transmitter's taking of the next reply being looked at once. -/
namespace Sys2Proof.Machine

/-- The reply order lists what it must, `x` being the place whose reply is SENDING: `LineUnit.Orderly` without what it says
of the transmitter. -/
structure LineUnit.Listing (u : LineUnit) (x : Option ReplySlot) : Prop where
  once    : u.order.Nodup
  buffers : ∀ b : BufId, ReplySlot.buf b ∈ u.order ↔ ∃ h, u.bufs.get b = some h ∧ h.stage ≠ .inProgress
  replies : ∀ b h, u.bufs.get b = some h → (h.stage ≠ .inProgress ↔ h.reply.isSome = true)
  place   : ReplySlot.pendingPlace ∈ u.order ↔ u.pendingReply.isSome = true
  stands  : ∀ y, x = some y → y ∈ u.order
  sending : ∀ b h, u.bufs.get b = some h → (h.stage = .sending ↔ x = some (.buf b))

theorem LineUnit.Orderly.listing {u : LineUnit} (h : u.Orderly) : u.Listing u.order.head? :=
  ⟨h.once, h.buffers, h.replies, h.place, fun _ e => List.mem_of_head? e, h.sending⟩

theorem LineUnit.Listing.orderly {u : LineUnit} (h : u.Listing u.order.head?) (idle : u.tx = none ↔ u.order = []) :
    u.Orderly := ⟨h.once, h.buffers, h.replies, h.place, idle, h.sending⟩

/-- The parts of a line unit that its reply order speaks of are alone in it. -/
theorem LineUnit.Listing.of_eq {u v : LineUnit} {x : Option ReplySlot} (h : u.Listing x) (order : v.order = u.order)
    (bufs : v.bufs = u.bufs) (pend : v.pendingReply = u.pendingReply) : v.Listing x := by
  refine ⟨?_, ?_, ?_, ?_, ?_, ?_⟩
  · rw [order]; exact h.once
  · rw [order, bufs]; exact h.buffers
  · rw [bufs]; exact h.replies
  · rw [order, pend]; exact h.place
  · rw [order]; exact h.stands
  · rw [bufs]; exact h.sending

theorem LineUnit.Orderly.of_eq {u v : LineUnit} (h : u.Orderly) (order : v.order = u.order) (bufs : v.bufs = u.bufs)
    (pend : v.pendingReply = u.pendingReply) (tx : v.tx = u.tx) : v.Orderly := by
  have l := h.listing.of_eq order bufs pend
  rw [← order] at l
  exact l.orderly (by rw [tx, order]; exact h.idle)

/-! ### The transmitter -/

/-- A transmitter with a reply on the line takes no other (R177). -/
theorem LineUnit.pump_busy {u : LineUnit} (h : u.tx ≠ none) : u.pump = u := by
  obtain ⟨y, hy⟩ := Option.ne_none_iff_exists'.1 h
  simp [LineUnit.pump, hy]

theorem LineUnit.pump_empty {u : LineUnit} (h : u.order = []) : u.pump = u := by
  unfold LineUnit.pump
  split <;> simp_all

/-- The idle transmitter begins the oldest reply when it is a buffer's (R177). -/
theorem LineUnit.pump_buf {u : LineUnit} {b : BufId} {rest : List ReplySlot} {h : Held} {r : Reply} (ht : u.tx = none)
    (ho : u.order = .buf b :: rest) (hb : u.bufs.get b = some h) (hr : h.reply = some r) :
    u.pump = { u.setBuf b (some { h with stage := .sending }) with tx := some (replyFrame h.tag h.code r) } := by
  simp [LineUnit.pump, ht, ho, hb, hr]

theorem LineUnit.pump_place {u : LineUnit} {rest : List ReplySlot} {p : PendingReply} (ht : u.tx = none)
    (ho : u.order = .pendingPlace :: rest) (hp : u.pendingReply = some p) :
    u.pump = { u with tx := some (replyFrame p.tag p.code p.reply) } := by
  simp [LineUnit.pump, ht, ho, hp]

@[simp] theorem LineUnit.pump_order (u : LineUnit) : u.pump.order = u.order := by
  unfold LineUnit.pump; (repeat' split) <;> simp_all
@[simp] theorem LineUnit.pump_rx (u : LineUnit) : u.pump.rx = u.rx := by
  unfold LineUnit.pump; (repeat' split) <;> simp_all
@[simp] theorem LineUnit.pump_pendingReply (u : LineUnit) : u.pump.pendingReply = u.pendingReply := by
  unfold LineUnit.pump; (repeat' split) <;> simp_all
@[simp] theorem LineUnit.pump_present (u : LineUnit) : u.pump.present = u.present := by
  unfold LineUnit.pump; (repeat' split) <;> rfl

/-- With no reply on the line the idle transmitter's taking of the oldest one completes the order. -/
theorem LineUnit.Listing.pump_idle {u : LineUnit} (h : u.Listing none) (ht : u.tx = none) : u.pump.Orderly := by
  have quiet : ∀ b k, u.bufs.get b = some k → k.stage ≠ .sending := fun b k e => by simpa using (h.sending b k e).not
  match ho : u.order with
  | [] =>
    rw [LineUnit.pump_empty ho]
    exact ((by simpa [ho] using h) : u.Listing u.order.head?).orderly (by simp [ht, ho])
  | .buf b :: rest =>
    obtain ⟨k, hk, hst⟩ := (h.buffers b).1 (by simp [ho])
    obtain ⟨r, hr⟩ := Option.isSome_iff_exists.1 ((h.replies b k hk).1 hst)
    rw [LineUnit.pump_buf ht ho hk hr]
    have get (c : BufId) : (u.setBuf b (some { k with stage := .sending })).bufs.get c
        = if b = c then some { k with stage := .sending } else u.bufs.get c := LineUnit.setBuf_get _ _ _ _
    refine ⟨h.once, fun c => ?_, fun c x hx => ?_, h.place, by simp [ho], fun c x hx => ?_⟩
    · show _ ∈ u.order ↔ ∃ x, (u.setBuf b _).bufs.get c = some x ∧ _
      rw [get, h.buffers c]
      by_cases e : b = c
      · subst e; simp [hk, hst]
      · simp [e]
    · change (u.setBuf b _).bufs.get c = some x at hx
      rw [get] at hx
      by_cases e : b = c
      · subst e; cases (by simpa using hx); simp [hr]
      · exact h.replies c x (by simpa [e] using hx)
    · change (u.setBuf b _).bufs.get c = some x at hx
      rw [get] at hx
      by_cases e : b = c
      · subst e; cases (by simpa using hx); simp [ho]
      · have := quiet c x (by simpa [e] using hx)
        simp [ho, e, this]
  | .pendingPlace :: rest =>
    obtain ⟨p, hp⟩ := Option.isSome_iff_exists.1 (h.place.1 (by simp [ho]))
    rw [LineUnit.pump_place ht ho hp]
    exact ⟨h.once, h.buffers, h.replies, h.place, by simp [ho], fun b k e => by simp [ho, quiet b k e]⟩

/-- The transmitter's taking of the next reply leaves a line unit orderly whose order lists what it must, `x` being the
reply on the line. -/
theorem LineUnit.Listing.pump {u : LineUnit} {x : Option ReplySlot} (h : u.Listing x)
    (hx : (u.tx = none ∧ x = none) ∨ (u.tx ≠ none ∧ u.order ≠ [] ∧ x = u.order.head?)) : u.pump.Orderly := by
  rcases hx with ⟨ht, rfl⟩ | ⟨ht, ho, rfl⟩
  · exact h.pump_idle ht
  · rw [LineUnit.pump_busy ht]
    exact h.orderly (by simp [ht, ho])

/-! ### A reply joins the order -/

theorem LineUnit.Listing.notMem {u : LineUnit} {x : Option ReplySlot} (h : u.Listing x) {b : BufId}
    (hb : ∀ k, u.bufs.get b = some k → k.stage = .inProgress) : ReplySlot.buf b ∉ u.order := by
  rw [h.buffers b]
  rintro ⟨k, hk, hst⟩
  exact hst (hb k hk)

/-- A buffer that is FREE or whose request is in progress takes a request in progress. -/
theorem LineUnit.Listing.take {u : LineUnit} {x : Option ReplySlot} (h : u.Listing x) {b : BufId} {k : Option Held}
    (hb : ∀ k, u.bufs.get b = some k → k.stage = .inProgress)
    (hk : ∀ y, k = some y → y.stage = .inProgress ∧ y.reply = none) : (u.setBuf b k).Listing x := by
  have no := h.notMem hb
  refine ⟨h.once, fun c => ?_, fun c y hy => ?_, h.place, h.stands, fun c y hy => ?_⟩
  · rw [LineUnit.setBuf_get, LineUnit.setBuf_order]
    by_cases e : b = c
    · subst e
      simp only [if_true, no, false_iff, not_exists, not_and]
      exact fun y hy => by simp [(hk y hy).1]
    · simpa [e] using h.buffers c
  · rw [LineUnit.setBuf_get] at hy
    by_cases e : b = c
    · subst e
      simp only [if_true] at hy
      simp [hk y hy]
    · exact h.replies c y (by simpa [e] using hy)
  · rw [LineUnit.setBuf_get] at hy
    by_cases e : b = c
    · subst e
      simp only [if_true] at hy
      have : x ≠ some (.buf b) := fun e => no (h.stands _ e)
      simp [hk y hy, this]
    · exact h.sending c y (by simpa [e] using hy)

/-- A completed request's reply joins the order (R176). -/
theorem LineUnit.Listing.join {u : LineUnit} {x : Option ReplySlot} (h : u.Listing x) {b : BufId} (k : Held) (r : Reply)
    (hb : ∀ k, u.bufs.get b = some k → k.stage = .inProgress) :
    ({ u.setBuf b (some { k with stage := .complete, reply := some r }) with order := u.order ++ [ReplySlot.buf b] } :
      LineUnit).Listing x := by
  have no := h.notMem hb
  refine ⟨?_, fun c => ?_, fun c y hy => ?_, ?_, ?_, fun c y hy => ?_⟩
  · exact List.nodup_append.2 ⟨h.once, by simp, by rintro a ha b' hb' rfl; simp at hb'; exact no (hb' ▸ ha)⟩
  · show _ ∈ u.order ++ _ ↔ ∃ y, (u.setBuf b _).bufs.get c = some y ∧ _
    rw [LineUnit.setBuf_get]
    by_cases e : b = c
    · subst e; simp
    · simpa [e, Ne.symm e] using h.buffers c
  · change (u.setBuf b _).bufs.get c = some y at hy
    rw [LineUnit.setBuf_get] at hy
    by_cases e : b = c
    · subst e; cases (by simpa using hy); simp
    · exact h.replies c y (by simpa [e] using hy)
  · simpa using h.place
  · exact fun y e => List.mem_append_left _ (h.stands y e)
  · change (u.setBuf b _).bufs.get c = some y at hy
    rw [LineUnit.setBuf_get] at hy
    by_cases e : b = c
    · subst e
      cases (by simpa using hy)
      have : x ≠ some (.buf b) := fun e => no (h.stands _ e)
      simp [this]
    · exact h.sending c y (by simpa [e] using hy)

/-- A reply without a buffer takes the free pending place and joins the order (R177). -/
theorem LineUnit.Listing.joinPlace {u : LineUnit} {x : Option ReplySlot} (h : u.Listing x) (p : PendingReply)
    (hp : u.pendingReply = none) :
    ({ u with pendingReply := some p, order := u.order ++ [ReplySlot.pendingPlace], rx := .hunt } : LineUnit).Listing x := by
  have no : ReplySlot.pendingPlace ∉ u.order := by rw [h.place]; simp [hp]
  refine ⟨?_, fun c => ?_, h.replies, by simp, fun y e => List.mem_append_left _ (h.stands y e), h.sending⟩
  · exact List.nodup_append.2 ⟨h.once, by simp, by rintro a ha b' hb' rfl; simp at hb'; exact no (hb' ▸ ha)⟩
  · simpa using h.buffers c

/-! ### Judging a frame (R173, R174) -/

/-- What an operation may have made of a line unit before the transmitter takes the next reply: the order has grown at its
end, the reply on the line stands. -/
structure LineUnit.Grew (u v : LineUnit) (x : Option ReplySlot) : Prop where
  listing : v.Listing x
  tx      : v.tx = u.tx
  order   : ∃ more, v.order = u.order ++ more
  present : v.present = u.present

/-- A line unit that has grown so, the transmitter having looked at it or not. -/
def LineUnit.Grown (u v : LineUnit) (x : Option ReplySlot) : Prop :=
  ∃ w, u.Grew w x ∧ (v = w.pump ∨ v = w ∧ w.order = u.order)

theorem LineUnit.Grown.orderly {u v : LineUnit} (g : u.Grown v u.order.head?) (idle : u.tx = none ↔ u.order = []) :
    v.Orderly := by
  obtain ⟨w, ⟨hl, ht, ⟨more, ho⟩, _⟩, rfl | ⟨rfl, e⟩⟩ := g
  · refine hl.pump ?_
    by_cases e : u.order = []
    · exact .inl ⟨ht.trans (idle.2 e), by simp [e]⟩
    · refine .inr ⟨fun h => e (idle.1 (ht.symm.trans h)), by simp [ho, e], ?_⟩
      rw [ho, List.head?_append_of_ne_nil _ e]
  · rw [← e] at hl
    exact hl.orderly (by rw [ht, e]; exact idle)

/-- While a reply is on the line nothing is begun. -/
theorem LineUnit.Grown.busy {u v : LineUnit} {x : Option ReplySlot} (g : u.Grown v x) (ht : u.tx ≠ none) : u.Grew v x := by
  obtain ⟨w, g, rfl | ⟨rfl, _⟩⟩ := g
  · rwa [LineUnit.pump_busy (by rw [g.tx]; exact ht)]
  · exact g

theorem LineUnit.Grown.present {u v : LineUnit} {x : Option ReplySlot} (g : u.Grown v x) : v.present = u.present := by
  obtain ⟨w, g, rfl | ⟨rfl, _⟩⟩ := g
  · rw [LineUnit.pump_present, g.present]
  · exact g.present

theorem LineUnit.Listing.grown {u : LineUnit} {x : Option ReplySlot} (h : u.Listing x) : u.Grown u x :=
  ⟨u, ⟨h, rfl, ⟨[], by simp⟩, rfl⟩, .inr ⟨rfl, rfl⟩⟩

theorem LineUnit.Listing.placePending {u : LineUnit} {x : Option ReplySlot} (h : u.Listing x) (p : PendingReply)
    (hp : u.pendingReply = none) : u.Grown (u.placePending p) x :=
  ⟨_, ⟨h.joinPlace p hp, rfl, ⟨_, rfl⟩, rfl⟩, .inl rfl⟩

theorem LineUnit.Listing.finish {u : LineUnit} {x : Option ReplySlot} (h : u.Listing x) {b : BufId} (k : Held) (r : Reply)
    (hb : ∀ k, u.bufs.get b = some k → k.stage = .inProgress) : u.Grown (u.finish b k r) x :=
  ⟨_, ⟨h.join k r hb, rfl, ⟨_, rfl⟩, rfl⟩, .inl rfl⟩

theorem LineUnit.Listing.pendOrHold {u : LineUnit} {x : Option ReplySlot} (h : u.Listing x) (bs : List Byte) (r : Reply) :
    u.Grown (u.pendOrHold bs r) x := by
  unfold LineUnit.pendOrHold
  split
  · exact h.placePending _ ‹_›
  · exact ⟨{ u with rx := .held bs true }, ⟨h.of_eq rfl rfl rfl, rfl, ⟨[], by simp⟩, rfl⟩, .inr ⟨rfl, rfl⟩⟩

/-- The request of a received frame, as it is put into a buffer (R173 item 4, R174). -/
def requestOf (bs : List Byte) (cls : LineClass) : Held :=
  { tag := frameTag bs, code := frameCode bs, body := frameBody bs, stage := .inProgress, taken := false,
    orphan := false, reply := none, cls := cls }

theorem LineUnit.takeFrame_eq (u : LineUnit) (ctx : LineCtx) (b : BufId) (bs : List Byte) :
    u.takeFrame ctx b bs =
      match examine ctx.cls (frameCode bs) (frameBody bs) with
      | some r => ({ u.setBuf b (some (requestOf bs ctx.cls)) with rx := .hunt } : LineUnit).finish b
          (requestOf bs ctx.cls) r
      | none => { u.setBuf b (some (requestOf bs ctx.cls)) with rx := .hunt } := rfl

/-- The buffer a frame is taken into is FREE (R173 item 4). -/
theorem LineUnit.freeBuf_free {u : LineUnit} {b : BufId} (h : u.freeBuf = some b) : u.bufs.get b = none := by
  unfold LineUnit.freeBuf at h
  split at h
  · cases h; simp_all
  · split at h
    · cases h; simp_all
    · cases h

theorem LineUnit.Listing.takeFrame {u : LineUnit} {x : Option ReplySlot} (h : u.Listing x) (ctx : LineCtx) {b : BufId}
    (bs : List Byte) (hb : u.bufs.get b = none) : u.Grown (u.takeFrame ctx b bs) x := by
  have taken : ({ u.setBuf b (some (requestOf bs ctx.cls)) with rx := .hunt } : LineUnit).Listing x :=
    (h.take (k := some (requestOf bs ctx.cls)) (by simp [hb]) (by rintro y ⟨⟩; exact ⟨rfl, rfl⟩)).of_eq rfl rfl rfl
  rw [LineUnit.takeFrame_eq]
  split
  · obtain ⟨w, g, e⟩ := taken.finish (requestOf bs ctx.cls) ‹_› (b := b) (by
      intro k hk
      change (u.setBuf b _).bufs.get b = some k at hk
      rw [LineUnit.setBuf_get_self] at hk
      cases hk
      rfl)
    exact ⟨w, ⟨g.listing, g.tx, g.order, g.present⟩, e⟩
  · exact ⟨_, ⟨taken, rfl, ⟨[], (List.append_nil _).symm⟩, rfl⟩, .inr ⟨rfl, rfl⟩⟩

theorem LineUnit.Listing.judgeSteps {u : LineUnit} {x : Option ReplySlot} (h : u.Listing x) (ctx : LineCtx)
    (bs : List Byte) : u.Grown (u.judgeSteps ctx bs) x := by
  unfold LineUnit.judgeSteps
  split
  · exact h.pendOrHold _ _
  · split
    · exact h.pendOrHold _ _
    · split
      · exact h.pendOrHold _ _
      · exact h.takeFrame ctx bs (LineUnit.freeBuf_free ‹_›)

theorem LineUnit.Listing.rejudge {u : LineUnit} {x : Option ReplySlot} (h : u.Listing x) (ctx : LineCtx) :
    u.Grown (u.rejudge ctx) x := by
  unfold LineUnit.rejudge
  split
  · exact h.judgeSteps ctx _
  · exact h.grown

/-! ### The operations of the line unit keep the order -/

namespace LineUnit.Orderly
variable {u : LineUnit}

theorem rejudge (h : u.Orderly) (ctx : LineCtx) : (u.rejudge ctx).Orderly :=
  (h.listing.rejudge ctx).orderly h.idle

theorem frameDone (h : u.Orderly) (ctx : LineCtx) (limitS : Nat) : (u.frameDone ctx limitS).Orderly := by
  unfold LineUnit.frameDone
  split
  · have h' : ({ u with silence := .running limitS }.countFrame (frameGood ‹_›)).Orderly := by
      unfold LineUnit.countFrame
      split <;> exact h.of_eq rfl rfl rfl rfl
    exact (h'.listing.judgeSteps ctx _).orderly h'.idle
  · exact h

theorem complete (h : u.Orderly) (ctx : LineCtx) (b : BufId) (r : Reply) : (u.complete ctx b r).Orderly := by
  unfold LineUnit.complete
  split
  · rename_i k hk
    split
    · exact h
    · rename_i hst
      have prog : ∀ k, u.bufs.get b = some k → k.stage = .inProgress := fun y e => by
        rw [hk] at e; cases e; exact not_not.1 hst
      split
      · exact ((h.listing.take prog (k := none) (by simp)).orderly h.idle).rejudge ctx
      · exact (h.listing.finish k r prog).orderly h.idle
  · exact h

theorem abandon (h : u.Orderly) (k : LineFaultKind) : (u.abandon k).Orderly := by
  have h' : ({ u with rx := .hunt, abandoned := bump u.abandoned } : LineUnit).Orderly := h.of_eq rfl rfl rfl rfl
  unfold LineUnit.abandon
  simp only
  split
  · rename_i e
    exact (h'.listing.placePending _ e).orderly h'.idle
  · exact h'

theorem receive (h : u.Orderly) (c : Byte) (e : Bool) : (u.receive c e).Orderly := by
  unfold LineUnit.receive
  split
  · exact h
  · split
    · split
      · exact h.of_eq rfl rfl rfl rfl
      · exact h
    · split
      · exact h.abandon _
      · unfold LineUnit.store
        split
        · exact h.abandon _
        · split <;> exact h.of_eq rfl rfl rfl rfl
    · exact h

theorem timeout (h : u.Orderly) : u.timeout.Orderly := by
  unfold LineUnit.timeout
  split
  · exact h.abandon _
  · exact h

theorem takeRate (h : u.Orderly) (r : Rate) : (u.takeRate r).Orderly := by
  rw [LineUnit.takeRate_eq]
  exact h.of_eq rfl rfl rfl rfl

/-- The place of the reply that has been sent is freed; no reply is SENDING then. -/
theorem freed (h : u.Orderly) {slot : ReplySlot} {rest : List ReplySlot} (ho : u.order = slot :: rest) :
    ({ u with order := rest }.freeSlot slot).Listing none := by
  have nd : slot ∉ rest ∧ rest.Nodup := List.nodup_cons.1 (ho ▸ h.once)
  have mem (y : ReplySlot) (e : y ≠ slot) : y ∈ u.order ↔ y ∈ rest := by simp [ho, e]
  have head (b : BufId) : u.order.head? = some (.buf b) ↔ slot = .buf b := by simp [ho]
  cases slot with
  | buf b =>
    have get (c : BufId) : ({ u with order := rest }.freeSlot (.buf b)).bufs.get c = if b = c then none else u.bufs.get c :=
      LineUnit.setBuf_get _ _ _ _
    refine ⟨nd.2, fun c => ?_, fun c y hy => ?_, ?_, by simp, fun c y hy => ?_⟩
    · show ReplySlot.buf c ∈ rest ↔ _
      rw [get]
      by_cases e : b = c
      · subst e; simpa using nd.1
      · simpa [e, ← mem (.buf c) (by simpa using Ne.symm e)] using h.buffers c
    · rw [get] at hy
      by_cases e : b = c
      · simp [e] at hy
      · exact h.replies c y (by simpa [e] using hy)
    · show _ ∈ rest ↔ _
      rw [← mem _ (by simp)]
      exact h.place
    · rw [get] at hy
      by_cases e : b = c
      · simp [e] at hy
      · simpa [head, e] using h.sending c y (by simpa [e] using hy)
  | pendingPlace =>
    refine ⟨nd.2, fun c => ?_, h.replies, ?_, by simp, fun c y hy => ?_⟩
    · show _ ∈ rest ↔ _
      rw [← mem _ (by simp)]
      exact h.buffers c
    · simpa [LineUnit.freeSlot] using nd.1
    · simpa [head] using h.sending c y hy

theorem sent (h : u.Orderly) (ctx : LineCtx) : (u.sent ctx).Orderly := by
  unfold LineUnit.sent
  split
  · rename_i slot rest ht ho
    have tx : ({ u with order := rest }.freeSlot slot).tx ≠ none := by
      cases slot <;> simp [LineUnit.freeSlot, ht]
    have grew := ((h.freed ho).rejudge ctx).busy tx
    have still : ({ ({ u with order := rest }.freeSlot slot).rejudge ctx with tx := none } : LineUnit).Listing none :=
      grew.listing.of_eq rfl rfl rfl
    simp only
    split
    · exact still.pump_idle rfl
    · refine (still.of_eq ?_ ?_ ?_).pump_idle ?_ <;> rw [LineUnit.takeRate_eq]
  · exact h

theorem lose (h : u.Orderly) : u.lose.Orderly := by
  have get (b : BufId) : u.lose.bufs.get b = lostBuffer (u.bufs.get b) := vector_get_ofFn _ b
  have kept {b : BufId} {k : Held} (e : u.lose.bufs.get b = some k) :
      ∃ y, u.bufs.get b = some y ∧ y.stage = .inProgress ∧ k = { y with orphan := true } := by
    rw [get] at e
    cases hb : u.bufs.get b with
    | none => simp [hb, lostBuffer] at e
    | some y =>
      simp only [hb, lostBuffer] at e
      split at e
      · cases e; exact ⟨y, rfl, ‹_›, rfl⟩
      · cases e
  refine ⟨by simp [LineUnit.lose], fun b => ?_, fun b k e => ?_, by simp [LineUnit.lose], by simp [LineUnit.lose],
    fun b k e => ?_⟩
  · simp only [LineUnit.lose, List.not_mem_nil, false_iff, not_exists, not_and, not_not]
    intro k e
    obtain ⟨y, _, hs, rfl⟩ := kept e
    exact hs
  · obtain ⟨y, hy, hs, rfl⟩ := kept e
    exact h.replies b y hy
  · obtain ⟨y, hy, hs, rfl⟩ := kept e
    simp [LineUnit.lose, hs]

theorem drained (h : u.Orderly) : u.drained.Orderly := h.of_eq rfl rfl rfl rfl

end LineUnit.Orderly

theorem freshLine_orderly (present : Bool) (limitS : Nat) (rate : Rate) : (freshLine present limitS rate).Orderly := by
  refine ⟨?_, ?_, ?_, ?_, ?_, ?_⟩ <;> simp [freshLine]

theorem LineUnit.restartReset_orderly (u : LineUnit) (limitS : Nat) (rate : Rate) : (u.restartReset limitS rate).Orderly :=
  (freshLine_orderly u.present limitS rate).of_eq rfl rfl rfl rfl

/-- A request in a buffer changes in what its reply order does not speak of: the owner's mark, the old rate. -/
theorem LineUnit.Orderly.mark {u : LineUnit} (h : u.Orderly) {b : BufId} {k k' : Held} (hb : u.bufs.get b = some k)
    (stage : k'.stage = k.stage) (reply : k'.reply = k.reply) : (u.setBuf b (some k')).Orderly := by
  refine ⟨h.once, fun c => ?_, fun c y hy => ?_, h.place, h.idle, fun c y hy => ?_⟩
  · rw [LineUnit.setBuf_get, LineUnit.setBuf_order, h.buffers c]
    by_cases e : b = c
    · subst e; simp [hb, stage]
    · simp [e]
  · rw [LineUnit.setBuf_get] at hy
    by_cases e : b = c
    · subst e; cases (by simpa using hy); rw [stage, reply]; exact h.replies b k hb
    · exact h.replies c y (by simpa [e] using hy)
  · rw [LineUnit.setBuf_get] at hy
    by_cases e : b = c
    · subst e; cases (by simpa using hy); rw [stage]; exact h.sending b k hb
    · exact h.sending c y (by simpa [e] using hy)

end Sys2Proof.Machine
end

section
/-! SUPPORT. What a step keeps: `s.Keeps t` says that each promise that holds of `s` holds of `t`, and that a write gate that
has opened in between was free to. Here: the parts of the state that the promises speak of, and the updates of the blocks. -/
namespace Sys2Proof.Machine

/-! ### The promises, block by block -/

/-- What `State.DeskGone` says of the line unit. -/
structure LineUnit.Gone (u : LineUnit) : Prop where
  receive : u.rx = .hunt
  buffers : ∀ b h, u.bufs.get b = some h → h.stage = .inProgress ∧ h.orphan = true
  replies : u.order = [] ∧ u.pendingReply = none ∧ u.tx = none

/-- What `State.DeskGone` says of the claim and watch unit: nothing of the line is there. -/
structure ClaimUnit.Without (c : ClaimUnit) (l : Line) : Prop where
  claims  : ∀ x ∈ c.claims, x.holder ≠ l
  watches : ∀ n, (c.watches.get l).get n = .unused
  flag    : c.broken.get l = none

theorem State.deskGone_iff (s : State) (l : Line) : s.DeskGone l ↔ (s.line l).Gone ∧ s.cw.Without l :=
  ⟨fun ⟨a, b, c, d, e, f⟩ => ⟨⟨a, b, c⟩, ⟨d, e, f⟩⟩, fun ⟨⟨a, b, c⟩, ⟨d, e, f⟩⟩ => ⟨a, b, c, d, e, f⟩⟩

theorem State.DeskGone.of_eq {s t : State} {l : Line} (h : s.DeskGone l) (lines : t.lines = s.lines) (cw : t.cw = s.cw) :
    t.DeskGone l := by
  rw [State.deskGone_iff] at h ⊢
  rwa [State.line, lines, cw]

/-- The line is without its desk, or the external reset is held. -/
def State.Away (s : State) (l : Line) : Prop := (s.line l).present = false ∨ s.part.extReset = true

/-- `State.claimsBounded`, of the claim table. -/
def ClaimUnit.Bounded (c : ClaimUnit) : Prop := c.claims.length ≤ 32 ∧ ∀ l : Line, (c.ofLine l).length ≤ 6

/-- A request that a fault keeps (R38 item 5, R39). -/
def Request.Kept (r : Request) : Prop :=
  r.origin = .volume ∧ r.state = .queued ∧ (r.kind = .labelRead ∨ r.kind = .indexLoad ∨ ∃ j, r.kind = .indexWrite j)

/-- `State.faultedQueues`, of one drive. -/
def DriveSeq.FaultedWell (u : DriveSeq) : Prop := u.condition = .faulted → ∀ r ∈ u.queue, r.Kept

/-- The write gate may stand open: `Obligations.NoGateOpensUnderInhibit`. -/
def State.GateFits (t : State) : Prop :=
  t.channel.inhibit = false ∧ ∃ d, t.channel.granted = some d ∧ (t.drive d).levels.writeProtect = false
    ∧ t.part.drainOver = false

/-- Each promise that holds of `s` holds of `t`; a gate that has opened in between was free to. -/
structure State.Keeps (s t : State) : Prop where
  steps   : s.stepsBelowPeriod → t.stepsBelowPeriod
  claims  : s.cw.Bounded → t.cw.Bounded
  memory  : s.memoryCanonical → t.memoryCanonical
  queues  : s.queuesBounded → t.queuesBounded
  faults  : s.faultedQueues → t.faultedQueues
  heads   : s.positionersLegal → t.positionersLegal
  replies : s.linesOrderly → t.linesOrderly
  desks   : s.absentLinesQuiet → t.absentLinesQuiet
  gate    : s.channel.gate = none → t.channel.gate = none ∨ t.GateFits

theorem State.Keeps.refl (s : State) : s.Keeps s :=
  ⟨id, id, id, id, id, id, id, id, .inl⟩

/-! ### What the update of a block must keep -/

/-- A line unit is changed so that the promises are kept; `away` says that its desk is not there. -/
structure LineUnit.Keeps (away : Prop) (u v : LineUnit) : Prop where
  present : v.present = false → away
  order   : u.Orderly → v.Orderly
  gone    : away → u.Gone → v.Gone

/-- A drive sequencer is changed so that the promises are kept, `n` being the pattern period; `tracked` says that the queues
of FAULTED drives were as promised. -/
structure DriveSeq.Keeps (tracked : Prop) (n : Nat) (u v : DriveSeq) : Prop where
  step    : u.patternStep < n → v.patternStep < n
  desk    : u.deskPlaces ≤ 12 → v.deskPlaces ≤ 12
  volume  : u.volumePlaces ≤ 2 → v.volumePlaces ≤ 2
  faulted : tracked → u.FaultedWell → v.FaultedWell
  head    : u.pos.legal → v.pos.legal
  protect : v.levels.writeProtect = u.levels.writeProtect

/-- The claim and watch unit is changed so that the promises are kept; `gone` says of which desks nothing is left. -/
structure ClaimUnit.Keeps (gone : Line → Prop) (c e : ClaimUnit) : Prop where
  bounds  : c.Bounded → e.Bounded
  without : ∀ l, gone l → c.Without l → e.Without l

/-- A change of the channel opens no gate. -/
def Channel.NoOpening (c e : Channel) : Prop :=
  e.gate = none ∨ e.gate = c.gate ∧ e.inhibit = c.inhibit ∧ e.granted = c.granted

theorem Channel.NoOpening.same {c e : Channel} (gate : e.gate = c.gate) (inhibit : e.inhibit = c.inhibit)
    (granted : e.granted = c.granted) : c.NoOpening e := .inr ⟨gate, inhibit, granted⟩

theorem LineUnit.Keeps.refl {away : Prop} {u : LineUnit} (present : u.present = false → away) : u.Keeps away u :=
  ⟨present, id, fun _ => id⟩

theorem DriveSeq.Keeps.refl {tracked : Prop} {n : Nat} (u : DriveSeq) : u.Keeps tracked n u :=
  ⟨id, id, id, fun _ => id, id, rfl⟩

theorem ClaimUnit.Keeps.refl (gone : Line → Prop) (c : ClaimUnit) : c.Keeps gone c := ⟨id, fun _ _ => id⟩

namespace State.Keeps
variable {s t : State}

/-- The blocks change, each so that it keeps its promises. -/
theorem change (h : s.Keeps t) {u : State} (lines : ∀ l, (t.line l).Keeps (t.Away l) (u.line l))
    (drives : ∀ d, (t.drive d).Keeps s.faultedQueues t.cfg.period (u.drive d)) (cw : t.cw.Keeps t.DeskGone u.cw)
    (period : u.cfg.period = t.cfg.period) (extReset : u.part.extReset = true → t.part.extReset = true)
    (drainOver : t.part.drainOver = false → u.part.drainOver = false) (mem : t.mem.wf = true → u.mem.wf = true)
    (channel : t.channel.NoOpening u.channel) : s.Keeps u := by
  refine ⟨fun x d => ?_, fun x => cw.bounds (h.claims x), fun x => mem (h.memory x),
    fun x d => ⟨(drives d).desk (h.queues x d).1, (drives d).volume (h.queues x d).2⟩,
    fun x d => (drives d).faulted x (h.faults x d), fun x d => (drives d).head (h.heads x d),
    fun x l => (lines l).order (h.replies x l), fun x l a => ?_, fun x => ?_⟩
  · rw [period]
    exact (drives d).step (h.steps x d)
  · have away : t.Away l := a.elim (lines l).present fun e => .inr (extReset e)
    have gone := h.desks x l away
    obtain ⟨unit, without⟩ := (t.deskGone_iff l).1 gone
    exact (u.deskGone_iff l).2 ⟨(lines l).gone away unit, cw.without l gone without⟩
  · rcases channel with none | ⟨gate, inhibit, granted⟩
    · exact .inl none
    · rw [gate]
      exact (h.gate x).imp_right fun ⟨normal, d, grant, protect, drain⟩ =>
        ⟨inhibit.trans normal, d, granted.trans grant, (drives d).protect.trans protect, drainOver drain⟩

/-- Nothing that the promises speak of changes. -/
theorem same (h : s.Keeps t) {u : State} (lines : u.lines = t.lines) (drives : u.drives = t.drives) (cw : u.cw = t.cw)
    (period : u.cfg.period = t.cfg.period) (extReset : u.part.extReset = t.part.extReset)
    (drainOver : u.part.drainOver = t.part.drainOver) (mem : u.mem = t.mem) (channel : t.channel.NoOpening u.channel) :
    s.Keeps u := by
  refine h.change (fun l => ?_) (fun d => ?_) ?_ period extReset.symm.trans drainOver.trans (fun w => mem ▸ w) channel
  · rw [State.line, State.line, lines]
    exact .refl Or.inl
  · rw [State.drive, State.drive, drives]
    exact .refl _
  · rw [cw]
    exact .refl _ _

theorem modVol (h : s.Keeps t) (d : DriveId) (f : Volume → Volume) : s.Keeps (t.modVol d f) :=
  h.same rfl rfl rfl rfl rfl rfl rfl (.same rfl rfl rfl)

theorem modRegion (h : s.Keeps t) (d : DriveId) (f : Region → Region) : s.Keeps (t.modRegion d f) :=
  h.same rfl rfl rfl rfl rfl rfl rfl (.same rfl rfl rfl)

theorem modChannel (h : s.Keeps t) {f : Channel → Channel} (hf : t.channel.NoOpening (f t.channel)) :
    s.Keeps (t.modChannel f) := h.same rfl rfl rfl rfl rfl rfl rfl hf

theorem modPart (h : s.Keeps t) {f : Part → Part} (ext : (f t.part).extReset = t.part.extReset)
    (drain : (f t.part).drainOver = t.part.drainOver) : s.Keeps (t.modPart f) :=
  h.same rfl rfl rfl rfl ext drain rfl (.same rfl rfl rfl)

theorem modLine (h : s.Keeps t) {l : Line} {f : LineUnit → LineUnit} (hf : (t.line l).Keeps (t.Away l) (f (t.line l))) :
    s.Keeps (t.modLine l f) := by
  refine h.change (fun m => ?_) (fun _ => .refl _) (.refl _ _) rfl id id id (.same rfl rfl rfl)
  rw [State.line_modLine]
  split
  · next same => exact same ▸ hf
  · exact .refl Or.inl

theorem modDrive (h : s.Keeps t) {d : DriveId} {f : DriveSeq → DriveSeq}
    (hf : (t.drive d).Keeps s.faultedQueues t.cfg.period (f (t.drive d))) : s.Keeps (t.modDrive d f) := by
  refine h.change (fun _ => .refl Or.inl) (fun e => ?_) (.refl _ _) rfl id id id (.same rfl rfl rfl)
  rw [State.drive_modDrive]
  split
  · next same => exact same ▸ hf
  · exact .refl _

theorem modClaims (h : s.Keeps t) {f : ClaimUnit → ClaimUnit} (hf : t.cw.Keeps t.DeskGone (f t.cw)) :
    s.Keeps (t.modClaims f) :=
  h.change (fun _ => .refl Or.inl) (fun _ => .refl _) hf rfl id id id (.same rfl rfl rfl)

/-- A run of updates that each keep the promises keeps them. -/
theorem foldl {α : Type} {f : State → α → State} (hf : ∀ t a, s.Keeps t → s.Keeps (f t a)) (xs : List α) (h : s.Keeps t) :
    s.Keeps (xs.foldl f t) := State.foldl_keeps s.Keeps f hf xs t h

theorem eachDrive {f : State → DriveId → State} (hf : ∀ t d, s.Keeps t → s.Keeps (f t d)) (h : s.Keeps t) :
    s.Keeps (t.eachDrive f) := State.eachDrive_keeps s.Keeps f hf t h

theorem eachLine {f : State → Line → State} (hf : ∀ t l, s.Keeps t → s.Keeps (f t l)) (h : s.Keeps t) :
    s.Keeps (t.eachLine f) := State.eachLine_keeps s.Keeps f hf t h

/-- A drive with a request that is not QUEUED is not FAULTED, where the queues of FAULTED drives were as promised. -/
theorem notFaulted (h : s.Keeps t) {d : DriveId} {r : Request} (hr : (t.drive d).selected = some r) :
    s.faultedQueues → (t.drive d).condition ≠ .faulted := by
  intro x hc
  have st := List.find?_some hr
  simp [(h.faults x d hc r (List.mem_of_find?_eq_some hr)).2.1] at st

/-! ### The channel -/

theorem setOp (h : s.Keeps t) (d : DriveId) (o : Option OpRecord) : s.Keeps (t.setOp d o) :=
  h.modChannel (.same rfl rfl rfl)
theorem setAsking (h : s.Keeps t) (d : DriveId) (b : Bool) : s.Keeps (t.setAsking d b) := h.modChannel (.same rfl rfl rfl)
theorem setSweepFlag (h : s.Keeps t) (d : DriveId) (b : Bool) : s.Keeps (t.setSweepFlag d b) :=
  h.modChannel (.same rfl rfl rfl)
theorem setMargin (h : s.Keeps t) (d : DriveId) (z : Zone) (m : Margin) : s.Keeps (t.setMargin d z m) := by
  cases z <;> exact h.modChannel (.same rfl rfl rfl)
theorem chanState (h : s.Keeps t) (x : ChanState) : s.Keeps (t.chanState x) := h.modChannel (.same rfl rfl rfl)
theorem startAttempt (h : s.Keeps t) (d : DriveId) (r : Request) (o : OpRecord) (x : ChanState) (y : Option Strobe) :
    s.Keeps (t.startAttempt d r o x y) := (h.setOp _ _).chanState _
theorem closeGate (h : s.Keeps t) : s.Keeps t.closeGate := h.modChannel (.inl rfl)
theorem countFailed (h : s.Keeps t) (n : Nat) : s.Keeps (t.countFailed n) := h.modChannel (.same rfl rfl rfl)
theorem countCheck (h : s.Keeps t) (c : Cause) : s.Keeps (t.countCheck c) := by
  unfold State.countCheck
  split
  · exact h.modChannel (.same rfl rfl rfl)
  · exact h
theorem countRecovered (h : s.Keeps t) (o : OpRecord) : s.Keeps (t.countRecovered o) := by
  unfold State.countRecovered
  split
  · exact h.modChannel (.same rfl rfl rfl)
  · exact h
theorem countWrite (h : s.Keeps t) (o : OpRecord) : s.Keeps (t.countWrite o) := by
  unfold State.countWrite
  split
  · exact h.modChannel (.same rfl rfl rfl)
  · exact h
theorem learn (h : s.Keeps t) (d : DriveId) (r : Request) (o : OpRecord) : s.Keeps (t.learn d r o) := by
  unfold State.learn
  split
  · exact (h.setMargin _ _ _).setOp _ _
  · exact h
theorem resetMargins (h : s.Keeps t) (d : DriveId) : s.Keeps (t.resetMargins d) := (h.setMargin _ _ _).setMargin _ _ _
theorem unlearn (h : s.Keeps t) (d : DriveId) : s.Keeps (t.unlearn d) := by
  unfold State.unlearn
  split
  · exact h.foldl (fun _ _ h => h.setMargin _ _ _) _
  · exact h

/-! ### The buffer memory -/

theorem putFrame (h : s.Keeps t) (d : DriveId) (i : Nat) (p : ReadProfile) (k : Nat) (data : List Byte) :
    s.Keeps (t.putFrame d i p k data) :=
  h.change (fun _ => .refl Or.inl) (fun _ => .refl _) (.refl _ _) rfl id id (Memory.writeRun_wf _ _ _) (.same rfl rfl rfl)

end State.Keeps
end Sys2Proof.Machine
end

section
/-! SUPPORT. The promises through the operations of the line units and of the claim and watch unit. -/
namespace Sys2Proof.Machine

/-! ### Line-present is the desk's alone -/

@[simp] theorem LineUnit.setBuf_present (u : LineUnit) (b : BufId) (h : Option Held) : (u.setBuf b h).present = u.present :=
  rfl
@[simp] theorem LineUnit.placePending_present (u : LineUnit) (p : PendingReply) : (u.placePending p).present = u.present := by
  simp [LineUnit.placePending]
@[simp] theorem LineUnit.finish_present (u : LineUnit) (b : BufId) (h : Held) (r : Reply) :
    (u.finish b h r).present = u.present := by simp [LineUnit.finish]
@[simp] theorem LineUnit.abandon_present (u : LineUnit) (k : LineFaultKind) : (u.abandon k).present = u.present := by
  simp only [LineUnit.abandon]
  split <;> simp
@[simp] theorem LineUnit.pendOrHold_present (u : LineUnit) (bs : List Byte) (r : Reply) :
    (u.pendOrHold bs r).present = u.present := by
  unfold LineUnit.pendOrHold
  split <;> simp
@[simp] theorem LineUnit.takeFrame_present (u : LineUnit) (ctx : LineCtx) (b : BufId) (bs : List Byte) :
    (u.takeFrame ctx b bs).present = u.present := by
  simp only [LineUnit.takeFrame]
  split <;> simp
@[simp] theorem LineUnit.judgeSteps_present (u : LineUnit) (ctx : LineCtx) (bs : List Byte) :
    (u.judgeSteps ctx bs).present = u.present := by
  unfold LineUnit.judgeSteps
  repeat' split
  all_goals simp
@[simp] theorem LineUnit.rejudge_present (u : LineUnit) (ctx : LineCtx) : (u.rejudge ctx).present = u.present := by
  unfold LineUnit.rejudge
  split <;> simp
theorem LineUnit.frameDone_present (u : LineUnit) (ctx : LineCtx) (n : Nat) : (u.frameDone ctx n).present = u.present := by
  unfold LineUnit.frameDone LineUnit.countFrame
  split
  · simp only [LineUnit.judgeSteps_present]
    split <;> rfl
  · rfl
theorem LineUnit.complete_present (u : LineUnit) (ctx : LineCtx) (b : BufId) (r : Reply) :
    (u.complete ctx b r).present = u.present := by
  unfold LineUnit.complete
  repeat' split
  all_goals simp
theorem LineUnit.receive_present (u : LineUnit) (c : Byte) (e : Bool) : (u.receive c e).present = u.present := by
  unfold LineUnit.receive LineUnit.store
  repeat' split
  all_goals simp
theorem LineUnit.timeout_present (u : LineUnit) : u.timeout.present = u.present := by
  unfold LineUnit.timeout
  split <;> simp
theorem LineUnit.sent_present (u : LineUnit) (ctx : LineCtx) : (u.sent ctx).present = u.present := by
  have freed (v : LineUnit) (x : ReplySlot) : (v.freeSlot x).present = v.present := by cases x <;> rfl
  unfold LineUnit.sent
  split
  · simp only [LineUnit.pump_present]
    split
    · simp [freed]
    · rw [LineUnit.takeRate_eq]
      simp [freed]
  · rfl

/-! ### A line without its desk takes nothing and sends nothing -/

theorem LineUnit.Gone.complete {u : LineUnit} (g : u.Gone) (ctx : LineCtx) (b : BufId) (r : Reply) :
    (u.complete ctx b r).Gone := by
  unfold LineUnit.complete
  split
  · next h hb =>
    obtain ⟨hst, ho⟩ := g.buffers b h hb
    have hunt : ((u.setBuf b none).rejudge ctx) = u.setBuf b none := by simp [LineUnit.rejudge, g.receive]
    simp only [hst, ho, ne_eq, not_true_eq_false, if_false, if_true, hunt]
    refine ⟨g.receive, fun c k hk => ?_, g.replies⟩
    rw [LineUnit.setBuf_get] at hk
    split at hk
    · cases hk
    · exact g.buffers c k hk
  · exact g

/-- What is changed of a request in a buffer is neither its stage nor its orphan mark. -/
theorem LineUnit.Gone.mark {u : LineUnit} (g : u.Gone) {b : BufId} {k k' : Held} (hb : u.bufs.get b = some k)
    (stage : k'.stage = k.stage) (orphan : k'.orphan = k.orphan) : (u.setBuf b (some k')).Gone := by
  refine ⟨g.receive, fun c y hy => ?_, g.replies⟩
  rw [LineUnit.setBuf_get] at hy
  split at hy
  · cases hy
    rw [stage, orphan]
    exact g.buffers b k hb
  · exact g.buffers c y hy

theorem LineUnit.lose_gone (u : LineUnit) : u.lose.Gone := by
  refine ⟨rfl, fun b h e => ?_, rfl, rfl, rfl⟩
  have e : lostBuffer (u.bufs.get b) = some h := (vector_get_ofFn _ b).symm.trans e
  unfold lostBuffer at e
  split at e
  · split at e
    · cases e
      exact ⟨‹_›, rfl⟩
    · cases e
  · cases e

theorem LineUnit.restartReset_gone (u : LineUnit) (n : Nat) (r : Rate) : (u.restartReset n r).Gone := by
  refine ⟨rfl, fun b h e => ?_, rfl, rfl, rfl⟩
  simp [LineUnit.restartReset, freshLine] at e

namespace State.Keeps
variable {s t : State}

/-! ### The line units -/

/-- An operation of a line unit that leaves line-present and the reply order's rules, and the quiet of a line without its
desk. -/
theorem lineOp (h : s.Keeps t) {l : Line} {f : LineUnit → LineUnit} (present : (f (t.line l)).present = (t.line l).present)
    (order : (t.line l).Orderly → (f (t.line l)).Orderly)
    (gone : t.Away l → (t.line l).Gone → (f (t.line l)).Gone) : s.Keeps (t.modLine l f) :=
  h.modLine ⟨fun e => .inl (present.symm.trans e), order, gone⟩

theorem answer (h : s.Keeps t) (l : Line) (b : BufId) (r : Reply) : s.Keeps (t.answer l b r) :=
  h.lineOp (LineUnit.complete_present _ _ _ _) (·.complete _ _ _) fun _ g => g.complete _ _ _

theorem markTaken (h : s.Keeps t) (l : Line) (b : BufId) : s.Keeps (t.markTaken l b) := by
  refine h.lineOp ?_ (fun o => ?_) fun _ g => ?_
  · split <;> rfl
  · split
    · next e => exact o.mark e rfl rfl
    · exact o
  · split
    · next e => exact g.mark e rfl rfl
    · exact g

theorem keepRate (h : s.Keeps t) (l : Line) (b : BufId) (c : Bool) : s.Keeps (t.keepRate l b c) := by
  refine h.lineOp ?_ (fun o => ?_) fun _ g => ?_
  · split <;> rfl
  · split
    · next e => exact o.mark e rfl rfl
    · exact o
  · split
    · next e => exact g.mark e rfl rfl
    · exact g

theorem lineReset (h : s.Keeps t) (l : Line) : s.Keeps (t.lineReset l) := by
  unfold State.lineReset
  split
  · exact h.lineOp rfl (fun _ => LineUnit.restartReset_orderly _ _ _) fun _ _ => LineUnit.restartReset_gone _ _ _
  · exact h

end State.Keeps

/-! ### The claim table and the watches -/

theorem ClaimUnit.ofLine_filter_le (c : ClaimUnit) (p : Claim → Bool) (l : Line) :
    (({ c with claims := c.claims.filter p } : ClaimUnit).ofLine l).length ≤ (c.ofLine l).length := by
  simp only [ClaimUnit.ofLine, List.filter_filter]
  rw [← List.filter_filter, List.filter_comm]
  exact List.length_filter_le _ _

/-- The table with some of its claims is bounded still. -/
theorem ClaimUnit.Bounded.filter {c : ClaimUnit} (h : c.Bounded) (p : Claim → Bool) :
    ({ c with claims := c.claims.filter p } : ClaimUnit).Bounded :=
  ⟨(List.length_filter_le _ _).trans h.1, fun l => (c.ofLine_filter_le p l).trans (h.2 l)⟩

namespace ClaimUnit.Keeps
variable {gone : Line → Prop} {c e f : ClaimUnit}

theorem trans (a : c.Keeps gone e) (b : e.Keeps gone f) : c.Keeps gone f :=
  ⟨b.bounds ∘ a.bounds, fun l g w => b.without l g (a.without l g w)⟩

theorem raise (h : c.Keeps gone e) (x : Event) : c.Keeps gone (e.raise x) :=
  h.trans ⟨id, fun _ _ w => ⟨w.claims, fun n => ClaimUnit.raise_watch_unused x (w.watches n), w.flag⟩⟩

theorem remove (h : c.Keeps gone e) (d : DriveId) (n : Nat) : c.Keeps gone (e.remove d n) :=
  h.trans ⟨fun b => b.filter _, fun _ _ w => ⟨fun x hx => w.claims x (List.mem_filter.1 hx).1, w.watches, w.flag⟩⟩

theorem freed (h : c.Keeps gone e) (d : DriveId) (n basket : Nat) (l : Line) : c.Keeps gone (e.freed d n basket l) :=
  (h.remove d n).raise _

/-- A claim-broken flag is set or cleared: set only of a desk that is there. -/
theorem setBroken (h : c.Keeps gone e) (l : Line) {x : Option (DriveId × Nat)} (here : x = none ∨ ¬ (gone l ∧ c.Without l)) :
    c.Keeps gone { e with broken := e.broken.set l.val x l.isLt } := by
  refine ⟨fun b => h.bounds b, fun m g w => ?_⟩
  have v := h.without m g w
  refine ⟨v.claims, v.watches, ?_⟩
  rw [vector_get_set]
  split
  · next eq =>
    subst eq
    exact here.resolve_right fun k => k ⟨g, w⟩
  · exact v.flag

theorem volumeGone (h : c.Keeps gone e) (d : DriveId) : c.Keeps gone (e.volumeGone d) :=
  h.trans ⟨fun b => b.filter _, fun l _ w => ⟨fun x hx => w.claims x (List.mem_filter.1 hx).1, fun n => by
    simp [ClaimUnit.volumeGone, w.watches n, Watch.afterGone], w.flag⟩⟩

/-- A watch is set to what a watch of a line without its desk is, or on a line with its desk. -/
theorem setWatch (h : c.Keeps gone e) (l : Line) (n : Fin 4) {x : Watch} (here : x = .unused ∨ ¬ (gone l ∧ e.Without l)) :
    c.Keeps gone (e.setWatch l n x) := by
  refine h.trans ⟨id, fun m g w => ⟨w.claims, fun k => ?_, w.flag⟩⟩
  simp only [ClaimUnit.setWatch, vector_get_set]
  split
  · next eq =>
    subst eq
    rw [vector_get_set]
    split
    · exact here.resolve_right fun k => k ⟨g, w⟩
    · exact w.watches k
  · exact w.watches k

/-- A claim is granted to a line with room (R154) whose desk is there. -/
theorem grant (h : c.Keeps gone e) (d : DriveId) (serial n : Nat) {l : Line} (room : e.hasRoom l = true)
    (here : ¬ (gone l ∧ e.Without l)) : c.Keeps gone (e.grant d serial n l) := by
  simp only [ClaimUnit.hasRoom, Bool.and_eq_true, decide_eq_true_eq] at room
  refine h.trans ⟨fun b => ⟨?_, fun m => ?_⟩, fun m g w => ⟨fun x hx => ?_, w.watches, w.flag⟩⟩
  · simp only [ClaimUnit.grant, List.length_append, List.length_singleton]
    omega
  · have := b.2 m
    simp only [ClaimUnit.ofLine] at this room
    simp only [ClaimUnit.grant, ClaimUnit.ofLine, List.filter_append, List.length_append, List.filter_singleton]
    by_cases eq : l = m
    · subst eq
      simp only [beq_self_eq_true, cond_true, List.length_singleton]
      omega
    · rw [beq_false_of_ne eq]
      exact this
  · rcases List.mem_append.1 hx with hx | hx
    · exact w.claims x hx
    · rw [List.mem_singleton.1 hx]
      rintro rfl
      exact here ⟨g, w⟩

theorem freedAll (h : c.Keeps gone e) (xs : List Claim) (basket : Claim → Nat) (l : Line) :
    c.Keeps gone (e.freedAll xs basket l) := by
  induction xs generalizing e with
  | nil => exact h
  | cons x xs ih => exact ih (h.freed _ _ _ _)

/-- Claims are broken of desks that are there. -/
theorem brokenAll (h : c.Keeps gone e) (d : DriveId) {xs : List Claim} (basket : Claim → Nat) (l : Line)
    (here : ∀ x ∈ xs, ¬ (gone x.holder ∧ c.Without x.holder)) : c.Keeps gone (e.brokenAll d xs basket l) := by
  induction xs generalizing e with
  | nil => exact h
  | cons x xs ih =>
    exact ih ((h.setBroken x.holder (.inr (here x (.head _)))).freed _ _ _ _) fun y hy => here y (.tail _ hy)

end ClaimUnit.Keeps

/-- A run of changes of the claim and watch unit, each reading the volumes at most, is one change. -/
theorem State.foldl_modClaims {α : Type} (s : State) (f : State → α → State) (g : ClaimUnit → α → ClaimUnit) (xs : List α)
    (hf : ∀ c, ∀ x ∈ xs, f { s with cw := c } x = { s with cw := g c x }) (c : ClaimUnit) :
    xs.foldl f { s with cw := c } = { s with cw := xs.foldl g c } := by
  induction xs generalizing c with
  | nil => rfl
  | cons x xs ih =>
    rw [List.foldl_cons, hf c x (.head _), List.foldl_cons]
    exact ih (fun c y hy => hf c y (.tail _ hy)) _

/-- Every claim of a line goes, each CLAIM-FREED with its story's basket (R159, R161), and nothing else changes. -/
theorem State.dropClaims_eq (s : State) (l : Line) :
    s.dropClaims l = s.modClaims fun c => c.freedAll (s.cw.ofLine l) s.claimBasket l :=
  State.foldl_modClaims s _ _ _ (fun _ _ _ => rfl) s.cw

/-- The claims of other lines on a volume are broken (R160, R121 item 4), and nothing else changes. -/
theorem State.breakOthers_eq (s : State) (d : DriveId) (l : Line) :
    s.breakOthers d l = s.modClaims fun c => c.brokenAll d (s.cw.others d l) s.claimBasket l := by
  refine State.foldl_modClaims s _ _ _ (fun c x hx => ?_) s.cw
  have hd : x.drive = d := eq_of_beq ((Bool.and_eq_true _ _).mp (List.mem_filter.1 hx).2).1
  subst hd
  rfl

namespace State.Keeps
variable {s t : State}

theorem raiseEvent (h : s.Keeps t) (k : EventKind) (d : DriveId) (n basket : Nat) (l : Line) :
    s.Keeps (t.raiseEvent k d n basket l) := h.modClaims ((ClaimUnit.Keeps.refl _ _).raise _)

theorem freeClaim (h : s.Keeps t) (d : DriveId) (n : Nat) (l : Line) : s.Keeps (t.freeClaim d n l) :=
  h.modClaims (f := fun c => c.freed d n _ l) ((ClaimUnit.Keeps.refl _ _).freed d n _ l)

theorem volumeGone (h : s.Keeps t) (d : DriveId) : s.Keeps (t.modClaims fun c => c.volumeGone d) :=
  h.modClaims ((ClaimUnit.Keeps.refl _ _).volumeGone d)

theorem dropBroken (h : s.Keeps t) (d : DriveId) {n : Nat} {o : Line} (l : Line) (holder : t.cw.holder d n = some o) :
    s.Keeps (t.dropBroken d n o l) := by
  refine h.modClaims (f := fun c => ({ c with broken := _ } : ClaimUnit).freed d n _ l)
    (((ClaimUnit.Keeps.refl _ _).setBroken o (.inr fun ⟨_, w⟩ => ?_)).freed d n _ l)
  obtain ⟨x, hx, rfl⟩ := Option.map_eq_some_iff.1 holder
  exact w.claims x (List.mem_of_find?_eq_some hx) rfl

theorem dropClaims (h : s.Keeps t) (l : Line) : s.Keeps (t.dropClaims l) := by
  rw [State.dropClaims_eq]
  exact h.modClaims ((ClaimUnit.Keeps.refl _ _).freedAll _ _ l)

theorem breakOthers (h : s.Keeps t) (d : DriveId) (l : Line) : s.Keeps (t.breakOthers d l) := by
  rw [State.breakOthers_eq]
  exact h.modClaims ((ClaimUnit.Keeps.refl _ _).brokenAll d _ l fun x hx w =>
    w.2.claims x (List.mem_filter.1 hx).1 rfl)

/-- The claim and watch unit is set as it is of a line without its desk (R159 item 1). -/
theorem clearLine (h : s.Keeps t) (l : Line) :
    s.Keeps (t.modClaims fun c => { c with watches := c.watches.set l.val (Vector.replicate 4 .unused) l.isLt,
                                           broken := c.broken.set l.val none l.isLt }) := by
  refine h.modClaims ⟨id, fun m _ w => ⟨w.claims, fun n => ?_, ?_⟩⟩
  · rw [vector_get_set]
    split
    · simp
    · exact w.watches n
  · rw [vector_get_set]
    split
    · rfl
    · exact w.flag

theorem deskLost (h : s.Keeps t) (l : Line) : s.Keeps (t.deskLost l) := (h.dropClaims l).clearLine l

end State.Keeps
end Sys2Proof.Machine
end

section
/-! SUPPORT. The promises through the operations on the drive queues, the track cache and the index. -/
namespace Sys2Proof.Machine

/-! ### Queues -/

namespace DriveSeq.Keeps
variable {tracked : Prop} {n : Nat} {u : DriveSeq}

/-- Counts, timing and the like: nothing that the promises speak of changes. -/
theorem other {v : DriveSeq} (step : v.patternStep = u.patternStep) (queue : v.queue = u.queue)
    (condition : v.condition = u.condition) (pos : v.pos = u.pos) (levels : v.levels = u.levels) : u.Keeps tracked n v := by
  refine ⟨fun h => step ▸ h, fun h => ?_, fun h => ?_, fun _ h => ?_, fun h => pos ▸ h, congrArg _ levels⟩
  · rwa [DriveSeq.deskPlaces, queue]
  · rwa [DriveSeq.volumePlaces, queue]
  · rwa [DriveSeq.FaultedWell, condition, queue]

theorem pos {p : Positioner} (legal : u.pos.legal → p.legal) : u.Keeps tracked n { u with pos := p } :=
  ⟨id, id, id, fun _ => id, legal, rfl⟩

/-- Requests leave the queue. -/
theorem filter (p : Request → Bool) : u.Keeps tracked n { u with queue := u.queue.filter p } := by
  have le (q : Request → Bool) : ((u.queue.filter p).filter q).length ≤ (u.queue.filter q).length := by
    rw [List.filter_comm]
    exact List.length_filter_le _ _
  exact ⟨id, (le _).trans, (le _).trans, fun _ w c r hr => w c r (List.mem_filter.1 hr).1, id, rfl⟩

/-- Requests change in their places, what a fault keeps staying so. -/
theorem map {f : Request → Request} (origin : ∀ r, (f r).origin = r.origin) (kept : ∀ r : Request, r.Kept → (f r).Kept) :
    u.Keeps tracked n { u with queue := u.queue.map f } := by
  have eq (q : Origin → Bool) : ((u.queue.map f).filter fun r => q r.origin).length
      = (u.queue.filter fun r => q r.origin).length := by
    rw [List.filter_map, List.length_map]
    simp only [Function.comp_def, origin]
  refine ⟨id, ((eq (· != .volume)).trans_le ·), ((eq (· == .volume)).trans_le ·), fun _ w c r hr => ?_, id, rfl⟩
  obtain ⟨x, hx, rfl⟩ := List.mem_map.1 hr
  exact kept x (w c x hx)

/-- A desk place is taken while one is free. -/
theorem appendDesk {r : Request} (room : u.deskFull = false) (origin : r.origin ≠ .volume)
    (fit : tracked → u.condition ≠ .faulted) : u.Keeps tracked n { u with queue := u.queue ++ [r] } := by
  simp only [DriveSeq.deskFull, decide_eq_false_iff_not] at room
  refine ⟨id, fun _ => ?_, fun h => ?_, fun x _ c => absurd c (fit x), id, rfl⟩
  · simp only [DriveSeq.deskPlaces, List.filter_append, List.length_append] at room ⊢
    have : ([r].filter fun r => r.origin != .volume).length ≤ 1 := List.length_filter_le _ _
    omega
  · simpa [DriveSeq.volumePlaces, List.filter_append, origin] using h

/-- A volume place is taken while one is free. -/
theorem appendVolume {r : Request} (room : u.volumeFree = true) (origin : r.origin = .volume)
    (fit : r.Kept ∨ (tracked → u.condition ≠ .faulted)) : u.Keeps tracked n { u with queue := u.queue ++ [r] } := by
  simp only [DriveSeq.volumeFree, decide_eq_true_eq] at room
  refine ⟨id, fun h => ?_, fun _ => ?_, fun x w c y hy => ?_, id, rfl⟩
  · simpa [DriveSeq.deskPlaces, List.filter_append, origin] using h
  · simp only [DriveSeq.volumePlaces, List.filter_append, List.length_append] at room ⊢
    have : ([r].filter fun r => r.origin == .volume).length ≤ 1 := List.length_filter_le _ _
    omega
  · rcases List.mem_append.1 hy with hy | hy
    · exact w c y hy
    · rw [List.mem_singleton.1 hy]
      exact fit.resolve_right fun k => k x c

end DriveSeq.Keeps

namespace State.Keeps
variable {s t : State}

theorem modPos (h : s.Keeps t) {d : DriveId} {f : Positioner → Positioner}
    (legal : (t.drive d).pos.legal → (f (t.drive d).pos).legal) : s.Keeps (t.modPos d f) := h.modDrive (.pos legal)

theorem filterQueue (h : s.Keeps t) (d : DriveId) (p : Request → Bool) : s.Keeps (t.modQueue d fun q => q.filter p) :=
  h.modDrive (.filter p)

theorem mapQueue (h : s.Keeps t) {d : DriveId} {f : Request → Request} (origin : ∀ r, (f r).origin = r.origin)
    (kept : ∀ r : Request, r.Kept → (f r).Kept) : s.Keeps (t.modQueue d fun q => q.map f) := h.modDrive (.map origin kept)

theorem modSelected (h : s.Keeps t) {d : DriveId} {f : Request → Request} (origin : ∀ r, (f r).origin = r.origin) :
    s.Keeps (t.modSelected d f) := by
  refine h.mapQueue (fun r => ?_) fun r k => ?_
  · split
    · exact origin r
    · rfl
  · simpa [k.2.1] using k

theorem dropSelected (h : s.Keeps t) (d : DriveId) : s.Keeps (t.dropSelected d) := h.filterQueue d _

/-- The pulse count and the other numbers of a drive that the promises do not speak of. -/
theorem modCounts (h : s.Keeps t) {d : DriveId} {f : DriveSeq → DriveSeq}
    (step : (f (t.drive d)).patternStep = (t.drive d).patternStep) (queue : (f (t.drive d)).queue = (t.drive d).queue)
    (condition : (f (t.drive d)).condition = (t.drive d).condition) (pos : (f (t.drive d)).pos = (t.drive d).pos)
    (levels : (f (t.drive d)).levels = (t.drive d).levels) : s.Keeps (t.modDrive d f) :=
  h.modDrive (.other step queue condition pos levels)

/-- The arrival counter goes on (R72). -/
theorem arrival (h : s.Keeps t) (n : Nat) : s.Keeps { t with arrival := n } :=
  h.same rfl rfl rfl rfl rfl rfl rfl (.same rfl rfl rfl)

theorem placeDesk (h : s.Keeps t) {d : DriveId} {r : Request} (room : (t.drive d).deskFull = false)
    (origin : r.origin ≠ .volume) (fit : s.faultedQueues → (t.drive d).condition ≠ .faulted) : s.Keeps (t.place d r) :=
  (h.arrival (nextNumber t.arrival)).modDrive (d := d)
    (f := fun u => { u with queue := u.queue ++ [{ r with arrival := t.arrival }] }) (.appendDesk room origin fit)

theorem place (h : s.Keeps t) {d : DriveId} {r : Request} (room : (t.drive d).volumeFree = true)
    (origin : r.origin = .volume) (fit : r.Kept ∨ (s.faultedQueues → (t.drive d).condition ≠ .faulted)) :
    s.Keeps (t.place d r) :=
  (h.arrival (nextNumber t.arrival)).modDrive (d := d)
    (f := fun u => { u with queue := u.queue ++ [{ r with arrival := t.arrival }] }) (.appendVolume room origin fit)

theorem placeVolume (h : s.Keeps t) {d : DriveId} {r : Request} (origin : r.origin = .volume)
    (fit : r.Kept ∨ (s.faultedQueues → (t.drive d).condition ≠ .faulted)) : s.Keeps (t.placeVolume d r) := by
  unfold State.placeVolume
  split
  · exact h.place ‹_› origin fit
  · exact h

theorem refusePlace (h : s.Keeps t) (d : DriveId) (l : Line) (b : BufId) : s.Keeps (t.refusePlace d l b) :=
  (h.modCounts rfl rfl rfl rfl rfl).answer _ _ _

/-! ### The track cache -/

theorem answerReader (h : s.Keeps t) (d : DriveId) (i : Nat) (p : ReadProfile) (c : SectorCond) (rec : Bool) (r : Reader) :
    s.Keeps (t.answerReader d i p c rec r) := by cases c <;> exact h.answer _ _ _

theorem countHit (h : s.Keeps t) (d : DriveId) : s.Keeps (t.countHit d) := h.modRegion d _

theorem joinFrame (h : s.Keeps t) (d : DriveId) (i : Nat) (rd : Reader) : s.Keeps (t.joinFrame d i rd) := by
  refine (h.modRegion d _).mapQueue (fun r => ?_) fun r k => ?_
  · unfold joinFill
    split <;> rfl
  · unfold joinFill
    split
    · next fill =>
      obtain ⟨-, -, kind | kind | ⟨j, kind⟩⟩ := k <;> rw [kind] at fill <;> cases fill
    · exact k

theorem hitFrame (h : s.Keeps t) (d : DriveId) (i : Nat) (p : ReadProfile) (rd : Reader) : s.Keeps (t.hitFrame d i p rd) := by
  unfold State.hitFrame
  split
  · exact (h.answerReader _ _ _ _ _ _).countHit d
  · exact h

theorem missFrame (h : s.Keeps t) {d : DriveId} (pl : Place) (slot : Nat) (p : ReadProfile) (rd : Reader)
    (fit : s.faultedQueues → (t.drive d).condition ≠ .faulted) : s.Keeps (t.missFrame d pl slot p rd) := by
  unfold State.missFrame
  split
  · exact h.refusePlace _ _ _
  · next full =>
    have room := Bool.eq_false_iff.2 full
    have direct : s.Keeps (t.placeDirect d pl slot p rd) := (h.modRegion d _).placeDesk room (fun e => nomatch e) fit
    split
    · split
      · exact (h.modRegion d _).placeDesk room (fun e => nomatch e) fit
      · exact direct
    · exact direct

theorem cacheRead (h : s.Keeps t) {d : DriveId} (pl : Place) (slot : Nat) (p : ReadProfile) (l : Line) (b : BufId)
    (fit : s.faultedQueues → (t.drive d).condition ≠ .faulted) : s.Keeps (t.cacheRead d pl slot p l b) := by
  unfold State.cacheRead
  simp only
  split
  · exact (h.answer _ _ _).countHit d
  · split
    · exact h.hitFrame _ _ _ _
    · split
      · exact h.joinFrame _ _ _
      · exact h.missFrame _ _ _ _ fit

theorem fillDone (h : s.Keeps t) (d : DriveId) (r : Request) (i : Nat) (notes : List SectorNote) (rec : List Nat) :
    s.Keeps (t.fillDone d r i notes rec) := (h.modRegion d _).foldl (fun _ _ h => h.answerReader _ _ _ _ _ _) _

theorem failReaders (h : s.Keeps t) (rs : List Reader) (c : Cause) : s.Keeps (t.failReaders rs c) :=
  h.foldl (fun _ _ h => h.answer _ _ _) _

theorem fillFailed (h : s.Keeps t) (d : DriveId) (i : Nat) (c : Cause) : s.Keeps (t.fillFailed d i c) :=
  (h.modRegion d _).failReaders _ _

theorem writeThrough (h : s.Keeps t) (d : DriveId) (r : Request) (data : List Byte) : s.Keeps (t.writeThrough d r data) := by
  unfold State.writeThrough
  split
  · exact (h.putFrame _ _ _ _ _).modRegion d _
  · exact h

theorem emptyTrack (h : s.Keeps t) (d : DriveId) (c n : Nat) : s.Keeps (t.emptyTrack d c n) := by
  unfold State.emptyTrack
  split
  · exact h.modRegion d _
  · exact h

/-- The VALID frame of a track that the channel had served is emptied (R104). -/
theorem emptyTrackIf (h : s.Keeps t) (p : Bool) (d : DriveId) (c n : Nat) :
    s.Keeps (if p then t.emptyTrack d c n else t) := by
  split
  · exact h.emptyTrack d c n
  · exact h

theorem emptyRegion (h : s.Keeps t) (d : DriveId) : s.Keeps (t.emptyRegion d) := (h.modRegion d _).failReaders _ _

theorem failCacheRead (h : s.Keeps t) (d : DriveId) (c : Cause) (r : Request) : s.Keeps (t.failCacheRead d c r) := by
  unfold State.failCacheRead
  split
  · exact (h.modRegion d _).failReaders _ _
  · exact h.answer _ _ _
  · exact h

theorem prepareRegion (h : s.Keeps t) (d : DriveId) : s.Keeps (t.prepareRegion d) := by
  unfold State.prepareRegion
  split
  · have all := ((h.modRegion d Region.dropValid).filterQueue d fun r => !(r.isCacheRead && r.state == .queued)).foldl
      (fun _ r h => h.failCacheRead d .removed r) ((t.drive d).queue.filter fun r => r.isCacheRead && r.state == .queued)
    simp only
    split
    · exact all.modRegion d _
    · exact all.modRegion d _
  · exact h

/-! ### The index -/

theorem setEntry (h : s.Keeps t) (d : DriveId) (n : Nat) (e : Entry) : s.Keeps (t.setEntry d n e) := h.modVol d _

theorem setSector (h : s.Keeps t) (d : DriveId) (j : Nat) (x : SectorState) : s.Keeps (t.setSector d j x) := h.modVol d _

theorem changeEntry (h : s.Keeps t) (d : DriveId) (p : Profile) (n : Nat) (e : Entry) : s.Keeps (t.changeEntry d p n e) :=
  (h.setEntry d _ _).setSector d _ _

theorem await (h : s.Keeps t) (d : DriveId) (w : Waiter) : s.Keeps (t.await d w) := h.modVol d _

theorem offerOne (h : s.Keeps t) (d : DriveId) : s.Keeps (t.offerOne d) := by
  unfold State.offerOne
  split
  · next may _ _ =>
    simp only [State.mayOffer, Bool.and_eq_true] at may
    exact (h.modVol d _).place may.2 rfl (.inl ⟨rfl, rfl, .inr (.inr ⟨_, rfl⟩)⟩)
  · exact h

theorem offers (h : s.Keeps t) (d : DriveId) : s.Keeps (t.offers d) := (h.offerOne d).offerOne d

theorem setWriteBack (h : s.Keeps t) (d : DriveId) (l : Line) (b : BufId) (x : WriteBack) :
    s.Keeps (t.setWriteBack d l b x) := by
  refine h.mapQueue (fun r => ?_) fun r k => ?_
  · split <;> rfl
  · split
    · next e =>
      have := k.1.symm.trans e.1
      cases this
    · exact k

theorem dropWaiter (h : s.Keeps t) (d : DriveId) (l : Line) (b : BufId) : s.Keeps (t.dropWaiter d l b) := h.modVol d _

theorem answerWaiter (h : s.Keeps t) (d : DriveId) (w : Waiter) : s.Keeps (t.answerWaiter d w) := by
  unfold State.answerWaiter
  split
  · exact h.answer _ _ _
  · exact h.setWriteBack _ _ _ _
  · exact h.answer _ _ _

theorem failWaiter (h : s.Keeps t) (d : DriveId) (c : Cause) (w : Waiter) : s.Keeps (t.failWaiter d c w) := by
  unfold State.failWaiter
  split
  · exact h.setWriteBack _ _ _ _
  · exact h.answer _ _ _

theorem loseWaiter (h : s.Keeps t) (w : Waiter) : s.Keeps (t.loseWaiter w) := by
  unfold State.loseWaiter
  split
  · exact h
  · exact h.answer _ _ _

theorem coverSector (h : s.Keeps t) (d : DriveId) (j : Nat) : s.Keeps (t.coverSector d j) := (h.modVol d _).modVol d _

theorem indexWritten (h : s.Keeps t) (d : DriveId) (j : Nat) : s.Keeps (t.indexWritten d j) :=
  ((h.modVol d _).modVol d _).foldl (fun _ _ h => h.answerWaiter d _) _

theorem indexRemoved (h : s.Keeps t) (d : DriveId) (j : Nat) : s.Keeps (t.indexRemoved d j) := (h.modVol d _).modVol d _

theorem indexFaulted (h : s.Keeps t) (d : DriveId) (j : Nat) : s.Keeps (t.indexFaulted d j) :=
  ((h.modVol d _).modVol d _).foldl (fun _ _ h => h.failWaiter d _ _) _

theorem dropHold (h : s.Keeps t) (d : DriveId) (r : Request) : s.Keeps (t.dropHold d r) := by
  unfold State.dropHold
  split
  · exact h.modVol d _
  · exact h

theorem failRequest (h : s.Keeps t) (d : DriveId) (c : Cause) (r : Request) : s.Keeps (t.failRequest d c r) := by
  unfold State.failRequest
  split
  · exact h
  · split
    · exact h.fillFailed _ _ _
    · exact (((h.dropHold d r).dropWaiter d _ _).answer _ _ _).emptyTrackIf _ d _ _
    · exact (h.setSweepFlag d false).answer _ _ _
    · exact h.answer _ _ _
    · exact h.answer _ _ _
    · exact h

theorem withdraw (h : s.Keeps t) (d : DriveId) (p : Request → Bool) (c : Cause) : s.Keeps (t.withdraw d p c) :=
  (h.filterQueue d _).foldl (fun _ _ h => h.failRequest d c _) _

theorem leave (h : s.Keeps t) (d : DriveId) : s.Keeps (t.leave d) := by
  unfold State.leave
  split
  · exact (h.dropSelected d).dropHold d _
  · exact h

theorem releaseGranule (h : s.Keeps t) (d : DriveId) (p : Profile) (g : Nat) : s.Keeps (t.releaseGranule d p g) := by
  unfold State.releaseGranule
  exact (h.withdraw d (fun r => r.state == .queued && r.writesGranule p g) .trimmed).modVol d _

theorem releaseGranules (h : s.Keeps t) (d : DriveId) (p : Profile) (gs : List Nat) : s.Keeps (t.releaseGranules d p gs) :=
  h.foldl (fun _ _ h => h.releaseGranule d p _) _

end State.Keeps
end Sys2Proof.Machine
end

section
/-! SUPPORT. The promises through the life of a volume, the positioner, a removal and a fault. -/
namespace Sys2Proof.Machine

/-! ### Positioners (Table 2-3) -/

namespace Positioner.legal
variable {p : Positioner}

theorem unloaded (h : p.legal) (on : p.state = .onTrack) : p.unloaded.legal := by
  simp_all [Positioner.legal, Positioner.unloaded]

theorem atZero (p : Positioner) (n : Nat) : (p.atZero n).legal := by
  simp [Positioner.legal, Positioner.atZero, Positioner.toUnknown, freshPositioner]

theorem toUnknown (p : Positioner) : p.toUnknown.legal := by
  simp [Positioner.legal, Positioner.toUnknown, freshPositioner]

theorem startRecal (p : Positioner) (n : Nat) : (p.startRecal n).legal := by
  simp [Positioner.legal, Positioner.startRecal, Positioner.toUnknown, freshPositioner]

theorem fresh : freshPositioner.legal := by simp [Positioner.legal, freshPositioner]

theorem stepPulse (h : p.legal) (n : Nat) : (p.stepPulse n).legal := by
  simpa [Positioner.legal, Positioner.stepPulse] using h

/-- A move begins from a known cylinder (R29). -/
theorem moveTo (p : Positioner) (target : Nat) {c : Nat} (known : p.cylinder = some c) (cfg : ConfigRecord) :
    (p.moveTo target c cfg).legal := by
  have moving : (p.enterMoving target c cfg.headLoad).legal := by
    simp [Positioner.legal, Positioner.enterMoving, known]
  unfold Positioner.moveTo
  simp only
  split
  · exact moving
  · exact moving.stepPulse _

/-- A move ends ON-TRACK (R30). -/
theorem arrive (h : p.legal) (move : p.state = .moving ∨ p.state = .settling) :
    ({ p with state := .onTrack, target := none } : Positioner).legal := by
  obtain ⟨head, cylinder, -⟩ := h
  refine ⟨?_, ?_, by simp⟩
  · simpa using head.2 (by tauto)
  · simp only [reduceCtorEq, or_self, iff_false]
    rw [cylinder]
    rcases move with e | e <;> simp [e]

end Positioner.legal

/-! ### The conditions of the drives -/

@[simp] theorem State.failReaders_drives (s : State) (rs : List Reader) (c : Cause) : (s.failReaders rs c).drives = s.drives :=
  State.foldl_keeps (fun u => u.drives = s.drives) (fun u (rd : Reader) => u.answer rd.line rd.buf (.failed c))
    (fun _ _ h => h) rs s rfl

@[simp] theorem State.failCacheRead_drives (s : State) (d : DriveId) (c : Cause) (r : Request) :
    (s.failCacheRead d c r).drives = s.drives := by
  unfold State.failCacheRead
  split <;> simp

theorem State.prepareRegion_condition (s : State) (d : DriveId) :
    ((s.prepareRegion d).drive d).condition = (s.drive d).condition := by
  unfold State.prepareRegion
  split
  · have all : ((((s.modRegion d Region.dropValid).modQueue d fun q =>
        q.filter fun r => !(r.isCacheRead && r.state == .queued))).drive d).condition = (s.drive d).condition := by
      simp [State.drive_modQueue]
    have kept (xs : List Request) := State.foldl_keeps (fun u => (u.drive d).condition = (s.drive d).condition)
      (fun s r => s.failCacheRead d .removed r) (fun u r h => by rw [State.drive, State.failCacheRead_drives]; exact h) xs _
      all
    simp only
    split <;> exact kept _
  · rfl

theorem State.emptyTrack_drives (s : State) (d : DriveId) (c h : Nat) : (s.emptyTrack d c h).drives = s.drives := by
  unfold State.emptyTrack
  split <;> rfl

theorem State.writeThrough_drives (s : State) (d : DriveId) (r : Request) (data : List Byte) :
    (s.writeThrough d r data).drives = s.drives := by
  unfold State.writeThrough
  split <;> rfl

theorem State.dropHold_drives (s : State) (d : DriveId) (r : Request) : (s.dropHold d r).drives = s.drives := by
  unfold State.dropHold
  split <;> rfl

theorem State.dropHold_drive (s : State) (d e : DriveId) (r : Request) : (s.dropHold d r).drive e = s.drive e :=
  congrArg (·.get e) (s.dropHold_drives d r)

theorem State.leave_condition (s : State) (d : DriveId) : ((s.leave d).drive d).condition = (s.drive d).condition := by
  unfold State.leave
  split
  · rw [State.dropHold_drive, State.dropSelected, State.drive_modQueue, if_pos rfl]
  · rfl

theorem State.endGrant_condition (s : State) (d : DriveId) : ((s.endGrant d).drive d).condition = (s.drive d).condition := by
  rw [State.endGrant, State.drive_modPos, if_pos rfl]
  rfl

theorem State.opEnd_condition (s : State) (d : DriveId) : ((s.opEnd d).drive d).condition = (s.drive d).condition :=
  (State.leave_condition _ d).trans (s.endGrant_condition d)

namespace State.Keeps
variable {s t : State}

/-! ### Mounting -/

theorem beginMount (h : s.Keeps t) (d : DriveId) : s.Keeps (t.beginMount d) :=
  ((h.modVol d _).resetMargins d).placeVolume rfl (.inl ⟨rfl, rfl, .inl rfl⟩)

theorem mountReport (h : s.Keeps t) (d : DriveId) : s.Keeps (t.mountReport d) := by
  unfold State.mountReport
  split
  · exact h.beginMount d
  · exact h
  · exact h
  · exact h.offers d

theorem offerLoads (h : s.Keeps t) (d : DriveId) (p : Profile) : s.Keeps (t.offerLoads d p) := by
  have load {t : State} (h : s.Keeps t) (n : Nat) : s.Keeps (t.placeVolume d (loadRequest p n)) :=
    h.placeVolume rfl (.inl ⟨rfl, rfl, .inr (.inl rfl)⟩)
  unfold State.offerLoads
  simp only
  split
  · exact load h 0
  · exact load (load h 0) 1

theorem labelDone (h : s.Keeps t) (d : DriveId) (data : Option (List Byte)) : s.Keeps (t.labelDone d data) := by
  unfold State.labelDone
  split
  · exact h.modVol d _
  · simp only
    split
    · exact h.modVol d _
    · exact (h.modVol d _).offerLoads d _

theorem tryMountEnd (h : s.Keeps t) (d : DriveId) : s.Keeps (t.tryMountEnd d) := by
  unfold State.tryMountEnd
  split
  · exact h
  · split
    · exact (h.modVol d _).modRegion d _
    · exact h

theorem loadDone (h : s.Keeps t) (d : DriveId) (r : Request) (good : List Nat) : s.Keeps (t.loadDone d r good) := by
  unfold State.loadDone
  split
  · exact (h.modVol d _).tryMountEnd d
  · exact h

/-! ### Release and loss -/

theorem unloadIdle (h : s.Keeps t) (d : DriveId) : s.Keeps (t.unloadIdle d) := by
  unfold State.unloadIdle
  split
  · next e => exact h.modPos fun p => p.unloaded e.1
  · exact h

theorem releaseVolume (h : s.Keeps t) (d : DriveId) : s.Keeps (t.releaseVolume d) :=
  (((h.modVol d _).modRegion d _).volumeGone d).unloadIdle d

theorem answerEject (h : s.Keeps t) (p : Option PendingVolume) : s.Keeps (t.answerEject p) := by
  unfold State.answerEject
  split
  · exact h.answer _ _ _
  · exact h

theorem failPending (h : s.Keeps t) (c : Cause) (p : Option PendingVolume) : s.Keeps (t.failPending c p) := by
  unfold State.failPending
  split
  · exact h.answer _ _ _
  · exact h.answer _ _ _
  · exact h

theorem loseVolume (h : s.Keeps t) (d : DriveId) : s.Keeps (t.loseVolume d) :=
  ((h.modVol d _).foldl (fun _ _ h => h.loseWaiter _) _).failPending _ _

/-! ### Preparation -/

section
variable {d : DriveId}

theorem offerLabelWrite (h : s.Keeps t) (p : Profile) (fit : s.faultedQueues → (t.drive d).condition ≠ .faulted) :
    s.Keeps (t.offerLabelWrite d p) := by
  unfold State.offerLabelWrite
  split
  · exact (h.modVol d _).placeVolume rfl (.inr fit)
  · exact h

theorem offerIndexInit (h : s.Keeps t) (p : Profile) (j : Nat) (fit : s.faultedQueues → (t.drive d).condition ≠ .faulted) :
    s.Keeps (t.offerIndexInit d p j) := (h.modVol d _).placeVolume rfl (.inr fit)

theorem prepareEnd (h : s.Keeps t) (p : Profile) : s.Keeps (t.prepareEnd d p) := by
  unfold State.prepareEnd
  split
  · exact (h.answer _ _ _).beginMount d
  · exact h.beginMount d

theorem nextIndexInit (h : s.Keeps t) (p : Profile) (j : Nat) (fit : s.faultedQueues → (t.drive d).condition ≠ .faulted) :
    s.Keeps (t.nextIndexInit d p j) := by
  unfold State.nextIndexInit
  split
  · exact h.offerIndexInit p j fit
  · exact h.prepareEnd p

theorem afterFormat (h : s.Keeps t) (p : Profile) (c n : Nat) (fit : s.faultedQueues → (t.drive d).condition ≠ .faulted) :
    s.Keeps (t.afterFormat d p c n) := by
  unfold State.afterFormat
  simp only
  split
  · exact (h.modVol d _).placeVolume rfl (.inr fit)
  · exact (h.modVol d _).offerLabelWrite p fit

theorem prepareNext (h : s.Keeps t) (r : Request) (fit : s.faultedQueues → (t.drive d).condition ≠ .faulted) :
    s.Keeps (t.prepareNext d r) := by
  unfold State.prepareNext
  split
  · exact h
  · split
    · exact h.afterFormat _ _ _ fit
    · exact h.nextIndexInit _ _ fit
    · exact h.nextIndexInit _ _ fit
    · exact h

theorem prepareFailed (h : s.Keeps t) (d : DriveId) (c : Cause) : s.Keeps (t.prepareFailed d c) :=
  (h.modVol d _).failPending _ _

theorem beginPrepare (h : s.Keeps t) (l : Line) (b : BufId) (i : LabelInfo) (q : Quantized)
    (fit : s.faultedQueues → (t.drive d).condition ≠ .faulted) : s.Keeps (t.beginPrepare d l b i q) := by
  refine (((h.modVol d _).prepareRegion d).volumeGone d).placeVolume rfl (.inr fun x => ?_)
  exact (State.prepareRegion_condition _ d).trans_ne (fit x)

end

/-! ### Asking the channel, moves and recalibrations -/

theorem givenUp (h : s.Keeps t) (d : DriveId) (r : Request) : s.Keeps (t.givenUp d r) := by
  unfold State.givenUp
  split
  · exact (h.indexRemoved d _).emptyTrackIf _ d _ _
  · exact (h.prepareFailed d _).emptyTrackIf _ d _ _
  · exact (h.prepareFailed d _).emptyTrack d _ _
  · exact h.failRequest d _ _

theorem withdrawSelected (h : s.Keeps t) (d : DriveId) (r : Request) : s.Keeps (t.withdrawSelected d r) :=
  (((h.leave d).setAsking d _).setOp d _).givenUp d r

theorem ask (h : s.Keeps t) (d : DriveId) : s.Keeps (t.ask d) := by
  unfold State.ask
  split
  · split
    · exact h.withdrawSelected d _
    · exact h.setAsking d _
  · exact h

theorem beginMove (h : s.Keeps t) (d : DriveId) : s.Keeps (t.beginMove d) := by
  unfold State.beginMove
  simp only
  split
  · next known =>
    split
    · exact h.ask d
    · split
      · exact h.modPos fun _ => Positioner.legal.moveTo _ _ known _
      · exact h
  · exact h

theorem arrive (h : s.Keeps t) {d : DriveId} (move : (t.drive d).pos.state = .moving ∨ (t.drive d).pos.state = .settling) :
    s.Keeps (t.arrive d) := (h.modPos fun p => p.arrive move).ask d

theorem reportReady (h : s.Keeps t) (d : DriveId) : s.Keeps (t.reportReady d) := by
  unfold State.reportReady
  split
  · exact h
  · split
    · exact h.modCounts rfl rfl rfl rfl rfl
    · exact (h.modCounts rfl rfl rfl rfl rfl).mountReport d

theorem restedAtZero (h : s.Keeps t) (d : DriveId) (n : Nat) : s.Keeps (t.restedAtZero d n) :=
  ((h.modPos fun _ => Positioner.legal.atZero _ n).reportReady d).beginMove d

theorem recalibrate (h : s.Keeps t) (d : DriveId) : s.Keeps (t.recalibrate d) := by
  unfold State.recalibrate
  split
  · exact (h.modPos fun p => p).restedAtZero d _
  · exact h.modPos fun _ => Positioner.legal.startRecal _ _

theorem lostPosition (h : s.Keeps t) (d : DriveId) : s.Keeps (t.lostPosition d) :=
  (h.modPos fun _ => Positioner.legal.toUnknown _).recalibrate d

/-! ### Removal -/

theorem endGrant (h : s.Keeps t) (d : DriveId) : s.Keeps (t.endGrant d) :=
  (h.modChannel (.inl rfl)).modPos fun p => p

theorem abortChannel (h : s.Keeps t) (d : DriveId) : s.Keeps (t.abortChannel d) := by
  have start : s.Keeps (if t.channel.granted = some d then t.endGrant d else t) := by
    split
    · exact h.endGrant d
    · exact h
  exact (((start.unlearn d).setAsking d _).setOp d _).setSweepFlag d _

theorem removed (h : s.Keeps t) (d : DriveId) (c : DriveCondition) : s.Keeps (t.modDrive d fun u => u.removed c) :=
  h.modDrive ⟨id, fun _ => Nat.zero_le _, fun _ => Nat.zero_le _, fun _ _ _ _ hr => absurd hr List.not_mem_nil,
    fun _ => Positioner.legal.toUnknown _, rfl⟩

theorem removal (h : s.Keeps t) (d : DriveId) (c : DriveCondition) : s.Keeps (t.removal d c) := by
  unfold State.removal
  exact ((((h.abortChannel d).loseVolume d).withdraw d _ _).emptyRegion d).volumeGone d |>.removed d c

theorem takeOffline (h : s.Keeps t) (d : DriveId) : s.Keeps (t.takeOffline d) :=
  (h.removal d _).modPos fun _ => Positioner.legal.fresh

end State.Keeps

/-! ### A fault (R38, R39) -/

theorem State.modVol_modDrive (s : State) (d e : DriveId) (f : DriveSeq → DriveSeq) (g : Volume → Volume) :
    (s.modDrive d f).modVol e g = (s.modVol e g).modDrive d f := rfl

theorem State.modRegion_modDrive (s : State) (d e : DriveId) (f : DriveSeq → DriveSeq) (g : Region → Region) :
    (s.modDrive d f).modRegion e g = (s.modRegion e g).modDrive d f := rfl

theorem State.failReaders_modDrive (s : State) (d : DriveId) (f : DriveSeq → DriveSeq) (rs : List Reader) (c : Cause) :
    (s.modDrive d f).failReaders rs c = (s.failReaders rs c).modDrive d f := by
  induction rs generalizing s with
  | nil => rfl
  | cons r rs ih => exact ih (s.answer r.line r.buf (.failed c))

theorem State.emptyTrack_modDrive (s : State) (d e : DriveId) (f : DriveSeq → DriveSeq) (c h : Nat) :
    (s.modDrive d f).emptyTrack e c h = (s.emptyTrack e c h).modDrive d f := by
  unfold State.emptyTrack
  rw [State.modDrive_region]
  split <;> rfl

theorem State.failPending_modDrive (s : State) (d : DriveId) (f : DriveSeq → DriveSeq) (c : Cause)
    (p : Option PendingVolume) : (s.modDrive d f).failPending c p = (s.failPending c p).modDrive d f := by
  unfold State.failPending
  split <;> rfl

theorem State.prepareFailed_modDrive (s : State) (d e : DriveId) (f : DriveSeq → DriveSeq) (c : Cause) :
    (s.modDrive d f).prepareFailed e c = (s.prepareFailed e c).modDrive d f :=
  State.failPending_modDrive (s.modVol e fun v => v.toForeign .incomplete) d f c (s.vol e).pendingReq

theorem State.dropHold_modDrive (s : State) (d e : DriveId) (f : DriveSeq → DriveSeq) (r : Request) :
    (s.modDrive d f).dropHold e r = (s.dropHold e r).modDrive d f := by
  unfold State.dropHold
  split <;> rfl

theorem State.failRequest_modDrive (s : State) (d e : DriveId) (f : DriveSeq → DriveSeq) (c : Cause) (r : Request) :
    (s.modDrive d f).failRequest e c r = (s.failRequest e c r).modDrive d f := by
  unfold State.failRequest
  split
  · rfl
  · split
    · exact State.failReaders_modDrive (s.modRegion e fun g => g.unfilled _) d f _ c
    · rw [State.dropHold_modDrive]
      split
      · exact State.emptyTrack_modDrive (((s.dropHold e r).dropWaiter e _ _).answer _ _ _) d e f _ _
      · rfl
    · rfl
    · rfl
    · rfl
    · rfl

theorem State.restoreArea_modDrive (s : State) (d e : DriveId) (f : DriveSeq → DriveSeq) (r : Request) :
    (s.modDrive d f).restoreArea e r = (s.restoreArea e r).modDrive d f := by
  unfold State.restoreArea
  split <;> rfl

theorem State.dropVolumeRequest_modDrive (s : State) (d e : DriveId) (f : DriveSeq → DriveSeq) (r : Request) :
    (s.modDrive d f).dropVolumeRequest e r = (s.dropVolumeRequest e r).modDrive d f := by
  unfold State.dropVolumeRequest
  split
  · simp only
    split
    · exact State.emptyTrack_modDrive (s.indexRemoved e _) d e f _ _
    · rfl
  · simp only [State.prepareFailed_modDrive]
    split
    · exact State.emptyTrack_modDrive _ d e f _ _
    · rfl
  · rw [State.prepareFailed_modDrive]
    exact State.emptyTrack_modDrive _ d e f _ _
  · rfl

theorem State.failRequest_drives (s : State) (d : DriveId) (c : Cause) (r : Request) :
    (s.failRequest d c r).drives = s.drives := by
  unfold State.failRequest
  split
  · rfl
  · split
    · exact State.failReaders_drives _ _ _
    · have gone := s.dropHold_drives d r
      simp only
      split
      · exact (State.emptyTrack_drives _ _ _ _).trans gone
      · exact gone
    · rfl
    · rfl
    · rfl
    · rfl

theorem State.restoreArea_drives (s : State) (d : DriveId) (r : Request) : (s.restoreArea d r).drives = s.drives := by
  unfold State.restoreArea
  split <;> rfl

theorem State.failPending_drives (s : State) (c : Cause) (p : Option PendingVolume) :
    (s.failPending c p).drives = s.drives := by
  unfold State.failPending
  split <;> rfl

theorem State.dropVolumeRequest_drives (s : State) (d : DriveId) (r : Request) :
    (s.dropVolumeRequest d r).drives = s.drives := by
  have failed (c : Cause) : (s.prepareFailed d c).drives = s.drives := State.failPending_drives _ _ _
  unfold State.dropVolumeRequest
  split
  · simp only
    split
    · exact State.emptyTrack_drives _ _ _ _
    · rfl
  · simp only
    split
    · exact (State.emptyTrack_drives _ _ _ _).trans (failed _)
    · exact failed _
  · exact (State.emptyTrack_drives _ _ _ _).trans (failed _)
  · rfl

/-- A run of operations that each leave a drive sequencer's own state alone leaves it alone. -/
theorem State.foldl_modDrive {α : Type} {d : DriveId} {f : DriveSeq → DriveSeq} {g : State → α → State}
    (hg : ∀ s x, g (s.modDrive d f) x = (g s x).modDrive d f) (xs : List α) (s : State) :
    xs.foldl g (s.modDrive d f) = (xs.foldl g s).modDrive d f := by
  induction xs generalizing s with
  | nil => rfl
  | cons x xs ih => rw [List.foldl_cons, hg, ih, List.foldl_cons]

theorem State.modDrive_modDrive (s : State) (d : DriveId) (f g : DriveSeq → DriveSeq) :
    (s.modDrive d f).modDrive d g = s.modDrive d fun u => g (f u) := by
  rw [State.modDrive, State.drive_modDrive_self]
  simp only [State.modDrive, Vector.set_set]

/-- The requests that stay in the queue through a fault (R39). -/
def faultLeaves (q : List Request) : List Request :=
  ((q.filter fun r => r.origin == .volume).filter Request.survives).map Request.requeued

/-- The drive sequencer after a fault, its queue included (R38, R39). -/
def DriveSeq.afterFault (u : DriveSeq) (c : FaultCause) : DriveSeq := { u.faulted c with queue := faultLeaves u.queue }

/-- What a fault does outside the drive sequencer (R38, R39): the desks' requests are answered, the areas of the mount reads
restored, and the volume requests that go are dropped. -/
def State.faultAnswers (s : State) (d : DriveId) : State :=
  let a := s.abortChannel d
  let q := (a.drive d).queue
  let v := q.filter fun r => r.origin == .volume
  (v.filter fun r => !r.survives).foldl (fun s r => s.dropVolumeRequest d r)
    ((v.filter fun r => r.state != .queued).foldl (fun s r => s.restoreArea d r)
      ((q.filter fun r => r.origin != .volume).foldl (fun s r => s.failRequest d .driveFault r) a))

/-- The drive sequencer does not see what a fault does outside it. -/
theorem State.faultAnswers_drives (s : State) (d : DriveId) : (s.faultAnswers d).drives = (s.abortChannel d).drives := by
  have kept {g : State → Request → State} (hg : ∀ s r, (g s r).drives = s.drives) (xs : List Request) (t : State) :
      (xs.foldl g t).drives = t.drives :=
    State.foldl_keeps (fun u => u.drives = t.drives) g (fun u r h => (hg u r).trans h) xs t rfl
  exact (kept (fun s r => s.dropVolumeRequest_drives d r) _ _).trans
    ((kept (fun s r => s.restoreArea_drives d r) _ _).trans (kept (fun s r => s.failRequest_drives d _ r) _ _))

/-- A fault, taken apart: the drive sequencer changes once, after all the rest (R38, R39). -/
theorem State.fault_eq (s : State) (d : DriveId) (c : FaultCause) :
    s.fault d c = (s.faultAnswers d).modDrive d fun u => u.afterFault c := by
  have withdrawn : ((s.abortChannel d).modDrive d fun u => u.faulted c).withdraw d (fun _ => true) .driveFault
      = State.modDrive ((((s.abortChannel d).drive d).queue.filter fun r => r.origin != .volume).foldl
          (fun s r => s.failRequest d .driveFault r) (s.abortChannel d)) d
          fun u => { u.faulted c with queue := u.queue.filter fun r => r.origin == .volume } := by
    unfold State.withdraw State.modQueue
    simp only [State.modDrive_modDrive, State.drive_modDrive_self, Bool.and_true]
    rw [State.foldl_modDrive fun s x => s.failRequest_modDrive d d _ .driveFault x]
    simp [DriveSeq.faulted, bne]
  have drives (xs : List Request) :
      (xs.foldl (fun s r => s.failRequest d .driveFault r) (s.abortChannel d)).drives = (s.abortChannel d).drives :=
    State.foldl_keeps (fun u => u.drives = (s.abortChannel d).drives) _
      (fun u r h => (u.failRequest_drives d _ r).trans h) xs _ rfl
  unfold State.fault State.faultVolumeRequests State.faultAnswers State.modQueue
  simp only [withdrawn, State.drive_modDrive_self]
  rw [State.foldl_modDrive (g := fun s r => s.restoreArea d r) fun s x => s.restoreArea_modDrive d d _ x,
    State.modDrive_modDrive,
    State.foldl_modDrive (g := fun s r => s.dropVolumeRequest d r) fun s x => s.dropVolumeRequest_modDrive d d _ x]
  simp only [State.drive, drives]
  rfl

@[simp] theorem Request.requeued_origin (r : Request) : r.requeued.origin = r.origin := by
  unfold Request.requeued
  split <;> rfl

/-- What stays in the queue through a fault is QUEUED and a LABEL-READ, an index-load FILL or an INDEX-WRITE (R39). -/
theorem kept_of_mem_faultLeaves {q : List Request} {r : Request} (h : r ∈ faultLeaves q) : r.Kept := by
  simp only [faultLeaves, List.mem_map, List.mem_filter, beq_iff_eq] at h
  obtain ⟨x, ⟨⟨-, volume⟩, survives⟩, rfl⟩ := h
  have state : x.requeued.state = .queued := by
    unfold Request.requeued
    split
    · assumption
    · rfl
  have kind : x.requeued.kind = x.kind := by
    unfold Request.requeued
    split <;> rfl
  refine ⟨(Request.requeued_origin x).trans volume, state, ?_⟩
  rw [kind]
  unfold Request.survives at survives
  split at survives
  · exact .inl ‹_›
  · exact .inr (.inl ‹_›)
  · exact .inr (.inr ⟨_, ‹_›⟩)
  · cases survives

theorem DriveSeq.Keeps.afterFault {tracked : Prop} {n : Nat} (u : DriveSeq) (c : FaultCause) :
    u.Keeps tracked n (u.afterFault c) := by
  refine ⟨id, fun _ => ?_, fun h => ?_, fun _ _ _ _ => kept_of_mem_faultLeaves, fun _ => Positioner.legal.toUnknown _, rfl⟩
  · have none : ((faultLeaves u.queue).filter fun r => r.origin != .volume) = [] := by
      rw [List.filter_eq_nil_iff]
      intro r hr
      simp [(kept_of_mem_faultLeaves hr).1]
    simp [DriveSeq.deskPlaces, DriveSeq.afterFault, none]
  · refine le_trans ?_ h
    simp only [DriveSeq.volumePlaces, DriveSeq.afterFault]
    refine (List.length_filter_le _ _).trans ?_
    rw [faultLeaves, List.length_map]
    exact List.length_filter_le _ _

namespace State.Keeps
variable {s t : State}

theorem restoreArea (h : s.Keeps t) (d : DriveId) (r : Request) : s.Keeps (t.restoreArea d r) := by
  unfold State.restoreArea
  split
  · exact h.modVol d _
  · exact h.modVol d _
  · exact h

theorem dropVolumeRequest (h : s.Keeps t) (d : DriveId) (r : Request) : s.Keeps (t.dropVolumeRequest d r) := by
  unfold State.dropVolumeRequest
  split
  · exact (h.indexRemoved d _).emptyTrackIf _ d _ _
  · exact (h.prepareFailed d _).emptyTrackIf _ d _ _
  · exact (h.prepareFailed d _).emptyTrack d _ _
  · exact h

theorem faultAnswers (h : s.Keeps t) (d : DriveId) : s.Keeps (t.faultAnswers d) :=
  (((h.abortChannel d).foldl (fun _ _ h => h.failRequest d _ _) _).foldl (fun _ _ h => h.restoreArea d _) _).foldl
    (fun _ _ h => h.dropVolumeRequest d _) _

theorem fault (h : s.Keeps t) (d : DriveId) (c : FaultCause) : s.Keeps (t.fault d c) := by
  rw [State.fault_eq]
  exact (h.faultAnswers d).modDrive (.afterFault _ c)

/-! ### The conditions of a drive -/

/-- A drive takes another condition than FAULTED, with its queue and, but where it is legal anyhow, its positioner. -/
theorem setCondition (h : s.Keeps t) {d : DriveId} {f : DriveSeq → DriveSeq}
    (step : (f (t.drive d)).patternStep = (t.drive d).patternStep) (queue : (f (t.drive d)).queue = (t.drive d).queue)
    (condition : (f (t.drive d)).condition ≠ .faulted) (pos : (t.drive d).pos.legal → (f (t.drive d)).pos.legal)
    (levels : (f (t.drive d)).levels = (t.drive d).levels) : s.Keeps (t.modDrive d f) := by
  refine h.modDrive ⟨fun h => step ▸ h, fun h => ?_, fun h => ?_, fun _ _ c => absurd c condition, pos, congrArg _ levels⟩
  · rwa [DriveSeq.deskPlaces, queue]
  · rwa [DriveSeq.volumePlaces, queue]

theorem enterSpeedCheck (h : s.Keeps t) (d : DriveId) : s.Keeps (t.enterSpeedCheck d) := by
  have entered := h.setCondition (d := d)
    (f := fun u => { u with condition := .speedCheck, index := clearedTiming, noIndexTimer := true })
    rfl rfl (fun e => nomatch e) id rfl
  unfold State.enterSpeedCheck
  simp only
  split
  · exact entered.fault d _
  · exact entered

theorem enterReady (h : s.Keeps t) (d : DriveId) : s.Keeps (t.enterReady d) := by
  have entered := h.setCondition (d := d) (f := fun u =>
    { u with condition := .ready, noIndexTimer := false, reportDue := true, reportHeld := false, pos := u.pos.toUnknown })
    rfl rfl (fun e => nomatch e) (fun _ => Positioner.legal.toUnknown _) rfl
  unfold State.enterReady
  simp only
  split
  · exact entered.fault d _
  · exact entered.recalibrate d

theorem enterByReady (h : s.Keeps t) (d : DriveId) : s.Keeps (t.enterByReady d) := by
  unfold State.enterByReady
  split
  · exact h.enterSpeedCheck d
  · exact h.setCondition rfl rfl (fun e => nomatch e) id rfl

end State.Keeps
end Sys2Proof.Machine
end

section
/-! SUPPORT. The promises through the selection, the ends of an operation and the events of the read/write channel. -/
namespace Sys2Proof.Machine

theorem selectAt_origin (limit n : Nat) (q : List Request) :
    (selectAt limit n q).map Request.origin = q.map Request.origin := by
  induction q generalizing n with
  | nil => cases n <;> rfl
  | cons r q ih =>
    cases n with
    | zero => rfl
    | succ n =>
      simp only [selectAt, List.map_cons, ih]
      split <;> rfl

/-- The places that requests hold are a matter of their origins. -/
theorem countPlaces_eq {q q' : List Request} (h : q'.map Request.origin = q.map Request.origin) (p : Origin → Bool) :
    (q'.filter fun r => p r.origin).length = (q.filter fun r => p r.origin).length := by
  have key (q : List Request) : (q.filter fun r => p r.origin).length = ((q.map Request.origin).filter p).length := by
    rw [List.filter_map, List.length_map]
    rfl
  rw [key, key, h]

theorem DriveSeq.Keeps.took {tracked : Prop} {n : Nat} {u : DriveSeq} (ready : u.condition ≠ .faulted) (limit : Nat)
    (c : Choice) : u.Keeps tracked n (u.took limit c) :=
  ⟨id, ((countPlaces_eq (selectAt_origin limit c.index u.queue) (· != .volume)).trans_le ·),
    ((countPlaces_eq (selectAt_origin limit c.index u.queue) (· == .volume)).trans_le ·),
    fun _ _ e => absurd e ready, id, rfl⟩

/-- The checks of R56 let a gate open. -/
theorem State.gateCheck_opens {s : State} {d : DriveId} (h : s.gateCheck d = .opens) :
    s.part.drainOver = false ∧ (s.drive d).levels.writeProtect = false ∧ s.channel.inhibit = false := by
  unfold State.gateCheck at h
  repeat' split at h
  all_goals simp_all

theorem State.countWrite_drives (s : State) (o : OpRecord) : (s.countWrite o).drives = s.drives := by
  unfold State.countWrite
  split <;> rfl

namespace State.Keeps
variable {s t : State} {d : DriveId}

theorem select (h : s.Keeps t) (d : DriveId) (us : Nat) : s.Keeps (t.select d us) := by
  unfold State.select
  split
  · next may =>
    have ready : (t.drive d).condition ≠ .faulted := by
      simp only [DriveSeq.maySelect, Bool.and_eq_true, beq_iff_eq] at may
      simp [may.1.2]
    split
    · exact (h.modDrive (.took ready _ _)).beginMove d
    · exact h
  · exact h

/-! ### The end of an operation -/

theorem opEnd (h : s.Keeps t) (d : DriveId) : s.Keeps (t.opEnd d) := ((h.endGrant d).setOp d none).leave d

/-- A drive that is not FAULTED is not so after the end of its operation. -/
theorem fit_opEnd (fit : s.faultedQueues → (t.drive d).condition ≠ .faulted) :
    s.faultedQueues → ((t.opEnd d).drive d).condition ≠ .faulted := fun x => (t.opEnd_condition d).trans_ne (fit x)

theorem deskWritten (h : s.Keeps t) (l : Line) (b : BufId) (ext : Option WriteBack) (rec : Bool) :
    s.Keeps (t.deskWritten d l b ext rec) := by
  unfold State.deskWritten
  split
  · exact h.answer _ _ _
  · exact h.answer _ _ _
  · exact h.answer _ _ _
  · exact h.modVol d _

theorem writeSucceeded (h : s.Keeps t) (r : Request) (o : OpRecord)
    (fit : s.faultedQueues → (t.drive d).condition ≠ .faulted) : s.Keeps (t.writeSucceeded d r o) := by
  have ended := (h.writeThrough d r (t.sectorData d r o)).opEnd d
  unfold State.writeSucceeded
  simp only
  split
  · exact ended.deskWritten _ _ _ _
  · exact (ended.indexWritten d _).offers d
  · refine ended.prepareNext r (fit_opEnd fun x => ?_)
    rw [State.drive, State.writeThrough_drives]
    exact fit x
  · exact ended

theorem formatSucceeded (h : s.Keeps t) (r : Request) (fit : s.faultedQueues → (t.drive d).condition ≠ .faulted) :
    s.Keeps (t.formatSucceeded d r) := by
  refine ((h.opEnd d).emptyTrack d _ _).prepareNext r fun x => ?_
  rw [State.drive, State.emptyTrack_drives]
  exact fit_opEnd fit x

theorem opFailed (h : s.Keeps t) (d : DriveId) (r : Request) (c : Cause) : s.Keeps (t.opFailed d r c) := by
  have ended := (h.countCheck c).opEnd d
  unfold State.opFailed
  simp only
  split
  · exact ((ended.indexFaulted d _).emptyTrack d _ _).offers d
  · exact (ended.prepareFailed d _).emptyTrack d _ _
  · exact (ended.prepareFailed d _).emptyTrack d _ _
  · exact ended.failRequest d _ _

theorem fillEnd (h : s.Keeps t) (d : DriveId) (r : Request) (o : OpRecord) : s.Keeps (t.fillEnd d r o) := by
  have ended := (h.countFailed o.failing.length).opEnd d
  unfold State.fillEnd
  simp only
  split
  · exact ended.fillDone d r _ _ _
  · exact ended.labelDone d _
  · exact ended.loadDone d r _
  · exact ended

theorem seekFailed (h : s.Keeps t) (d : DriveId) (r : Request) : s.Keeps (t.seekFailed d r) := by
  unfold State.seekFailed
  split
  · exact (h.opEnd d).fillFailed d _ _
  · exact (h.opEnd d).labelDone d _
  · exact (h.opEnd d).loadDone d r _
  · exact h.opFailed d r _

/-- The selected request takes another state. -/
theorem setState (h : s.Keeps t) (d : DriveId) (x : ReqState) :
    s.Keeps (t.modSelected d fun r => { r with state := x }) := h.modSelected fun _ => rfl

theorem suspend (h : s.Keeps t) (d : DriveId) (r : Request) : s.Keeps (t.suspend d r) := by
  unfold State.suspend
  simp only
  split
  · exact (h.endGrant d).withdrawSelected d r
  · exact ((h.endGrant d).setState d _).setAsking d _

theorem checkFailed (h : s.Keeps t) (d : DriveId) (r : Request) (o : OpRecord) : s.Keeps (t.checkFailed d r o) := by
  unfold State.checkFailed
  split
  · exact h.opFailed d r _
  · split
    · exact h.suspend d r
    · exact h.startAttempt _ _ _ _ _

/-! ### The ladder -/

theorem releaseStep3 (h : s.Keeps t) (d : DriveId) (o : OpRecord) : s.Keeps (t.releaseStep3 d o) :=
  (((h.endGrant d).setOp d _).setState d _).lostPosition d

theorem step2 (h : s.Keeps t) (d : DriveId) (r : Request) (o : OpRecord) (tried : Option Strobe) :
    s.Keeps (t.step2 d r o tried) := by
  unfold State.step2
  split
  · exact h.startAttempt _ _ _ _ _
  · exact h.releaseStep3 d o

theorem ladderEnd (h : s.Keeps t) (d : DriveId) (r : Request) (o : OpRecord) : s.Keeps (t.ladderEnd d r o) := by
  unfold State.ladderEnd
  split
  · exact h.fillEnd d r o
  · split
    · exact (h.countFailed 1).opFailed d r _
    · exact h.opFailed d r _

theorem ladderNext (h : s.Keeps t) (d : DriveId) (r : Request) (o : OpRecord) : s.Keeps (t.ladderNext d r o) := by
  unfold State.ladderNext
  split
  · exact h.startAttempt _ _ _ _ _
  · exact h.step2 _ _ _ _
  · exact h.step2 _ _ _ _
  · exact h.ladderEnd d r o

theorem endPass (h : s.Keeps t) (d : DriveId) (r : Request) (o : OpRecord) : s.Keeps (t.endPass d r o) := by
  unfold State.endPass
  simp only
  split
  · exact h.fillEnd d r _
  · exact h.ladderNext d r _

/-! ### The grant and the gate -/

/-- The channel is granted while it is granted to no drive. -/
theorem grantTo (h : s.Keeps t) (free : t.channel.granted = none) (d : DriveId) :
    s.Keeps (t.modChannel fun c => { c with granted := some d, last := d }) := by
  have gate := fun x => (h.gate x).resolve_right fun ⟨_, _, granted, _⟩ => nomatch free.symm.trans granted
  exact ⟨h.steps, h.claims, h.memory, h.queues, h.faults, h.heads, h.replies, fun x l a => (h.desks x l a).of_eq rfl rfl,
    fun x => .inl (gate x)⟩

theorem grant (h : s.Keeps t) (free : t.channel.granted = none) (d : DriveId) (r : Request) : s.Keeps (t.grant d r) := by
  have served := ((h.grantTo free d).setAsking d false).modSelected (d := d) (f := t.serviced d) fun _ => rfl
  exact (served.modPos (d := d) (f := fun p => { p with unload := 0 }) id).startAttempt _ _ _ _ _

/-- A gate opens that is free to. -/
theorem openGate (h : s.Keeps t) (granted : t.channel.granted = some d) (drain : t.part.drainOver = false)
    (protect : (t.drive d).levels.writeProtect = false) (inhibit : t.channel.inhibit = false) (r : Request) (x : ChanState)
    (items : List TrackItem) : s.Keeps (t.openGate r x items) :=
  ⟨h.steps, h.claims, h.memory, h.queues, h.faults, h.heads, h.replies, fun x l a => (h.desks x l a).of_eq rfl rfl,
    fun _ => .inr ⟨inhibit, d, granted, protect, drain⟩⟩

theorem sectorGate (h : s.Keeps t) (granted : t.channel.granted = some d) (r : Request) (o : OpRecord) :
    s.Keeps (t.sectorGate d r o) := by
  unfold State.sectorGate
  split
  · exact h
  · exact h.opFailed d r _
  · exact h.suspend d r
  · next opens =>
    obtain ⟨drain, protect, inhibit⟩ := State.gateCheck_opens opens
    unfold State.takeImage
    simp only
    split
    · split
      · exact ((h.setOp d _).coverSector d _).openGate granted drain protect inhibit _ _ _
      · exact h.openGate granted drain protect inhibit _ _ _
    · exact h.openGate granted drain protect inhibit _ _ _

theorem formatGate (h : s.Keeps t) (granted : t.channel.granted = some d) (r : Request) : s.Keeps (t.formatGate d r) := by
  unfold State.formatGate
  split
  · exact h
  · exact h.opFailed d r _
  · exact h.suspend d r
  · next opens =>
    obtain ⟨drain, protect, inhibit⟩ := State.gateCheck_opens opens
    exact h.openGate granted drain protect inhibit _ _ _

theorem endUnreported (h : s.Keeps t) (d : DriveId) : s.Keeps (t.endUnreported d) := (h.endGrant d).setOp d none

theorem formatCut (h : s.Keeps t) (d : DriveId) (r : Request) : s.Keeps (t.formatCut d r) := by
  unfold State.formatCut
  split
  · exact h.closeGate.endUnreported d
  · exact h.closeGate.suspend d r

theorem cutInGap (h : s.Keeps t) (us : Nat) : s.Keeps (t.cutInGap us) := by
  unfold State.cutInGap
  split
  · split
    · exact h.formatCut _ _
    · exact h
  · exact h

theorem sectorWritten (h : s.Keeps t) (r : Request) (o : OpRecord)
    (fit : s.faultedQueues → (t.drive d).condition ≠ .faulted) : s.Keeps (t.sectorWritten d r o) := by
  have closed := h.closeGate.countWrite o
  unfold State.sectorWritten
  simp only
  split
  · exact closed.endUnreported d
  · split
    · exact closed.startAttempt _ _ _ _ _
    · refine closed.writeSucceeded r _ fun x => ?_
      rw [State.drive, State.countWrite_drives]
      exact fit x

/-! ### Sweeps and formats -/

theorem sweepEnd (h : s.Keeps t) (d : DriveId) (r : Request) (o : OpRecord) (cs : List (Strobe × Nat)) :
    s.Keeps (t.sweepEnd d r o cs) := by
  have ended := ((h.opEnd d).setMargin d o.zone (preferring (clampStrobe t.cfg.strobeMin t.cfg.strobeMax (bestStrobe cs)))).setSweepFlag
    d false
  unfold State.sweepEnd
  simp only
  split
  · exact ended.answer _ _ _
  · exact ended

theorem sweepNext (h : s.Keeps t) (d : DriveId) (r : Request) (o : OpRecord) (cs : List (Strobe × Nat)) :
    s.Keeps (t.sweepNext d r o cs) := by
  unfold State.sweepNext
  split
  · exact h.sweepEnd d r o cs
  · exact (h.setOp d _).chanState _

theorem sweepPulse (h : s.Keeps t) (d : DriveId) (r : Request) (o : OpRecord) : s.Keeps (t.sweepPulse d r o) := by
  unfold State.sweepPulse
  split
  · exact h.sweepNext d r o _
  · exact h.sweepNext d r o _

theorem formatWritten (h : s.Keeps t) (r : Request) (o : OpRecord)
    (fit : s.faultedQueues → (t.drive d).condition ≠ .faulted) : s.Keeps (t.formatWritten d r o) := by
  have closed := h.closeGate.countWrite o
  unfold State.formatWritten
  simp only
  split
  · exact h.formatCut d r
  · split
    · exact closed.startAttempt _ _ _ _ _
    · refine closed.formatSucceeded r fun x => ?_
      rw [State.drive, State.countWrite_drives]
      exact fit x

theorem formatChecked (h : s.Keeps t) (granted : t.channel.granted = some d) (r : Request) (o : OpRecord)
    (fit : s.faultedQueues → (t.drive d).condition ≠ .faulted) : s.Keeps (t.formatChecked d r o) := by
  unfold State.formatChecked
  split
  · exact h.formatSucceeded r fit
  · split
    · exact h.opFailed d r _
    · exact h.formatGate granted r

theorem formatPulse (h : s.Keeps t) (granted : t.channel.granted = some d) (r : Request) (o : OpRecord)
    (fit : s.faultedQueues → (t.drive d).condition ≠ .faulted) : s.Keeps (t.formatPulse d r o) := by
  unfold State.formatPulse
  split
  · exact h.formatGate granted r
  · exact h.formatWritten r o fit
  · exact h.formatChecked granted r o fit
  · exact h

theorem channelPulse (h : s.Keeps t) (d : DriveId) : s.Keeps (t.channelPulse d) := by
  unfold State.channelPulse
  split
  · exact h
  · next v serves =>
    have serving := State.Serving.of_service serves
    have fit := h.notFaulted serving.selected
    split
    · exact h
    · next same =>
      obtain rfl := Decidable.not_not.1 same
      split
      · exact h.formatPulse serving.granted _ _ fit
      · split
        · exact h.sweepPulse _ _ _
        · split
          · exact h
          · exact h.setOp _ _

/-! ### ID fields -/

theorem seekFault (h : s.Keeps t) (d : DriveId) (r : Request) (o : OpRecord) : s.Keeps (t.seekFault d r o) := by
  have counted := h.modChannel (f := fun c => { c with seekFaults := bump c.seekFaults }) (.same rfl rfl rfl)
  unfold State.seekFault
  simp only
  split
  · exact (counted.opFailed d r _).lostPosition d
  · split
    · exact counted.setOp d _
    · split
      · exact counted.checkFailed d r o
      · split
        · exact counted.seekFailed d r
        · split
          · split
            · exact counted.fillEnd d r _
            · exact counted.releaseStep3 d _
          · exact counted.releaseStep3 d o

theorem wrongId (h : s.Keeps t) (d : DriveId) (r : Request) (o : OpRecord) : s.Keeps (t.wrongId d r o) := by
  unfold State.wrongId
  simp only
  split
  · exact (h.setOp d _).seekFault d r _
  · exact h.setOp d _

theorem passId (h : s.Keeps t) (d : DriveId) (r : Request) (o : OpRecord) (k : Nat) : s.Keeps (t.passId d r o k) := by
  unfold State.passId
  split
  · exact (h.setOp d _).chanState _
  · split
    · exact h.endPass d r o
    · split
      · exact h
      · exact h.setOp d _

theorem soughtId (h : s.Keeps t) (granted : t.channel.granted = some d) (r : Request) (o : OpRecord) (k : Nat) :
    s.Keeps (t.soughtId d r o k) := by
  unfold State.soughtId
  simp only
  split
  · exact h.setOp d _
  · split
    · exact (h.setOp d _).chanState _
    · exact (h.setOp d _).sectorGate granted r _

theorem namedId (h : s.Keeps t) (granted : t.channel.granted = some d) (r : Request) (o : OpRecord) (k : Nat) :
    s.Keeps (t.namedId d r o k) := by
  have fill : s.Keeps (if o.inPass then t.passId d r o k
      else if o.failing.contains k then (t.setOp d (some { o with awaiting := some k })).chanState .read else t) := by
    split
    · exact h.passId d r o k
    · split
      · exact (h.setOp d _).chanState _
      · exact h
  unfold State.namedId
  split
  · exact fill
  · exact fill
  · exact fill
  · split
    · exact h.setOp d _
    · exact h
  · split
    · exact h.setOp d _
    · exact h
  · split
    · exact h.soughtId granted r o k
    · exact h

theorem idField (h : s.Keeps t) (f : IdField) : s.Keeps (t.idField f) := by
  unfold State.idField
  split
  · exact h
  · next v serves =>
    have serving := State.Serving.of_service serves
    split
    · split
      · exact h
      · split
        · split
          · exact h.setOp _ _
          · exact h
        · exact h.wrongId _ _ _
        · exact (h.setOp _ _).namedId serving.granted _ _ _
    · exact h

/-! ### Data fields -/

theorem putFill (h : s.Keeps t) (d : DriveId) (r : Request) (k : Nat) (data : List Byte) : s.Keeps (t.putFill d r k data) := by
  unfold State.putFill
  split
  · exact h.putFrame _ _ _ _ _
  · exact h.modVol d _
  · exact h.modVol d _
  · exact h

theorem fillGood (h : s.Keeps t) (d : DriveId) (r : Request) (o : OpRecord) (k : Nat) (data : List Byte) :
    s.Keeps (t.fillGood d r o k data) := by
  unfold State.fillGood
  simp only
  have put := (h.putFill d r k data).setOp d (some { o with
    notes := o.notes.set (k - 1) .good, failing := o.failing.filter (· != k),
    recovered := if o.step.recovers then o.recovered ++ [k] else o.recovered })
  split
  · exact put
  · split
    · exact ((put.countRecovered _).learn d r _).fillEnd d r _
    · exact ((put.countRecovered _).learn d r _).chanState _

theorem fillBad (h : s.Keeps t) (d : DriveId) (o : OpRecord) (k : Nat) : s.Keeps (t.fillBad d o k) := by
  unfold State.fillBad
  simp only
  split
  · exact h.setOp d _
  · exact (h.setOp d _).chanState _

theorem readDone (h : s.Keeps t) (d : DriveId) (r : Request) (o : OpRecord) (f : DataField) : s.Keeps (t.readDone d r o f) := by
  have ended := ((h.countRecovered o).learn d r o).opEnd d
  unfold State.readDone
  simp only
  split
  · exact ended.answer _ _ _
  · exact ended.answer _ _ _
  · exact ended

theorem dataResult (h : s.Keeps t) (v : Service) (k : Nat) (field : Option DataField)
    (fit : s.faultedQueues → (t.drive v.d).condition ≠ .faulted) : s.Keeps (t.dataResult v k field) := by
  have none := h.setOp v.d (some { v.op with awaiting := none })
  unfold State.dataResult
  simp only
  split
  · exact h.setOp _ _
  · exact h.setOp _ _
  · exact h.setOp _ _
  · exact none
  · exact none.fillGood _ _ _ _ _
  · exact none.fillGood _ _ _ _ _
  · exact none.fillGood _ _ _ _ _
  · exact none.fillBad _ _ _
  · exact none.fillBad _ _ _
  · exact none.fillBad _ _ _
  · exact none.readDone _ _ _ _
  · exact none.readDone _ _ _ _
  · exact none.chanState _
  · exact none.chanState _
  · exact none.writeSucceeded _ _ fit
  · exact none.checkFailed _ _ _

theorem awaited (h : s.Keeps t) {x : Service × Nat} (found : t.awaited = some x) :
    s.faultedQueues → (t.drive x.1.d).condition ≠ .faulted := by
  unfold State.awaited at found
  split at found
  · cases found
  · next v serves =>
    split at found
    · split at found
      · cases found
        exact h.notFaulted (State.Serving.of_service serves).selected
      · cases found
    · cases found

theorem dataMissing (h : s.Keeps t) : s.Keeps t.dataMissing := by
  unfold State.dataMissing
  split
  · next found => exact h.dataResult _ _ _ (h.awaited found)
  · exact h

theorem dataField (h : s.Keeps t) (f : DataField) : s.Keeps (t.dataField f) := by
  unfold State.dataField
  split
  · next found => exact h.dataResult _ _ _ (h.awaited found)
  · exact h

theorem idMark (h : s.Keeps t) (f : IdField) : s.Keeps (t.idMark f) := by
  unfold State.idMark
  split
  · exact h.dataMissing.idField f
  · exact h

/-! ### The end of an attempt -/

theorem attemptOver (h : s.Keeps t) (v : Service) : s.Keeps (t.attemptOver v) := by
  unfold State.attemptOver
  split
  · exact h.endPass _ _ _
  · split
    · exact h.checkFailed _ _ _
    · exact h.ladderNext _ _ _

theorem cutShort (h : s.Keeps t) : s.Keeps t.cutShort := by
  unfold State.cutShort
  split
  · exact h
  · next v serves =>
    split
    · split
      · exact h.dataResult _ _ _ (h.notFaulted (State.Serving.of_service serves).selected)
      · exact h
    · exact h

theorem attemptEnd (h : s.Keeps t) : s.Keeps t.attemptEnd := by
  unfold State.attemptEnd
  simp only
  split
  · exact h.cutShort
  · split
    · exact h.cutShort.attemptOver _
    · exact h.cutShort

end State.Keeps
end Sys2Proof.Machine
end

section
/-! SUPPORT. The promises through the requests of the desks. -/
namespace Sys2Proof.Machine

/-- A request whose desk is there has not lost it. -/
theorem State.not_deskGone {s : State} {l : Line} {b : BufId} {h : Held} (held : s.buffer l b = some h)
    (owned : h.orphan = false) : ¬ s.DeskGone l :=
  fun gone => nomatch owned.symm.trans (gone.buffers b h held).2

/-- The request handed to its owner stands in its buffer, taken. -/
theorem State.buffer_markTaken {s : State} {l : Line} {b : BufId} {code : Byte} {h : Held} (e : s.handed l b code = some h) :
    (s.markTaken l b).buffer l b = some { h with taken := true } := by
  unfold State.handed at e
  split at e
  · next held =>
    split at e
    · cases e
      have held : (s.line l).bufs.get b = some h := held
      simp [State.buffer, State.markTaken, held]
    · cases e
  · cases e

theorem Origin.desk_ne (l : Line) : Origin.desk l ≠ .volume := nofun

namespace State.Keeps
variable {s t : State}

/-! ### What the requests have in common -/

/-- A request command that finds its request, `x`, its desk being there unless the request is an orphan. -/
theorem onRequest (h : s.Keeps t) {l : Line} {b : BufId} {code : Byte} {f : Held → State → State}
    (hf : ∀ x u, s.Keeps u → (x.orphan = false → ¬ u.DeskGone l) → s.Keeps (f x u)) : s.Keeps (t.onRequest l b code f) := by
  unfold State.onRequest
  split
  · next x found =>
    exact hf x _ (h.markTaken l b) fun owned => State.not_deskGone (State.buffer_markTaken found) owned
  · exact h

/-- A request that names a drive: it passes the gate or is refused (R112, R41). -/
theorem gated (h : s.Keeps t) {l : Line} {b : BufId} {body : List Byte} {g : Group} {work : Bool}
    {f : DriveId → State → State} (hf : ∀ d, t.gateReason d g work = none → s.Keeps (f d t)) :
    s.Keeps (t.gated l b body g work f) := by
  unfold State.gated
  split
  · exact h.answer _ _ _
  · split
    · exact h.answer _ _ _
    · next admitted => exact hf _ admitted

/-- A request that places work is refused on a FAULTED drive (R41). -/
theorem admitted {d : DriveId} {g : Group} (e : t.gateReason d g true = none) :
    s.faultedQueues → (t.drive d).condition ≠ .faulted := by
  intro _ faulted
  simp [State.gateReason, faulted, DriveCondition.refusesWork] at e

theorem onStory (h : s.Keeps t) {l : Line} {b : BufId} {body : List Byte} {g : Group}
    {f : DriveId → Profile → Nat → Entry → State → State}
    (hf : ∀ d p n e, (s.faultedQueues → (t.drive d).condition ≠ .faulted) → s.Keeps (f d p n e t)) :
    s.Keeps (t.onStory l b body g f) := by
  refine h.gated fun d e => ?_
  split
  · exact h.answer _ _ _
  · split
    · exact h.answer _ _ _
    · exact hf d _ _ _ (admitted e)

theorem unlessClaimed (h : s.Keeps t) {l : Line} {b : BufId} {d : DriveId} {n : Nat} {f : State → State}
    (hf : s.Keeps (f t)) : s.Keeps (t.unlessClaimed l b d n f) := by
  unfold State.unlessClaimed
  split
  · split
    · exact hf
    · exact h.answer _ _ _
  · exact hf

theorem ifHolder (h : s.Keeps t) {l : Line} {b : BufId} {d : DriveId} {n : Nat} {f : State → State}
    (hf : s.Keeps (f t)) : s.Keeps (t.ifHolder l b d n f) := by
  unfold State.ifHolder
  split
  · exact hf
  · exact h.answer _ _ _

theorem freeOwn (h : s.Keeps t) (d : DriveId) (n : Nat) (l : Line) : s.Keeps (t.freeOwn d n l) := by
  unfold State.freeOwn
  split
  · exact h.freeClaim d n l
  · exact h

theorem awaitChange (h : s.Keeps t) (d : DriveId) (p : Profile) (n : Nat) (l : Line) (b : BufId) (c : Bool) :
    s.Keeps (t.awaitChange d p n l b c) := (h.await d _).offers d

/-! ### Claims and watches -/

theorem openAt (h : s.Keeps t) (l : Line) (b : BufId) (d : DriveId) (n : Nat) (here : ¬ t.DeskGone l) :
    s.Keeps (t.openAt l b d n) := by
  unfold State.openAt
  split
  · exact h.answer _ _ _
  · split
    · exact h.answer _ _ _
    · split
      · split <;> exact h.answer _ _ _
      · split
        · next room =>
          exact (h.modClaims (f := fun c => c.grant d _ n l)
            ((ClaimUnit.Keeps.refl _ _).grant d _ n room fun w => here w.1)).answer _ _ _
        · exact h.answer _ _ _

theorem watchSetAt (h : s.Keeps t) (l : Line) (b : BufId) (w : WatchSpec) (here : ¬ t.DeskGone l) :
    s.Keeps (t.watchSetAt l b w) := by
  unfold State.watchSetAt
  split
  · exact h.answer _ _ _
  · split
    · exact h.answer _ _ _
    · next n _ =>
      exact (h.modClaims (f := fun c => c.setWatch l n (.armed w))
        ((ClaimUnit.Keeps.refl _ _).setWatch l n (.inr fun v => here v.1))).answer _ _ _

theorem clearWatch (h : s.Keeps t) (l : Line) (b : BufId) (n : Fin 4) (discard : Bool) :
    s.Keeps (t.clearWatch l b n discard) := by
  unfold State.clearWatch
  simp only
  split
  · exact h.answer _ _ _
  · next used =>
    exact (h.modClaims (f := fun c => c.setWatch l n _)
      ((ClaimUnit.Keeps.refl _ _).setWatch l n (.inr fun v => used (v.2.watches n)))).answer _ _ _

theorem clearBroken (h : s.Keeps t) (l : Line) (b : BufId) : s.Keeps (t.clearBroken l b) :=
  (h.modClaims (f := fun c => { c with broken := c.broken.set l.val none l.isLt })
    ((ClaimUnit.Keeps.refl _ _).setBroken l (.inl rfl))).answer _ _ _

/-! ### Stories -/

theorem createAt (h : s.Keeps t) (d : DriveId) (p : Profile) (n : Nat) {l : Line} (b : BufId) {orphan : Bool}
    (slug : List Byte) (basket priority : Nat) (room : t.cw.hasRoom l = true) (here : orphan = false → ¬ t.DeskGone l) :
    s.Keeps (t.createAt d p n l b orphan slug basket priority) := by
  have made := h.changeEntry d p n (newEntry slug basket priority t.clock l)
  unfold State.createAt
  simp only
  split
  · exact (made.raiseEvent _ _ _ _ _).awaitChange _ _ _ _ _ _
  · next owned =>
    refine ((made.modClaims (f := fun c => c.grant d _ n l) ?_).raiseEvent _ _ _ _ _).awaitChange _ _ _ _ _ _
    exact (ClaimUnit.Keeps.refl _ _).grant d _ n room fun w =>
      here (Bool.eq_false_iff.2 owned) (w.1.of_eq rfl rfl)

theorem placeWrite (h : s.Keeps t) {d : DriveId} {l : Line} {b : BufId} {f : State → State}
    (hf : (t.drive d).deskFull = false → s.Keeps (f t)) : s.Keeps (t.placeWrite d l b f) := by
  unfold State.placeWrite
  split
  · exact h.answer _ _ _
  · split
    · exact h.refusePlace _ _ _
    · next room => exact hf (Bool.eq_false_iff.2 room)

theorem extendAt (h : s.Keeps t) {d : DriveId} (p : Profile) (n : Nat) (e : Entry) (l : Line) (b : BufId) (g : Nat)
    (es : List Extent) (block : Nat) (room : (t.drive d).deskFull = false)
    (fit : s.faultedQueues → (t.drive d).condition ≠ .faulted) : s.Keeps (t.extendAt d p n e l b g es block) := by
  unfold State.extendAt
  split
  · exact h.answer _ _ _
  · exact ((((h.modVol d _).changeEntry d p n _).placeDesk room (Origin.desk_ne l) fit).await d _).offers d

theorem writeAt (h : s.Keeps t) {d : DriveId} (p : Profile) (n : Nat) (e : Entry) (l : Line) (b : BufId) (block : Nat)
    (fit : s.faultedQueues → (t.drive d).condition ≠ .faulted) : s.Keeps (t.writeAt d p n e l b block) := by
  unfold State.writeAt
  split
  · split
    · exact h.answer _ _ _
    · exact h.placeWrite fun room => h.extendAt _ _ _ _ _ _ _ _ room fit
  · split
    · exact h.answer _ _ _
    · exact h.placeWrite fun room => h.placeDesk room (fun e => nomatch e) fit

theorem fileAt (h : s.Keeps t) (d : DriveId) (p : Profile) (n : Nat) (e : Entry) (l : Line) (b : BufId) (length : Nat)
    (release : Bool) : s.Keeps (t.fileAt d p n e l b length release) := by
  have filed := (((h.changeEntry d p n (filedEntry p e (min length (p.storyCapacity e)) t.clock l)).releaseGranules d p
    ((extentGranules e.extents).drop (neededGranules p (min length (p.storyCapacity e))))).raiseEvent .filed d n e.basket l)
  unfold State.fileAt
  simp only
  split
  · exact (filed.freeClaim d n l).awaitChange _ _ _ _ _ _
  · exact filed.awaitChange _ _ _ _ _ _

theorem moveAt (h : s.Keeps t) (d : DriveId) (p : Profile) (n : Nat) (e : Entry) (l : Line) (b : BufId)
    (basket priority : Nat) : s.Keeps (t.moveAt d p n e l b basket priority) := by
  have made := h.changeEntry d p n { e with basket := basket, priority := priority }
  unfold State.moveAt
  simp only
  split
  · exact h.answer _ _ _
  · split
    · exact made.awaitChange _ _ _ _ _ _
    · exact (made.raiseEvent _ _ _ _ _).awaitChange _ _ _ _ _ _

theorem spikeAt (h : s.Keeps t) (d : DriveId) (p : Profile) (n : Nat) (e : Entry) (l : Line) (b : BufId) :
    s.Keeps (t.spikeAt d p n e l b) :=
  (((h.changeEntry d p n _).raiseEvent _ _ _ _ _).freeOwn d n l).awaitChange _ _ _ _ _ _

theorem purgeAt (h : s.Keeps t) (d : DriveId) (p : Profile) (n : Nat) (e : Entry) (l : Line) (b : BufId) :
    s.Keeps (t.purgeAt d p n e l b) :=
  (((h.releaseGranules d p _).freeOwn d n l).changeEntry d p n _).awaitChange _ _ _ _ _ _

/-! ### Volumes -/

theorem ejectAt (h : s.Keeps t) (l : Line) (b : BufId) (d : DriveId) (force : Bool) : s.Keeps (t.ejectAt l b d force) := by
  unfold State.ejectAt
  split
  · exact (h.releaseVolume d).answer _ _ _
  · split
    · exact h.modVol d _
    · split
      · exact (h.breakOthers d l).modVol d _
      · exact h.answer _ _ _

theorem prepareAt (h : s.Keeps t) (l : Line) (b : BufId) {d : DriveId} (body : List Byte)
    (fit : s.faultedQueues → (t.drive d).condition ≠ .faulted) : s.Keeps (t.prepareAt l b d body) := by
  unfold State.prepareAt
  simp only
  split
  · exact h.answer _ _ _
  · split
    · exact h.answer _ _ _
    · split
      · exact h.answer _ _ _
      · exact h.beginPrepare _ _ _ _ fit

/-! ### Maintenance and configuration -/

theorem onMaintenance (h : s.Keeps t) {l : Line} {b : BufId} {body : List Byte} {p : Option ReadProfile}
    {f : DriveId → ReadProfile → State → State}
    (hf : ∀ d p, (s.faultedQueues → (t.drive d).condition ≠ .faulted) → s.Keeps (f d p t)) :
    s.Keeps (t.onMaintenance l b body p f) := by
  unfold State.onMaintenance
  split
  · split
    · exact h.answer _ _ _
    · split
      · exact h.answer _ _ _
      · next admitted =>
        refine hf _ _ fun _ faulted => ?_
        simp [State.maintenanceRefused, faulted, DriveCondition.refusesWork] at admitted
  · exact h.answer _ _ _

theorem sweepAt (h : s.Keeps t) (l : Line) (b : BufId) {d : DriveId} (p : ReadProfile) (c n : Nat)
    (fit : s.faultedQueues → (t.drive d).condition ≠ .faulted) : s.Keeps (t.sweepAt l b d p c n) := by
  unfold State.sweepAt
  split
  · exact h.answer _ _ _
  · split
    · exact h.refusePlace _ _ _
    · next room =>
      exact (h.setSweepFlag d true).placeDesk (Bool.eq_false_iff.2 room) (fun e => nomatch e) fit

theorem rawAt (h : s.Keeps t) (l : Line) (b : BufId) {d : DriveId} (p : ReadProfile) (c n k : Nat)
    (fit : s.faultedQueues → (t.drive d).condition ≠ .faulted) : s.Keeps (t.rawAt l b d p c n k) := by
  unfold State.rawAt
  split
  · exact h.refusePlace _ _ _
  · next room => exact h.placeDesk (Bool.eq_false_iff.2 room) (fun e => nomatch e) fit

theorem clearCounts (h : s.Keeps t) : s.Keeps t.clearCounts := by
  refine h.change (fun l => ?_) (fun d => ?_) (.refl _ _) rfl id id id (.same rfl rfl rfl)
  · rw [show t.clearCounts.line l = { t.line l with framesTaken := 0, checkErrors := 0, abandoned := 0 } from
      vector_get_ofFn _ l]
    exact ⟨.inl, fun o => o.of_eq rfl rfl rfl rfl, fun _ g => ⟨g.receive, g.buffers, g.replies⟩⟩
  · rw [show t.clearCounts.drive d = { t.drive d with selections := 0, bypasses := 0, opens := 0, refused := 0 } from
      vector_get_ofFn _ d]
    exact .other rfl rfl rfl rfl rfl

end State.Keeps

/-! ### A new configuration record (R188) -/

/-- One update of every drive in turn. -/
theorem State.eachDrive_modDrive (s : State) (f : DriveSeq → DriveSeq) :
    (s.eachDrive fun s d => s.modDrive d f) = { s with drives := s.drives.map f } := by
  have drives : (s.eachDrive fun s d => s.modDrive d f).drives = s.drives.map f := by
    ext i hi
    interval_cases i <;> simp [State.eachDrive, allDrives, State.modDrive, State.drive, Vector.get]
  exact congrArg (fun v => ({ s with drives := v } : State)) drives

theorem State.drive_mapDrives (s : State) (f : DriveSeq → DriveSeq) (d : DriveId) :
    State.drive { s with drives := s.drives.map f } d = f (s.drive d) := by
  simp [State.drive, Vector.get]

/-- A period that CONFIGURE changes is at least 1 (Table 10-1). -/
theorem ConfigRecord.taken_period (c : ConfigRecord) (body : List Byte) :
    (c.taken body).period = c.period ∨ 0 < (c.taken body).period := by
  simp only [ConfigRecord.taken, pickNat]
  split
  · exact .inr (by simp [clampTo])
  · exact .inl rfl

theorem DriveSeq.Keeps.reconfigured {tracked : Prop} {n : Nat} (u : DriveSeq) (limit : Nat) (changed : Bool) :
    u.Keeps tracked n (u.reconfigured limit changed) := by
  have map : u.Keeps tracked n { u with queue := u.queue.map fun r => { r with passed := min limit r.passed } } :=
    .map (fun _ => rfl) fun _ k => k
  refine { map with step := fun h => ?_ }
  simp only [DriveSeq.reconfigured]
  split
  · exact Nat.zero_lt_of_lt h
  · exact h

namespace State.Keeps
variable {s t : State}

theorem reconfigure (h : s.Keeps t) (limit : Nat) (changed : Bool) :
    s.Keeps { t with drives := t.drives.map fun u => u.reconfigured limit changed } := by
  refine h.change (fun _ => .refl Or.inl) (fun d => ?_) (.refl _ _) rfl id id id (.same rfl rfl rfl)
  rw [State.drive_mapDrives]
  exact .reconfigured _ _ _

/-- The configuration record changes, every pattern step being below its period. -/
theorem setCfg (h : s.Keeps t) {c : ConfigRecord}
    (steps : ∀ d, (t.drive d).patternStep < t.cfg.period → (t.drive d).patternStep < c.period) :
    s.Keeps { t with cfg := c } :=
  ⟨fun x d => steps d (h.steps x d), h.claims, h.memory, h.queues, h.faults, h.heads, h.replies,
    fun x l a => (h.desks x l a).of_eq rfl rfl, h.gate⟩

theorem applyInUse (h : s.Keeps t) (before : BitVec 4) (d : DriveId) : s.Keeps (t.applyInUse before d) := by
  unfold State.applyInUse
  simp only
  split
  · exact h.takeOffline d
  · split
    · exact h.enterByReady d
    · exact h

theorem adjustMargins (h : s.Keeps t) : s.Keeps t.adjustMargins :=
  h.same rfl rfl rfl rfl rfl rfl rfl (.same rfl rfl rfl)

theorem applyConfig (h : s.Keeps t) {new : ConfigRecord} (period : new.period = t.cfg.period ∨ 0 < new.period) :
    s.Keeps (t.applyConfig new) := by
  have taken := (h.reconfigure new.bypass (t.cfg.period != new.period)).setCfg (c := new) fun d step => by
    rw [State.drive_mapDrives] at step ⊢
    simp only [DriveSeq.reconfigured] at step ⊢
    split
    · next changed => exact period.resolve_left fun e => by simp [e] at changed
    · next same =>
      rw [if_neg same] at step
      have same : t.cfg.period = new.period := by simpa using same
      exact same ▸ step
  unfold State.applyConfig
  simp only
  refine eachDrive (fun _ d h => h.applyInUse _ d) ?_
  rw [State.eachDrive_modDrive]
  split
  · exact taken
  · exact taken.adjustMargins

end State.Keeps
end Sys2Proof.Machine
end

section
/-! SUPPORT and settlement of the statements on what every step keeps. -/
namespace Sys2Proof.Machine

/-! ### The reset state of the blocks -/

theorem freshLine_gone (present : Bool) (n : Nat) (r : Rate) : (freshLine present n r).Gone :=
  ⟨rfl, fun b h e => by simp [freshLine] at e, rfl, rfl, rfl⟩

theorem freshClaimUnit_without (l : Line) : freshClaimUnit.Without l :=
  ⟨fun _ h => (List.not_mem_nil h).elim, fun n => by simp [freshClaimUnit], by simp [freshClaimUnit]⟩

theorem freshClaimUnit_bounded : freshClaimUnit.Bounded := ⟨Nat.zero_le _, fun _ => Nat.zero_le _⟩

/-- A state whose line units, drives, claims and memory are those of a reset meets every promise. -/
theorem State.Safe.of_fresh {s : State} (lines : ∀ l, ∃ p n r, s.line l = freshLine p n r)
    (drives : ∀ d, ∃ used v, s.drive d = freshDrive used v) (cw : s.cw = freshClaimUnit) (mem : s.mem = [])
    (period : 0 < s.cfg.period) : s.Safe := by
  refine ⟨fun d => ?_, ?_, ?_, fun d => ?_, fun d _ r hr => ?_, fun d => ?_, fun l => ?_, fun l _ => ?_⟩
  · obtain ⟨used, v, e⟩ := drives d
    rw [e]
    exact period
  · show s.cw.Bounded
    exact cw ▸ freshClaimUnit_bounded
  · unfold State.memoryCanonical
    rw [mem]
    rfl
  · obtain ⟨used, v, e⟩ := drives d
    rw [e]
    exact ⟨Nat.zero_le _, Nat.zero_le _⟩
  · obtain ⟨used, v, e⟩ := drives d
    rw [e] at hr
    exact (List.not_mem_nil hr).elim
  · obtain ⟨used, v, e⟩ := drives d
    rw [e]
    exact Positioner.legal.fresh
  · obtain ⟨p, n, r, e⟩ := lines l
    rw [e]
    exact freshLine_orderly p n r
  · obtain ⟨p, n, r, e⟩ := lines l
    rw [State.deskGone_iff, e, cw]
    exact ⟨freshLine_gone p n r, freshClaimUnit_without l⟩

theorem State.afterReset_safe (s : State) (i : Inputs) : (s.afterReset i).Safe :=
  .of_fresh (fun l => ⟨_, _, _, vector_get_ofFn _ l⟩) (fun d => ⟨_, _, vector_get_ofFn _ d⟩) rfl rfl Nat.one_pos

theorem State.holdReset_safe (s : State) (x : Bool) : (s.holdReset x).Safe :=
  .of_fresh (fun l => ⟨_, _, _, vector_get_ofFn _ l⟩) (fun d => ⟨_, _, vector_get_ofFn _ d⟩) rfl rfl Nat.one_pos

namespace State.Keeps
variable {s t : State}

/-- A state that meets every promise, with no gate open. -/
theorem of_safe (h : t.Safe) (gate : t.channel.gate = none) : s.Keeps t :=
  ⟨fun _ => h.steps, fun _ => h.claims, fun _ => h.memory, fun _ => h.queues, fun _ => h.faults, fun _ => h.heads,
    fun _ => h.replies, fun _ => h.desks, fun _ => .inl gate⟩

/-- A first change that is no matter of the promises, an open gate staying as it is: a level, the supply, the drain timer. -/
theorem first {u : State} (lines : u.lines = s.lines)
    (drives : ∀ d, ∃ v, u.drive d = { s.drive d with levels := v }) (cw : u.cw = s.cw) (cfg : u.cfg = s.cfg)
    (extReset : u.part.extReset = s.part.extReset) (mem : u.mem = s.mem) (gate : u.channel.gate = s.channel.gate) :
    s.Keeps u := by
  have line (l) : u.line l = s.line l := by rw [State.line, State.line, lines]
  refine ⟨fun x d => ?_, fun x => cw ▸ x, fun x => ?_, fun x d => ?_, fun x d => ?_, fun x d => ?_, fun x l => ?_,
    fun x l a => (x l ?_).of_eq lines cw, fun x => .inl (gate.trans x)⟩
  · obtain ⟨v, e⟩ := drives d
    rw [e, cfg]
    exact x d
  · unfold State.memoryCanonical
    rw [mem]
    exact x
  · obtain ⟨v, e⟩ := drives d
    rw [e]
    exact x d
  · obtain ⟨v, e⟩ := drives d
    rw [e]
    exact x d
  · obtain ⟨v, e⟩ := drives d
    rw [e]
    exact x d
  · rw [line]
    exact x l
  · rwa [line, extReset] at a

theorem modLevels (s : State) (d : DriveId) (f : DriveLevels → DriveLevels) :
    s.Keeps (s.modDrive d fun u => { u with levels := f u.levels }) := by
  refine first rfl (fun e => ?_) rfl rfl rfl rfl rfl
  rw [State.drive_modDrive]
  split
  · next same => exact ⟨f (s.drive e).levels, by rw [same]⟩
  · exact ⟨(s.drive e).levels, rfl⟩

theorem setReady (s : State) (d : DriveId) (x : Bool) : s.Keeps (s.setReady d x) :=
  modLevels s d fun v => { v with ready := x }

theorem setSense (s : State) (d : DriveId) (x : SenseLine) (level : Bool) : s.Keeps (s.setSense d x level) :=
  modLevels s d fun v => senseSet v x level

/-- The supply and the write-inhibit state change, no gate opening by that. -/
theorem supply (s : State) {f : Channel → Channel} (gate : (f s.channel).gate = s.channel.gate) :
    s.Keeps (s.modChannel f) := first rfl (fun _ => ⟨_, rfl⟩) rfl rfl rfl rfl gate

theorem part (s : State) {f : Part → Part} (extReset : (f s.part).extReset = s.part.extReset) : s.Keeps (s.modPart f) :=
  first rfl (fun _ => ⟨_, rfl⟩) rfl rfl extReset rfl rfl

/-! ### The lines -/

/-- Outside an external reset: a line unit acts, and a line without its desk does nothing. -/
theorem lineEvent (h : s.Keeps t) {l : Line} {f : LineUnit → LineUnit} (live : t.part.extReset = false)
    (present : (f (t.line l)).present = (t.line l).present) (order : (t.line l).Orderly → (f (t.line l)).Orderly)
    (gone : (t.line l).present = false → (t.line l).Gone → (f (t.line l)).Gone) : s.Keeps (t.modLine l f) :=
  h.lineOp present order fun away => gone (away.resolve_right fun e => nomatch live.symm.trans e)

end State.Keeps

theorem LineUnit.Gone.of_eq {u v : LineUnit} (g : u.Gone) (rx : v.rx = u.rx) (bufs : v.bufs = u.bufs)
    (order : v.order = u.order) (pend : v.pendingReply = u.pendingReply) (tx : v.tx = u.tx) : v.Gone :=
  ⟨rx.trans g.receive, fun b h e => g.buffers b h (bufs ▸ e), order.trans g.replies.1, pend.trans g.replies.2.1,
    tx.trans g.replies.2.2⟩

theorem LineUnit.Gone.receive_eq {u : LineUnit} (absent : u.present = false) (c : Byte) (e : Bool) : u.receive c e = u := by
  simp [LineUnit.receive, absent]

theorem LineUnit.Gone.timeout {u : LineUnit} (g : u.Gone) : u.timeout.Gone := by
  simpa [LineUnit.timeout, g.receive] using g

theorem LineUnit.Gone.frameDone {u : LineUnit} (g : u.Gone) (ctx : LineCtx) (n : Nat) : (u.frameDone ctx n).Gone := by
  simpa [LineUnit.frameDone, g.receive] using g

theorem LineUnit.Gone.sent {u : LineUnit} (g : u.Gone) (ctx : LineCtx) : (u.sent ctx).Gone := by
  simpa [LineUnit.sent, g.replies] using g

/-- Where the desk of line `l` is lost: the claims and watches do not see what happens to its line unit. -/
theorem State.deskLost_modLine (s : State) (l m : Line) (f : LineUnit → LineUnit) :
    (s.modLine m f).deskLost l = (s.deskLost l).modLine m f := by
  simp only [State.deskLost, State.dropClaims_eq]
  rfl

theorem ClaimUnit.remove_subset (c : ClaimUnit) (d : DriveId) (n : Nat) : ∀ x ∈ (c.remove d n).claims, x ∈ c.claims :=
  fun _ h => (List.mem_filter.1 h).1

/-- When the claims of a list have been freed, none of them is left. -/
theorem ClaimUnit.mem_freedAll {c : ClaimUnit} {xs : List Claim} {basket : Claim → Nat} {l : Line} {y : Claim}
    (h : y ∈ (c.freedAll xs basket l).claims) : y ∈ c.claims ∧ y ∉ xs := by
  induction xs generalizing c with
  | nil => exact ⟨h, List.not_mem_nil⟩
  | cons x xs ih =>
    obtain ⟨left, notin⟩ := ih (c := c.freed x.drive x.handle (basket x) l) h
    have left : y ∈ (c.remove x.drive x.handle).claims := left
    refine ⟨c.remove_subset _ _ y left, fun mem => (List.mem_cons.1 mem).elim (fun e => ?_) notin⟩
    simp [ClaimUnit.remove, e] at left

/-- Nothing of a desk lost is left at the claim and watch unit (R159 item 1). -/
theorem State.deskLost_without (s : State) (l : Line) : (s.deskLost l).cw.Without l := by
  refine ⟨fun x hx eq => ?_, fun n => ?_, ?_⟩
  · have hx : x ∈ (s.dropClaims l).cw.claims := hx
    rw [State.dropClaims_eq] at hx
    obtain ⟨left, notin⟩ := ClaimUnit.mem_freedAll hx
    exact notin (List.mem_filter.2 ⟨left, by simp [eq]⟩)
  · simp [State.deskLost, State.modClaims, vector_get_set]
  · simp [State.deskLost, State.modClaims, vector_get_set]

namespace State.Keeps
variable {s t : State}

/-- Line-present falls: the line unit loses its desk and nothing of it is left (R159, R180). -/
theorem lineLost (s : State) (l : Line) : s.Keeps ((s.modLine l LineUnit.lose).deskLost l) := by
  have lost := (refl s).deskLost l
  rw [State.deskLost_modLine]
  refine ⟨lost.steps, lost.claims, lost.memory, lost.queues, lost.faults, lost.heads, fun x m => ?_, fun x m a => ?_,
    lost.gate⟩
  · rw [State.line_modLine]
    split
    · exact (lost.replies x l).lose
    · exact lost.replies x m
  · rw [State.deskGone_iff, State.line_modLine]
    rw [State.line_modLine] at a
    split
    · next same => exact ⟨LineUnit.lose_gone _, same ▸ s.deskLost_without l⟩
    · next other =>
      rw [if_neg other] at a
      exact (State.deskGone_iff _ m).1 (lost.desks x m a)

/-! ### The write-inhibit guard and the part -/

theorem giveUpSelected (h : s.Keeps t) (d : DriveId) : s.Keeps (t.giveUpSelected d) := by
  unfold State.giveUpSelected
  split
  · split
    · exact h.withdrawSelected d _
    · exact h
  · exact h

theorem giveUpQueued (h : s.Keeps t) (d : DriveId) : s.Keeps (t.giveUpQueued d) :=
  (h.filterQueue d _).foldl (fun _ _ h => h.givenUp d _) _

theorem beginLongInhibit (h : s.Keeps t) : s.Keeps t.beginLongInhibit :=
  (h.modChannel (.same rfl rfl rfl)).eachDrive fun _ d h => (h.giveUpSelected d).giveUpQueued d

theorem releaseReport (h : s.Keeps t) (d : DriveId) : s.Keeps (t.releaseReport d) := by
  unfold State.releaseReport
  split
  · exact (h.modCounts rfl rfl rfl rfl rfl).mountReport d
  · exact h

theorem endRequests (h : s.Keeps t) : s.Keeps t.endRequests :=
  h.eachLine fun _ _ h => (h.answer _ _ _).answer _ _ _

theorem blocksRestart (h : s.Keeps t) (straps : Straps) : s.Keeps (t.blocksRestart straps) := by
  refine h.change (fun _ => .refl Or.inl) (fun d => ?_) ⟨fun _ => freshClaimUnit_bounded, fun l _ _ => freshClaimUnit_without l⟩
    rfl nofun (fun _ => rfl) (fun _ => rfl) (.inl rfl)
  rw [show (t.blocksRestart straps).drive d = (t.drive d).restarted (driveInUse straps t.cfg.drivesInUse d) from
    vector_get_ofFn _ d]
  exact ⟨Nat.zero_lt_of_lt, fun _ => Nat.zero_le _, fun _ => Nat.zero_le _, fun _ _ _ r hr => (List.not_mem_nil hr).elim,
    fun _ => Positioner.legal.fresh, rfl⟩

theorem drainEnds (h : s.Keeps t) (straps : Straps) : s.Keeps (t.drainEnds straps) :=
  (h.endRequests.blocksRestart straps).eachLine fun _ l h =>
    (h.lineOp rfl (·.drained) fun _ g => ⟨by simp [LineUnit.drained, g.receive], g.buffers, g.replies⟩).lineReset l

theorem driveFaultRises (h : s.Keeps t) (d : DriveId) : s.Keeps (t.driveFaultRises d) := by
  unfold State.driveFaultRises
  simp only
  split
  · exact h.fault d _
  · exact h

theorem revolved (h : s.Keeps t) (d : DriveId) : s.Keeps (t.modDrive d fun u => u.revolved t.cfg) := by
  have step : (t.drive d).Keeps s.faultedQueues t.cfg.period
      { t.drive d with patternStep := nextStep t.cfg.period (t.drive d).patternStep } := by
    refine ⟨fun h => ?_, id, id, fun _ => id, id, rfl⟩
    simp only [nextStep]
    split
    · assumption
    · exact Nat.zero_lt_of_lt h
  refine h.modDrive ?_
  unfold DriveSeq.revolved DriveSeq.countIdle
  split
  · exact ⟨step.step, step.desk, step.volume, step.faulted, step.head, step.protect⟩
  · exact step

end State.Keeps

/-! ### Every command -/

open State.Keeps in
/-- A command of the outside keeps every promise, and opens no gate but one that is free to. -/
theorem exec_keeps (i : Instr) (s : State) : ∃ t, exec i s = .next t ∧ s.Keeps t := by
  have h := refl s
  cases i with
  | volumeStatus l b =>
    refine ⟨_, rfl, h.onRequest fun x u h _ => ?_⟩
    split <;> exact h.answer _ _ _
  | eject l b =>
    refine ⟨_, rfl, h.onRequest fun x u h _ => ?_⟩
    split
    · exact h.answer _ _ _
    · exact h.gated fun d _ => h.ejectAt _ _ _ _
  | prepareVolume l b =>
    exact ⟨_, rfl, h.onRequest fun x u h _ => h.gated fun d e => h.prepareAt _ _ _ (admitted e)⟩
  | lookup l b =>
    refine ⟨_, rfl, h.onRequest fun x u h _ => h.gated fun d _ => ?_⟩
    simp only
    repeat' split
    all_goals exact h.answer _ _ _
  | listStories l b =>
    refine ⟨_, rfl, h.onRequest fun x u h _ => h.gated fun d _ => ?_⟩
    split <;> exact h.answer _ _ _
  | createStory l b =>
    refine ⟨_, rfl, h.onRequest fun x u h here => h.gated fun d _ => ?_⟩
    split
    · exact h.answer _ _ _
    · simp only
      split
      · exact h.answer _ _ _
      · split
        · exact h.answer _ _ _
        · split
          · exact h.answer _ _ _
          · next room =>
            split
            · exact h.answer _ _ _
            · exact h.createAt _ _ _ _ _ _ _ (Bool.not_eq_false _ ▸ room) here
  | readBlock l b =>
    refine ⟨_, rfl, h.onRequest fun x u h _ => h.onStory fun d p n e fit => ?_⟩
    split
    · exact h.answer _ _ _
    · split
      · exact h.answer _ _ _
      · split
        · exact h.answer _ _ _
        · exact h.cacheRead _ _ _ _ _ fit
  | writeBlock l b =>
    refine ⟨_, rfl, h.onRequest fun x u h _ => h.onStory fun d p n e fit => ?_⟩
    split
    · exact h.answer _ _ _
    · refine h.ifHolder ?_
      split
      · exact h.answer _ _ _
      · exact h.writeAt _ _ _ _ _ _ fit
  | fileStory l b =>
    refine ⟨_, rfl, h.onRequest fun x u h _ => h.onStory fun d p n e _ => ?_⟩
    split
    · exact h.answer _ _ _
    · exact h.ifHolder (h.fileAt _ _ _ _ _ _ _ _)
  | moveStory l b =>
    refine ⟨_, rfl, h.onRequest fun x u h _ => h.onStory fun d p n e _ => ?_⟩
    split
    · exact h.answer _ _ _
    · refine h.unlessClaimed ?_
      split
      · exact h.answer _ _ _
      · exact h.moveAt _ _ _ _ _ _ _ _
  | spike l b =>
    refine ⟨_, rfl, h.onRequest fun x u h _ => h.onStory fun d p n e _ => ?_⟩
    split
    · exact h.unlessClaimed (h.spikeAt _ _ _ _ _ _)
    · exact h.answer _ _ _
    · exact h.answer _ _ _
  | revive l b =>
    refine ⟨_, rfl, h.onRequest fun x u h _ => h.onStory fun d p n e _ => ?_⟩
    split
    · exact h.unlessClaimed ((h.changeEntry _ _ _ _).awaitChange _ _ _ _ _ _)
    · exact h.answer _ _ _
    · exact h.answer _ _ _
  | purge l b =>
    refine ⟨_, rfl, h.onRequest fun x u h _ => h.onStory fun d p n e _ => ?_⟩
    split
    · exact h.answer _ _ _
    · exact h.unlessClaimed (h.purgeAt _ _ _ _ _ _)
  | readClock l b => exact ⟨_, rfl, h.onRequest fun x u h _ => h.answer _ _ _⟩
  | setClock l b =>
    refine ⟨_, rfl, h.onRequest fun x u h _ => ?_⟩
    have set : s.Keeps { u with clock := setClock (nat2 x.body 0) (nat2 x.body 2) } :=
      h.same rfl rfl rfl rfl rfl rfl rfl (.same rfl rfl rfl)
    exact set.answer _ _ _
  | openStory l b =>
    refine ⟨_, rfl, h.onRequest fun x u h here => ?_⟩
    split
    · exact h.answer _ _ _
    · next owned => exact h.gated fun d _ => h.openAt _ _ _ _ (here (Bool.eq_false_iff.2 owned))
  | release l b =>
    refine ⟨_, rfl, h.onRequest fun x u h _ => ?_⟩
    split
    · exact h.answer _ _ _
    · split
      · exact (h.freeClaim _ _ _).answer _ _ _
      · exact h.answer _ _ _
  | breakClaim l b =>
    refine ⟨_, rfl, h.onRequest fun x u h _ => ?_⟩
    split
    · exact h.answer _ _ _
    · split
      · exact h.answer _ _ _
      · next held =>
        split
        · exact (h.freeClaim _ _ _).answer _ _ _
        · exact (h.dropBroken _ _ held).answer _ _ _
  | watchSet l b =>
    refine ⟨_, rfl, h.onRequest fun x u h here => ?_⟩
    split
    · exact h.answer _ _ _
    · next owned =>
      split
      · exact h.answer _ _ _
      · exact h.watchSetAt _ _ _ (here (Bool.eq_false_iff.2 owned))
  | watchStatus l b => exact ⟨_, rfl, h.onRequest fun x u h _ => h.answer _ _ _⟩
  | watchClear l b =>
    refine ⟨_, rfl, h.onRequest fun x u h _ => ?_⟩
    simp only
    split
    · exact h.clearWatch _ _ _ _
    · split
      · exact h.clearBroken _ _
      · exact h.answer _ _ _
  | lineStatus l b us =>
    refine ⟨_, rfl, h.onRequest fun x u h _ => ?_⟩
    split <;> exact h.answer _ _ _
  | configure l b =>
    refine ⟨_, rfl, h.onRequest fun x u h _ => ?_⟩
    split
    · exact h.answer _ _ _
    · exact ((h.keepRate _ _ _).answer _ _ _).applyConfig (u.cfg.taken_period _)
  | driveStatus l b =>
    refine ⟨_, rfl, h.onRequest fun x u h _ => ?_⟩
    split <;> exact h.answer _ _ _
  | statistics l b =>
    refine ⟨_, rfl, h.onRequest fun x u h _ => ?_⟩
    split
    · exact h.clearCounts.answer _ _ _
    · exact h.answer _ _ _
  | clearDrive l b =>
    refine ⟨_, rfl, h.onRequest fun x u h _ => ?_⟩
    split
    · exact h.answer _ _ _
    · split
      · exact (h.enterByReady _).answer _ _ _
      · exact h.answer _ _ _
      · exact h.answer _ _ _
  | sweep l b =>
    exact ⟨_, rfl, h.onRequest fun x u h _ => h.onMaintenance fun d p fit => h.sweepAt _ _ _ _ _ fit⟩
  | rawRead l b =>
    exact ⟨_, rfl, h.onRequest fun x u h _ => h.onMaintenance fun d p fit => h.rawAt _ _ _ _ _ _ fit⟩
  | restart l b => exact ⟨_, rfl, h.onRequest fun x u h _ => (h.modPart rfl rfl).answer _ _ _⟩
  | characterReceived l c e =>
    refine ⟨_, rfl, ?_⟩
    split
    · exact h
    · next live =>
      exact h.lineEvent (Bool.eq_false_iff.2 live) (LineUnit.receive_present _ _ _) (·.receive _ _) fun absent g => by
        rwa [LineUnit.Gone.receive_eq absent]
  | frameTimerExpiry l =>
    refine ⟨_, rfl, ?_⟩
    split
    · exact h
    · next live => exact h.lineEvent (Bool.eq_false_iff.2 live) (LineUnit.timeout_present _) (·.timeout) fun _ g => g.timeout
  | frameComplete l =>
    refine ⟨_, rfl, ?_⟩
    split
    · exact h
    · next live =>
      exact h.lineEvent (Bool.eq_false_iff.2 live) (LineUnit.frameDone_present _ _ _) (·.frameDone _ _) fun _ g =>
        g.frameDone _ _
  | replyFrameSent l =>
    refine ⟨_, rfl, ?_⟩
    split
    · exact h
    · next live =>
      have sent := part s (f := fun p => p.replySent l (s.line l)) (by
        simp only [Part.replySent]
        split <;> rfl)
      have live : (s.modPart fun p => p.replySent l (s.line l)).part.extReset = false := by
        simp only [State.part_modPart, Part.replySent]
        split <;> exact Bool.eq_false_iff.2 live
      exact (sent.lineEvent live (LineUnit.sent_present _ _) (·.sent _) fun _ g => g.sent _).lineReset l
  | rateChangeEffect l =>
    refine ⟨_, rfl, ?_⟩
    split
    · exact h
    · next live =>
      refine h.lineEvent (Bool.eq_false_iff.2 live) ?_ (·.takeRate _) fun _ g => ?_
      · rw [LineUnit.takeRate_eq]
      · rw [LineUnit.takeRate_eq]
        exact g.of_eq rfl rfl rfl rfl rfl
  | linePresentFalls l =>
    refine ⟨_, rfl, ?_⟩
    split
    · next held =>
      exact h.modLine ⟨fun _ => .inr held, fun o => o.of_eq rfl rfl rfl rfl, fun _ g => g.of_eq rfl rfl rfl rfl rfl⟩
    · split
      · exact h
      · exact ((lineLost s l).modPart rfl rfl).lineReset l
  | linePresentRises l =>
    refine ⟨_, rfl, ?_⟩
    split
    · exact h.modLine ⟨nofun, fun o => o.of_eq rfl rfl rfl rfl, fun _ g => g.of_eq rfl rfl rfl rfl rfl⟩
    · split
      · exact h
      · exact h.modLine ⟨nofun, fun o => o.of_eq rfl rfl rfl rfl, fun _ g => g.of_eq rfl rfl rfl rfl rfl⟩
  | silenceTimerExpiry l =>
    refine ⟨_, rfl, ?_⟩
    split
    · exact h
    · refine (h.lineOp ?_ (fun o => ?_) fun _ g => ?_).dropClaims l
      · rfl
      · exact o.of_eq rfl rfl rfl rfl
      · exact g.of_eq rfl rfl rfl rfl rfl
  | readyRises d =>
    refine ⟨_, rfl, ?_⟩
    split
    · exact (setReady s d true).enterSpeedCheck d
    · exact setReady s d true
  | readyDrops d =>
    refine ⟨_, rfl, ?_⟩
    split
    · exact (setReady s d false).removal d _
    · exact setReady s d false
  | indexPulse d us =>
    refine ⟨_, rfl, ?_⟩
    simp only
    split
    · exact h
    · have timed := h.modCounts (d := d) (f := fun u => { u with index := u.index.pulse us }) rfl rfl rfl rfl rfl
      split
      · exact (timed.revolved d).channelPulse d
      · exact timed
  | indexPeriodTimeout d =>
    refine ⟨_, rfl, ?_⟩
    split
    · exact h.modCounts rfl rfl rfl rfl rfl
    · exact h
  | speedReached d =>
    refine ⟨_, rfl, ?_⟩
    split
    · exact h.enterReady d
    · exact h
  | speedFault d =>
    refine ⟨_, rfl, ?_⟩
    split
    · exact h.fault d _
    · exact h
  | noIndexTimeout d =>
    refine ⟨_, rfl, ?_⟩
    split
    · exact h.fault d _
    · exact h
  | driveFaultAsserted d => exact ⟨_, rfl, (setSense s d _ _).driveFaultRises d⟩
  | senseLevelChange d which level =>
    refine ⟨_, rfl, ?_⟩
    split
    · exact (setSense s d _ _).driveFaultRises d
    · exact setSense s d _ _
  | recalStepEnd d =>
    refine ⟨_, rfl, ?_⟩
    split
    · split
      · exact h.modPos id
      · split
        · exact h.fault d _
        · exact h.modPos id
    · exact h
  | recalSettleEnd d =>
    refine ⟨_, rfl, ?_⟩
    split
    · exact h.restedAtZero d _
    · exact h
  | moveStepEnd d =>
    refine ⟨_, rfl, ?_⟩
    split
    · next moving =>
      split
      · refine h.modPos fun p => ?_
        simpa [Positioner.legal, moving.1] using p
      · exact h.modPos fun p => p.stepPulse _
    · exact h
  | settleTimerEnd d =>
    refine ⟨_, rfl, ?_⟩
    simp only
    split
    · next settling =>
      have stopped := h.modPos (d := d) (f := fun p => { p with settleTimer := none }) id
      split
      · refine stopped.arrive (.inr ?_)
        rw [State.drive_modPos, if_pos rfl]
        exact settling.1
      · exact stopped
    · exact h
  | headLoadTimerEnd d =>
    refine ⟨_, rfl, ?_⟩
    simp only
    split
    · have stopped := h.modPos (d := d) (f := fun p => { p with loadTimer := none }) id
      split
      · next moves =>
        refine stopped.arrive ?_
        rw [State.drive_modPos, if_pos rfl]
        exact moves.symm.imp And.left And.left
      · exact stopped
    · exact h
  | unloadDelayReached d =>
    refine ⟨_, rfl, ?_⟩
    split
    · next idle => exact h.modPos fun p => p.unloaded idle.1
    · exact h
  | selection d us => exact ⟨_, rfl, h.select d us⟩
  | channelGrant =>
    refine ⟨_, rfl, ?_⟩
    split
    · exact h
    · next next =>
      split
      · refine h.grant ?_ _ _
        unfold State.nextGrant at next
        split at next
        · next free => exact free.1
        · cases next
      · exact h
  | idFieldAccepted f => exact ⟨_, rfl, h.idMark f⟩
  | dataWindowExpired => exact ⟨_, rfl, h.dataMissing⟩
  | dataFieldRead f => exact ⟨_, rfl, h.dataField f⟩
  | dataFieldWritten =>
    refine ⟨_, rfl, ?_⟩
    split
    · exact h
    · next serves =>
      split
      · exact h.sectorWritten _ _ (h.notFaulted (State.Serving.of_service serves).selected)
      · exact h
  | attemptEnd => exact ⟨_, rfl, h.attemptEnd⟩
  | volumeDrainComplete d =>
    refine ⟨_, rfl, ?_⟩
    split
    · exact (h.releaseVolume d).answerEject _
    · exact h
  | supplyBelowInhibit us =>
    have fallen : s.Keeps (s.modChannel Channel.fallBelow) := supply s (by
      unfold Channel.fallBelow
      split <;> rfl)
    refine ⟨_, rfl, ?_⟩
    split
    · exact supply s rfl
    · split
      · exact fallen
      · exact fallen.cutInGap us
  | supplyAtRestore =>
    refine ⟨_, rfl, ?_⟩
    split
    · exact h
    · exact supply s rfl
  | supplyBelowRestore =>
    refine ⟨_, rfl, ?_⟩
    split
    · exact supply s rfl
    · exact h
  | restoreTimerExpiry =>
    refine ⟨_, rfl, ?_⟩
    split
    · exact (supply s rfl).eachDrive fun _ d h => h.offers d
    · exact h
  | longInhibitTimerExpiry =>
    refine ⟨_, rfl, ?_⟩
    split
    · exact h.beginLongInhibit
    · exact h
  | clockSecond =>
    refine ⟨_, rfl, ?_⟩
    split
    · exact h
    · exact h.same rfl rfl rfl rfl rfl rfl rfl (.same rfl rfl rfl)
  | powerOn i => exact ⟨_, rfl, of_safe (s.afterReset_safe i) rfl⟩
  | externalResetAsserted x => exact ⟨_, rfl, of_safe (s.holdReset_safe x) rfl⟩
  | externalResetReleased straps =>
    refine ⟨_, rfl, ?_⟩
    split
    · exact of_safe (s.afterReset_safe _) rfl
    · exact h
  | selfTestComplete failed =>
    refine ⟨_, rfl, ?_⟩
    split
    · exact h.same rfl rfl rfl rfl rfl rfl rfl (.same rfl rfl rfl)
    · exact h
  | partRunning =>
    refine ⟨_, rfl, ?_⟩
    split
    · exact (h.modPart rfl rfl).eachDrive fun _ d h => h.releaseReport d
    · exact h
  | drainTimerExpiry us =>
    refine ⟨_, rfl, ?_⟩
    split
    · exact (part s rfl).cutInGap us
    · exact h
  | drainEnd straps =>
    refine ⟨_, rfl, ?_⟩
    split
    · exact h.drainEnds straps
    · exact h
  | formatFieldFinished =>
    refine ⟨_, rfl, ?_⟩
    split
    · exact h
    · split
      · exact h.formatCut _ _
      · exact h

/-- A step keeps every promise, and opens no gate but one that is free to. -/
theorem step_keeps {s t : State} (h : step s = .next t) : s.Keeps t := by
  unfold step at h
  split at h
  · next c rest _ =>
    obtain ⟨u, e, k⟩ := exec_keeps c { s with pending := rest }
    obtain rfl : u = t := Host.Outcome.next.inj (e.symm.trans h)
    exact ⟨k.steps, k.claims, k.memory, k.queues, k.faults, k.heads, k.replies,
      fun x => k.desks fun l a => (x l a).of_eq rfl rfl, k.gate⟩
  · cases h
    exact .refl s

/-! ### The statements -/

/-- Settles O52: a gate that a step leaves open was open before it or fits. -/
theorem noGateOpensUnderInhibit : Obligations.NoGateOpensUnderInhibit := by
  intro s t taken closed opened
  exact ((step_keeps taken).gate closed).resolve_left opened

/-- Settles O53. -/
theorem boundsAreKeptByEveryStep : Obligations.BoundsAreKeptByEveryStep :=
  ⟨fun _ _ taken => ⟨(step_keeps taken).steps, (step_keeps taken).claims, (step_keeps taken).queues⟩,
    fun _ _ taken => (step_keeps taken).memory, fun _ _ taken => (step_keeps taken).faults⟩

/-- Settles O54. -/
theorem positionersStayLegal : Obligations.PositionersStayLegal := fun _ _ taken => (step_keeps taken).heads

/-- Settles O55. -/
theorem replyOrdersStayOrderly : Obligations.ReplyOrdersStayOrderly := fun _ _ taken => (step_keeps taken).replies

/-- Settles O56. -/
theorem absentLinesStayQuiet : Obligations.AbsentLinesStayQuiet := fun _ _ taken => (step_keeps taken).desks

/-- Settles O57: the state after reset holds the blocks as a reset leaves them. -/
theorem resetMeetsEveryPromise : Obligations.ResetMeetsEveryPromise :=
  .of_fresh (fun l => ⟨_, _, _, vector_get_replicate _ l⟩) (fun d => ⟨_, _, vector_get_replicate _ d⟩) rfl rfl Nat.one_pos

end Sys2Proof.Machine
end

section
/-! SUPPORT. What an operation on one drive leaves alone: the other drives with their regions and volumes, their parts of
the channel's records, the configuration, the clock and the part. -/
namespace Sys2Proof.Machine

/-- Of the drives with all that belongs to them only drive `d` may differ between `s` and `t`; the configuration, the part, the
clock and the waiting commands do not. The lines, the claims, the buffer memory and the channel's own state may. -/
structure State.Within (s t : State) (d : DriveId) : Prop where
  others  : s.OthersKept t d
  ops     : ∀ e, e ≠ d → t.op e = s.op e
  asking  : ∀ e, e ≠ d → t.channel.asking.get e = s.channel.asking.get e
  margins : ∀ e z, e ≠ d → t.margin e z = s.margin e z
  cfg     : t.cfg = s.cfg
  part    : t.part = s.part
  clock   : t.clock = s.clock
  pending : t.pending = s.pending

/-- A change of the channel that leaves the records of the other drives alone. -/
structure Channel.Beside (c e : Channel) (d : DriveId) : Prop where
  ops    : ∀ x, x ≠ d → e.ops.get x = c.ops.get x
  asking : ∀ x, x ≠ d → e.asking.get x = c.asking.get x
  outer  : ∀ x, x ≠ d → e.outer.get x = c.outer.get x
  inner  : ∀ x, x ≠ d → e.inner.get x = c.inner.get x

theorem Channel.Beside.same {c e : Channel} {d : DriveId} (ops : e.ops = c.ops) (asking : e.asking = c.asking)
    (outer : e.outer = c.outer) (inner : e.inner = c.inner) : c.Beside e d :=
  ⟨fun _ _ => ops ▸ rfl, fun _ _ => asking ▸ rfl, fun _ _ => outer ▸ rfl, fun _ _ => inner ▸ rfl⟩

theorem vector_get_set_ne {α : Type} {n : Nat} (v : Vector α n) {i j : Fin n} (h : j ≠ i) (x : α) :
    (v.set i.val x i.isLt).get j = v.get j := by rw [vector_get_set, if_neg (Ne.symm h)]

theorem State.Within.refl (s : State) (d : DriveId) : s.Within s d :=
  ⟨⟨fun _ _ => rfl, fun _ _ => rfl, fun _ _ => rfl⟩, fun _ _ => rfl, fun _ _ => rfl, fun _ _ _ => rfl, rfl, rfl, rfl, rfl⟩

namespace State.Within
variable {s t u : State} {d : DriveId}

theorem trans (a : s.Within t d) (b : t.Within u d) : s.Within u d :=
  ⟨⟨fun e h => (b.others.drives e h).trans (a.others.drives e h), fun e h => (b.others.regions e h).trans (a.others.regions e h),
    fun e h => (b.others.vols e h).trans (a.others.vols e h)⟩,
    fun e h => (b.ops e h).trans (a.ops e h), fun e h => (b.asking e h).trans (a.asking e h),
    fun e z h => (b.margins e z h).trans (a.margins e z h), b.cfg.trans a.cfg, b.part.trans a.part, b.clock.trans a.clock,
    b.pending.trans a.pending⟩

/-! ### The updates of the blocks -/

theorem modLine (h : s.Within t d) (l : Line) (f : LineUnit → LineUnit) : s.Within (t.modLine l f) d :=
  ⟨⟨h.others.drives, h.others.regions, h.others.vols⟩, h.ops, h.asking, h.margins, h.cfg, h.part, h.clock, h.pending⟩

theorem modDrive (h : s.Within t d) (f : DriveSeq → DriveSeq) : s.Within (t.modDrive d f) d :=
  ⟨⟨fun e ne => (t.drive_modDrive_ne ne.symm f).trans (h.others.drives e ne), h.others.regions, h.others.vols⟩, h.ops,
    h.asking, h.margins, h.cfg, h.part, h.clock, h.pending⟩

theorem modVol (h : s.Within t d) (f : Volume → Volume) : s.Within (t.modVol d f) d :=
  ⟨⟨h.others.drives, h.others.regions, fun e ne => (t.vol_modVol_ne ne.symm f).trans (h.others.vols e ne)⟩, h.ops,
    h.asking, h.margins, h.cfg, h.part, h.clock, h.pending⟩

theorem modRegion (h : s.Within t d) (f : Region → Region) : s.Within (t.modRegion d f) d :=
  ⟨⟨h.others.drives, fun e ne => (t.region_modRegion_ne ne.symm f).trans (h.others.regions e ne), h.others.vols⟩, h.ops,
    h.asking, h.margins, h.cfg, h.part, h.clock, h.pending⟩

theorem modClaims (h : s.Within t d) (f : ClaimUnit → ClaimUnit) : s.Within (t.modClaims f) d :=
  ⟨⟨h.others.drives, h.others.regions, h.others.vols⟩, h.ops, h.asking, h.margins, h.cfg, h.part, h.clock, h.pending⟩

theorem modChannel (h : s.Within t d) {f : Channel → Channel} (hf : t.channel.Beside (f t.channel) d) :
    s.Within (t.modChannel f) d :=
  ⟨⟨h.others.drives, h.others.regions, h.others.vols⟩, fun e ne => (hf.ops e ne).trans (h.ops e ne),
    fun e ne => (hf.asking e ne).trans (h.asking e ne), fun e z ne => by
      cases z
      · exact (hf.outer e ne).trans (h.margins e .outer ne)
      · exact (hf.inner e ne).trans (h.margins e .inner ne),
    h.cfg, h.part, h.clock, h.pending⟩

theorem foldl {α : Type} {f : State → α → State} (hf : ∀ t a, s.Within t d → s.Within (f t a) d) (xs : List α)
    (h : s.Within t d) : s.Within (xs.foldl f t) d := State.foldl_keeps (fun t => s.Within t d) f hf xs t h

theorem modQueue (h : s.Within t d) (f : List Request → List Request) : s.Within (t.modQueue d f) d := h.modDrive _
theorem modPos (h : s.Within t d) (f : Positioner → Positioner) : s.Within (t.modPos d f) d := h.modDrive _
theorem modSelected (h : s.Within t d) (f : Request → Request) : s.Within (t.modSelected d f) d := h.modQueue _
theorem dropSelected (h : s.Within t d) : s.Within (t.dropSelected d) d := h.modQueue _
theorem setOp (h : s.Within t d) (o : Option OpRecord) : s.Within (t.setOp d o) d :=
  h.modChannel ⟨fun _ ne => vector_get_set_ne _ ne _, fun _ _ => rfl, fun _ _ => rfl, fun _ _ => rfl⟩
theorem setAsking (h : s.Within t d) (b : Bool) : s.Within (t.setAsking d b) d :=
  h.modChannel ⟨fun _ _ => rfl, fun _ ne => vector_get_set_ne _ ne _, fun _ _ => rfl, fun _ _ => rfl⟩
theorem setSweepFlag (h : s.Within t d) (b : Bool) : s.Within (t.setSweepFlag d b) d := h.modChannel (.same rfl rfl rfl rfl)
theorem setMargin (h : s.Within t d) (z : Zone) (m : Margin) : s.Within (t.setMargin d z m) d := by
  cases z
  · exact h.modChannel ⟨fun _ _ => rfl, fun _ _ => rfl, fun _ ne => vector_get_set_ne _ ne _, fun _ _ => rfl⟩
  · exact h.modChannel ⟨fun _ _ => rfl, fun _ _ => rfl, fun _ _ => rfl, fun _ ne => vector_get_set_ne _ ne _⟩
theorem setSector (h : s.Within t d) (j : Nat) (x : SectorState) : s.Within (t.setSector d j x) d := h.modVol _
theorem setEntry (h : s.Within t d) (n : Nat) (e : Entry) : s.Within (t.setEntry d n e) d := h.modVol _
theorem answer (h : s.Within t d) (l : Line) (b : BufId) (r : Reply) : s.Within (t.answer l b r) d := h.modLine _ _
theorem markTaken (h : s.Within t d) (l : Line) (b : BufId) : s.Within (t.markTaken l b) d := h.modLine _ _
theorem putFrame (h : s.Within t d) (i : Nat) (p : ReadProfile) (k : Nat) (data : List Byte) :
    s.Within (t.putFrame d i p k data) d :=
  ⟨⟨h.others.drives, h.others.regions, h.others.vols⟩, h.ops, h.asking, h.margins, h.cfg, h.part, h.clock, h.pending⟩

theorem place (h : s.Within t d) (r : Request) : s.Within (t.place d r) d := by
  have arrival : s.Within { t with arrival := nextNumber t.arrival } d :=
    ⟨⟨h.others.drives, h.others.regions, h.others.vols⟩, h.ops, h.asking, h.margins, h.cfg, h.part, h.clock, h.pending⟩
  exact arrival.modQueue _

theorem placeVolume (h : s.Within t d) (r : Request) : s.Within (t.placeVolume d r) d := by
  unfold State.placeVolume
  split
  · exact h.place r
  · exact h

/-! ### The track cache -/

theorem answerReader (h : s.Within t d) (i : Nat) (p : ReadProfile) (c : SectorCond) (rec : Bool) (r : Reader) :
    s.Within (t.answerReader d i p c rec r) d := by cases c <;> exact h.answer _ _ _

theorem fillDone (h : s.Within t d) (r : Request) (i : Nat) (notes : List SectorNote) (rec : List Nat) :
    s.Within (t.fillDone d r i notes rec) d := (h.modRegion _).foldl (fun _ _ h => h.answerReader _ _ _ _ _) _

theorem failReaders (h : s.Within t d) (rs : List Reader) (c : Cause) : s.Within (t.failReaders rs c) d :=
  h.foldl (fun _ _ h => h.answer _ _ _) _

theorem fillFailed (h : s.Within t d) (i : Nat) (c : Cause) : s.Within (t.fillFailed d i c) d := (h.modRegion _).failReaders _ _

theorem writeThrough (h : s.Within t d) (r : Request) (data : List Byte) : s.Within (t.writeThrough d r data) d := by
  unfold State.writeThrough
  split
  · exact (h.putFrame _ _ _ _).modRegion _
  · exact h

theorem emptyTrack (h : s.Within t d) (c n : Nat) : s.Within (t.emptyTrack d c n) d := by
  unfold State.emptyTrack
  split
  · exact h.modRegion _
  · exact h

theorem emptyTrackIf (h : s.Within t d) (p : Bool) (c n : Nat) : s.Within (if p then t.emptyTrack d c n else t) d := by
  split
  · exact h.emptyTrack c n
  · exact h

theorem emptyRegion (h : s.Within t d) : s.Within (t.emptyRegion d) d := (h.modRegion _).failReaders _ _

theorem failCacheRead (h : s.Within t d) (c : Cause) (r : Request) : s.Within (t.failCacheRead d c r) d := by
  unfold State.failCacheRead
  split
  · exact (h.modRegion _).failReaders _ _
  · exact h.answer _ _ _
  · exact h

theorem prepareRegion (h : s.Within t d) : s.Within (t.prepareRegion d) d := by
  unfold State.prepareRegion
  split
  · have all := ((h.modRegion Region.dropValid).modQueue fun q =>
      q.filter fun r => !(r.isCacheRead && r.state == .queued)).foldl (fun _ r h => h.failCacheRead .removed r)
        ((t.drive d).queue.filter fun r => r.isCacheRead && r.state == .queued)
    simp only
    split <;> exact all.modRegion _
  · exact h

/-! ### The index -/

theorem changeEntry (h : s.Within t d) (p : Profile) (n : Nat) (e : Entry) : s.Within (t.changeEntry d p n e) d :=
  (h.setEntry _ _).setSector _ _

theorem await (h : s.Within t d) (w : Waiter) : s.Within (t.await d w) d := h.modVol _

theorem offerOne (h : s.Within t d) : s.Within (t.offerOne d) d := by
  unfold State.offerOne
  split
  · exact (h.setSector _ _).place _
  · exact h

theorem offers (h : s.Within t d) : s.Within (t.offers d) d := h.offerOne.offerOne

theorem setWriteBack (h : s.Within t d) (l : Line) (b : BufId) (x : WriteBack) : s.Within (t.setWriteBack d l b x) d :=
  h.modQueue _

theorem dropWaiter (h : s.Within t d) (l : Line) (b : BufId) : s.Within (t.dropWaiter d l b) d := h.modVol _

theorem answerWaiter (h : s.Within t d) (w : Waiter) : s.Within (t.answerWaiter d w) d := by
  unfold State.answerWaiter
  split
  · exact h.answer _ _ _
  · exact h.setWriteBack _ _ _
  · exact h.answer _ _ _

theorem failWaiter (h : s.Within t d) (c : Cause) (w : Waiter) : s.Within (t.failWaiter d c w) d := by
  unfold State.failWaiter
  split
  · exact h.setWriteBack _ _ _
  · exact h.answer _ _ _

theorem loseWaiter (h : s.Within t d) (w : Waiter) : s.Within (t.loseWaiter w) d := by
  unfold State.loseWaiter
  split
  · exact h
  · exact h.answer _ _ _

theorem coverSector (h : s.Within t d) (j : Nat) : s.Within (t.coverSector d j) d := (h.setSector _ _).modVol _

theorem indexWritten (h : s.Within t d) (j : Nat) : s.Within (t.indexWritten d j) d :=
  ((h.setSector _ _).modVol _).foldl (fun _ _ h => h.answerWaiter _) _

theorem indexRemoved (h : s.Within t d) (j : Nat) : s.Within (t.indexRemoved d j) d := (h.setSector _ _).modVol _

theorem indexFaulted (h : s.Within t d) (j : Nat) : s.Within (t.indexFaulted d j) d :=
  ((h.setSector _ _).modVol _).foldl (fun _ _ h => h.failWaiter _ _) _

theorem dropHold (h : s.Within t d) (r : Request) : s.Within (t.dropHold d r) d := by
  unfold State.dropHold
  split
  · exact h.modVol _
  · exact h

theorem failRequest (h : s.Within t d) (c : Cause) (r : Request) : s.Within (t.failRequest d c r) d := by
  unfold State.failRequest
  split
  · exact h
  · split
    · exact h.fillFailed _ _
    · exact (((h.dropHold r).dropWaiter _ _).answer _ _ _).emptyTrackIf _ _ _
    · exact (h.setSweepFlag false).answer _ _ _
    · exact h.answer _ _ _
    · exact h.answer _ _ _
    · exact h

theorem withdraw (h : s.Within t d) (p : Request → Bool) (c : Cause) : s.Within (t.withdraw d p c) d :=
  (h.modQueue _).foldl (fun _ _ h => h.failRequest c _) _

theorem leave (h : s.Within t d) : s.Within (t.leave d) d := by
  unfold State.leave
  split
  · exact h.dropSelected.dropHold _
  · exact h

/-! ### The life of a volume -/

theorem resetMargins (h : s.Within t d) : s.Within (t.resetMargins d) d := (h.setMargin _ _).setMargin _ _

theorem beginMount (h : s.Within t d) : s.Within (t.beginMount d) d := ((h.modVol _).resetMargins).placeVolume _

theorem mountReport (h : s.Within t d) : s.Within (t.mountReport d) d := by
  unfold State.mountReport
  split
  · exact h.beginMount
  · exact h
  · exact h
  · exact h.offers

theorem offerLoads (h : s.Within t d) (p : Profile) : s.Within (t.offerLoads d p) d := by
  unfold State.offerLoads
  simp only
  split
  · exact h.placeVolume _
  · exact (h.placeVolume _).placeVolume _

theorem labelDone (h : s.Within t d) (data : Option (List Byte)) : s.Within (t.labelDone d data) d := by
  unfold State.labelDone
  split
  · exact h.modVol _
  · simp only
    split
    · exact h.modVol _
    · exact (h.modVol _).offerLoads _

theorem tryMountEnd (h : s.Within t d) : s.Within (t.tryMountEnd d) d := by
  unfold State.tryMountEnd
  split
  · exact h
  · split
    · exact (h.modVol _).modRegion _
    · exact h

theorem loadDone (h : s.Within t d) (r : Request) (good : List Nat) : s.Within (t.loadDone d r good) d := by
  unfold State.loadDone
  split
  · exact (h.modVol _).tryMountEnd
  · exact h

theorem unloadIdle (h : s.Within t d) : s.Within (t.unloadIdle d) d := by
  unfold State.unloadIdle
  split
  · exact h.modPos _
  · exact h

theorem releaseVolume (h : s.Within t d) : s.Within (t.releaseVolume d) d :=
  (((h.modVol _).modRegion _).modClaims _).unloadIdle

theorem answerEject (h : s.Within t d) (p : Option PendingVolume) : s.Within (t.answerEject p) d := by
  unfold State.answerEject
  split
  · exact h.answer _ _ _
  · exact h

theorem failPending (h : s.Within t d) (c : Cause) (p : Option PendingVolume) : s.Within (t.failPending c p) d := by
  unfold State.failPending
  split
  · exact h.answer _ _ _
  · exact h.answer _ _ _
  · exact h

theorem loseVolume (h : s.Within t d) : s.Within (t.loseVolume d) d :=
  ((h.modVol _).foldl (fun _ _ h => h.loseWaiter _) _).failPending _ _

theorem offerLabelWrite (h : s.Within t d) (p : Profile) : s.Within (t.offerLabelWrite d p) d := by
  unfold State.offerLabelWrite
  split
  · exact (h.modVol _).placeVolume _
  · exact h

theorem offerIndexInit (h : s.Within t d) (p : Profile) (j : Nat) : s.Within (t.offerIndexInit d p j) d :=
  (h.modVol _).placeVolume _

theorem prepareEnd (h : s.Within t d) (p : Profile) : s.Within (t.prepareEnd d p) d := by
  unfold State.prepareEnd
  split
  · exact (h.answer _ _ _).beginMount
  · exact h.beginMount

theorem nextIndexInit (h : s.Within t d) (p : Profile) (j : Nat) : s.Within (t.nextIndexInit d p j) d := by
  unfold State.nextIndexInit
  split
  · exact h.offerIndexInit p j
  · exact h.prepareEnd p

theorem afterFormat (h : s.Within t d) (p : Profile) (c n : Nat) : s.Within (t.afterFormat d p c n) d := by
  unfold State.afterFormat
  simp only
  split
  · exact (h.modVol _).placeVolume _
  · exact (h.modVol _).offerLabelWrite p

theorem prepareNext (h : s.Within t d) (r : Request) : s.Within (t.prepareNext d r) d := by
  unfold State.prepareNext
  split
  · exact h
  · split
    · exact h.afterFormat _ _ _
    · exact h.nextIndexInit _ _
    · exact h.nextIndexInit _ _
    · exact h

theorem prepareFailed (h : s.Within t d) (c : Cause) : s.Within (t.prepareFailed d c) d := (h.modVol _).failPending _ _

theorem beginPrepare (h : s.Within t d) (l : Line) (b : BufId) (i : LabelInfo) (q : Quantized) :
    s.Within (t.beginPrepare d l b i q) d := (((h.modVol _).prepareRegion).modClaims _).placeVolume _

/-! ### Asking the channel, moves and recalibrations -/

theorem givenUp (h : s.Within t d) (r : Request) : s.Within (t.givenUp d r) d := by
  unfold State.givenUp
  split
  · exact (h.indexRemoved _).emptyTrackIf _ _ _
  · exact (h.prepareFailed _).emptyTrackIf _ _ _
  · exact (h.prepareFailed _).emptyTrack _ _
  · exact h.failRequest _ _

theorem withdrawSelected (h : s.Within t d) (r : Request) : s.Within (t.withdrawSelected d r) d :=
  ((h.leave.setAsking _).setOp _).givenUp r

theorem ask (h : s.Within t d) : s.Within (t.ask d) d := by
  unfold State.ask
  split
  · split
    · exact h.withdrawSelected _
    · exact h.setAsking _
  · exact h

theorem beginMove (h : s.Within t d) : s.Within (t.beginMove d) d := by
  unfold State.beginMove
  simp only
  split
  · split
    · exact h.ask
    · split
      · exact h.modPos _
      · exact h
  · exact h

theorem arrive (h : s.Within t d) : s.Within (t.arrive d) d := (h.modPos _).ask

theorem reportReady (h : s.Within t d) : s.Within (t.reportReady d) d := by
  unfold State.reportReady
  split
  · exact h
  · split
    · exact h.modDrive _
    · exact (h.modDrive _).mountReport

theorem restedAtZero (h : s.Within t d) (n : Nat) : s.Within (t.restedAtZero d n) d := ((h.modPos _).reportReady).beginMove

theorem recalibrate (h : s.Within t d) : s.Within (t.recalibrate d) d := by
  unfold State.recalibrate
  split
  · exact (h.modPos _).restedAtZero _
  · exact h.modPos _

theorem lostPosition (h : s.Within t d) : s.Within (t.lostPosition d) d := (h.modPos _).recalibrate

theorem releaseReport (h : s.Within t d) : s.Within (t.releaseReport d) d := by
  unfold State.releaseReport
  split
  · exact (h.modDrive _).mountReport
  · exact h

/-! ### Removals and faults -/

theorem endGrant (h : s.Within t d) : s.Within (t.endGrant d) d := (h.modChannel (.same rfl rfl rfl rfl)).modPos _

theorem unlearn (h : s.Within t d) : s.Within (t.unlearn d) d := by
  unfold State.unlearn
  split
  · exact h.foldl (fun _ _ h => h.setMargin _ _) _
  · exact h

theorem abortChannel (h : s.Within t d) : s.Within (t.abortChannel d) d := by
  have start : s.Within (if t.channel.granted = some d then t.endGrant d else t) d := by
    split
    · exact h.endGrant
    · exact h
  exact (((start.unlearn).setAsking _).setOp _).setSweepFlag _

theorem removal (h : s.Within t d) (c : DriveCondition) : s.Within (t.removal d c) d := by
  unfold State.removal
  exact ((((h.abortChannel).loseVolume).withdraw _ _).emptyRegion).modClaims _ |>.modDrive _

theorem restoreArea (h : s.Within t d) (r : Request) : s.Within (t.restoreArea d r) d := by
  unfold State.restoreArea
  split
  · exact h.modVol _
  · exact h.modVol _
  · exact h

theorem dropVolumeRequest (h : s.Within t d) (r : Request) : s.Within (t.dropVolumeRequest d r) d := by
  unfold State.dropVolumeRequest
  split
  · exact (h.indexRemoved _).emptyTrackIf _ _ _
  · exact (h.prepareFailed _).emptyTrackIf _ _ _
  · exact (h.prepareFailed _).emptyTrack _ _
  · exact h

theorem faultAnswers (h : s.Within t d) : s.Within (t.faultAnswers d) d :=
  (((h.abortChannel).foldl (fun _ _ h => h.failRequest _ _) _).foldl (fun _ _ h => h.restoreArea _) _).foldl
    (fun _ _ h => h.dropVolumeRequest _) _

theorem fault (h : s.Within t d) (c : FaultCause) : s.Within (t.fault d c) d := by
  rw [State.fault_eq]
  exact h.faultAnswers.modDrive _

theorem enterSpeedCheck (h : s.Within t d) : s.Within (t.enterSpeedCheck d) d := by
  unfold State.enterSpeedCheck
  simp only
  split
  · exact (h.modDrive _).fault _
  · exact h.modDrive _

theorem enterReady (h : s.Within t d) : s.Within (t.enterReady d) d := by
  unfold State.enterReady
  simp only
  split
  · exact (h.modDrive _).fault _
  · exact (h.modDrive _).recalibrate

theorem enterByReady (h : s.Within t d) : s.Within (t.enterByReady d) d := by
  unfold State.enterByReady
  split
  · exact h.enterSpeedCheck
  · exact h.modDrive _

theorem takeOffline (h : s.Within t d) : s.Within (t.takeOffline d) d := (h.removal _).modPos _

/-! ### The selection and the operation in service -/

theorem select (h : s.Within t d) (us : Nat) : s.Within (t.select d us) d := by
  unfold State.select
  split
  · split
    · exact (h.modDrive _).beginMove
    · exact h
  · exact h

theorem chanState (h : s.Within t d) (x : ChanState) : s.Within (t.chanState x) d := h.modChannel (.same rfl rfl rfl rfl)
theorem closeGate (h : s.Within t d) : s.Within t.closeGate d := h.modChannel (.same rfl rfl rfl rfl)
theorem openGate (h : s.Within t d) (r : Request) (x : ChanState) (items : List TrackItem) :
    s.Within (t.openGate r x items) d :=
  ⟨⟨h.others.drives, h.others.regions, h.others.vols⟩, h.ops, h.asking, h.margins, h.cfg, h.part, h.clock, h.pending⟩
theorem startAttempt (h : s.Within t d) (r : Request) (o : OpRecord) (x : ChanState) (y : Option Strobe) :
    s.Within (t.startAttempt d r o x y) d := (h.setOp _).chanState _
theorem countFailed (h : s.Within t d) (n : Nat) : s.Within (t.countFailed n) d := h.modChannel (.same rfl rfl rfl rfl)
theorem countCheck (h : s.Within t d) (c : Cause) : s.Within (t.countCheck c) d := by
  unfold State.countCheck
  split
  · exact h.modChannel (.same rfl rfl rfl rfl)
  · exact h
theorem countRecovered (h : s.Within t d) (o : OpRecord) : s.Within (t.countRecovered o) d := by
  unfold State.countRecovered
  split
  · exact h.modChannel (.same rfl rfl rfl rfl)
  · exact h
theorem countWrite (h : s.Within t d) (o : OpRecord) : s.Within (t.countWrite o) d := by
  unfold State.countWrite
  split
  · exact h.modChannel (.same rfl rfl rfl rfl)
  · exact h
theorem learn (h : s.Within t d) (r : Request) (o : OpRecord) : s.Within (t.learn d r o) d := by
  unfold State.learn
  split
  · exact (h.setMargin _ _).setOp _
  · exact h

theorem opEnd (h : s.Within t d) : s.Within (t.opEnd d) d := ((h.endGrant).setOp _).leave

theorem deskWritten (h : s.Within t d) (l : Line) (b : BufId) (ext : Option WriteBack) (rec : Bool) :
    s.Within (t.deskWritten d l b ext rec) d := by
  unfold State.deskWritten
  split
  · exact h.answer _ _ _
  · exact h.answer _ _ _
  · exact h.answer _ _ _
  · exact h.modVol _

theorem writeSucceeded (h : s.Within t d) (r : Request) (o : OpRecord) : s.Within (t.writeSucceeded d r o) d := by
  have ended := (h.writeThrough r (t.sectorData d r o)).opEnd
  unfold State.writeSucceeded
  simp only
  split
  · exact ended.deskWritten _ _ _ _
  · exact (ended.indexWritten _).offers
  · exact ended.prepareNext r
  · exact ended

theorem formatSucceeded (h : s.Within t d) (r : Request) : s.Within (t.formatSucceeded d r) d :=
  ((h.opEnd).emptyTrack _ _).prepareNext r

theorem opFailed (h : s.Within t d) (r : Request) (c : Cause) : s.Within (t.opFailed d r c) d := by
  have ended := (h.countCheck c).opEnd
  unfold State.opFailed
  simp only
  split
  · exact ((ended.indexFaulted _).emptyTrack _ _).offers
  · exact (ended.prepareFailed _).emptyTrack _ _
  · exact (ended.prepareFailed _).emptyTrack _ _
  · exact ended.failRequest _ _

theorem fillEnd (h : s.Within t d) (r : Request) (o : OpRecord) : s.Within (t.fillEnd d r o) d := by
  have ended := (h.countFailed o.failing.length).opEnd
  unfold State.fillEnd
  simp only
  split
  · exact ended.fillDone r _ _ _
  · exact ended.labelDone _
  · exact ended.loadDone r _
  · exact ended

theorem seekFailed (h : s.Within t d) (r : Request) : s.Within (t.seekFailed d r) d := by
  unfold State.seekFailed
  split
  · exact (h.opEnd).fillFailed _ _
  · exact (h.opEnd).labelDone _
  · exact (h.opEnd).loadDone r _
  · exact h.opFailed r _

theorem suspend (h : s.Within t d) (r : Request) : s.Within (t.suspend d r) d := by
  unfold State.suspend
  simp only
  split
  · exact (h.endGrant).withdrawSelected r
  · exact ((h.endGrant).modSelected _).setAsking _

theorem checkFailed (h : s.Within t d) (r : Request) (o : OpRecord) : s.Within (t.checkFailed d r o) d := by
  unfold State.checkFailed
  split
  · exact h.opFailed r _
  · split
    · exact h.suspend r
    · exact h.startAttempt _ _ _ _

theorem releaseStep3 (h : s.Within t d) (o : OpRecord) : s.Within (t.releaseStep3 d o) d :=
  (((h.endGrant).setOp _).modSelected _).lostPosition

theorem step2 (h : s.Within t d) (r : Request) (o : OpRecord) (tried : Option Strobe) : s.Within (t.step2 d r o tried) d := by
  unfold State.step2
  split
  · exact h.startAttempt _ _ _ _
  · exact h.releaseStep3 o

theorem ladderEnd (h : s.Within t d) (r : Request) (o : OpRecord) : s.Within (t.ladderEnd d r o) d := by
  unfold State.ladderEnd
  split
  · exact h.fillEnd r o
  · split
    · exact (h.countFailed 1).opFailed r _
    · exact h.opFailed r _

theorem ladderNext (h : s.Within t d) (r : Request) (o : OpRecord) : s.Within (t.ladderNext d r o) d := by
  unfold State.ladderNext
  split
  · exact h.startAttempt _ _ _ _
  · exact h.step2 _ _ _
  · exact h.step2 _ _ _
  · exact h.ladderEnd r o

theorem endPass (h : s.Within t d) (r : Request) (o : OpRecord) : s.Within (t.endPass d r o) d := by
  unfold State.endPass
  simp only
  split
  · exact h.fillEnd r _
  · exact h.ladderNext r _

theorem endUnreported (h : s.Within t d) : s.Within (t.endUnreported d) d := (h.endGrant).setOp _

theorem formatCut (h : s.Within t d) (r : Request) : s.Within (t.formatCut d r) d := by
  unfold State.formatCut
  split
  · exact h.closeGate.endUnreported
  · exact h.closeGate.suspend r

theorem takeImage (h : s.Within t d) (r : Request) (o : OpRecord) : s.Within (t.takeImage d r o) d := by
  unfold State.takeImage
  split
  · split
    · exact (h.setOp _).coverSector _
    · exact h
  · exact h

theorem sectorGate (h : s.Within t d) (r : Request) (o : OpRecord) : s.Within (t.sectorGate d r o) d := by
  unfold State.sectorGate
  split
  · exact h
  · exact h.opFailed r _
  · exact h.suspend r
  · exact (h.takeImage r o).openGate _ _ _

theorem formatGate (h : s.Within t d) (r : Request) : s.Within (t.formatGate d r) d := by
  unfold State.formatGate
  split
  · exact h
  · exact h.opFailed r _
  · exact h.suspend r
  · exact h.openGate _ _ _

end State.Within

/-! ### One operation for each drive in turn -/

theorem mem_allDrives (d : DriveId) : d ∈ allDrives := by
  revert d
  decide

/-- Where the turns of the other drives leave alone what `R` says of a drive, its own turn finds that as it was at the
beginning, and what it makes stands at the end. -/
theorem State.eachDrive_turn {f : State → DriveId → State} (R : DriveId → State → State → Prop) (refl : ∀ d s, R d s s)
    (trans : ∀ d s t u, R d s t → R d t u → R d s u) (other : ∀ t d e, d ≠ e → R e t (f t d)) (s : State) (d : DriveId) :
    ∃ u, R d s u ∧ R d (f u d) (s.eachDrive f) := by
  have rest (xs : List DriveId) (s : State) (h : d ∉ xs) : R d s (xs.foldl f s) := by
    induction xs generalizing s with
    | nil => exact refl d s
    | cons x xs ih =>
      obtain ⟨ne, h⟩ := not_or.1 (mt List.mem_cons.2 h)
      exact trans _ _ _ _ (other s x d (Ne.symm ne)) (ih _ h)
  have turn (xs : List DriveId) (s : State) (nodup : xs.Nodup) (h : d ∈ xs) : ∃ u, R d s u ∧ R d (f u d) (xs.foldl f s) := by
    induction xs generalizing s with
    | nil => cases h
    | cons x xs ih =>
      obtain ⟨notin, nodup⟩ := List.nodup_cons.1 nodup
      by_cases e : x = d
      · exact ⟨s, refl d s, e ▸ rest xs (f s x) (e ▸ notin)⟩
      · obtain ⟨u, before, after⟩ := ih (f s x) nodup ((List.mem_cons.1 h).resolve_left (Ne.symm e))
        exact ⟨u, trans _ _ _ _ (other s x d e) before, after⟩
  exact turn allDrives s (by decide) (mem_allDrives d)

end Sys2Proof.Machine
end

section
/-! Settlement of the statements on the queue of commands, the reset and the start-up (Chapter 10). -/
namespace Sys2Proof.Machine

/-- Settles O1. -/
theorem stepRunsTheFrontCommand : Obligations.StepRunsTheFrontCommand :=
  fun _ => ⟨fun _ _ e => by simp [step, e], fun e => by simp [step, e]⟩

/-! ### What a reset leaves of each block -/

/-- R42, R20, R25: the condition a drive comes out of reset in. -/
theorem freshDrive_condition (used : Bool) (v : DriveLevels) : (freshDrive used v).condition = resetCondition used v := by
  obtain ⟨ready, _, _, _, fault⟩ := v
  cases used <;> cases ready <;> cases fault <;> rfl

theorem freshDrive_noIndexTimer (used : Bool) (v : DriveLevels) :
    (freshDrive used v).noIndexTimer = true ↔ (freshDrive used v).condition = .speedCheck := by
  obtain ⟨ready, _, _, _, fault⟩ := v
  cases used <;> cases ready <;> cases fault <;> simp [freshDrive, startCondition]

/-- R42: no fault cause, but that of the DRIVE-FAULT which makes the drive FAULTED at once (R25). -/
theorem freshDrive_cause (used : Bool) (v : DriveLevels) :
    ((freshDrive used v).condition ≠ .faulted → (freshDrive used v).cause = .noCause)
      ∧ ((freshDrive used v).condition = .faulted → (freshDrive used v).cause = .driveFault) := by
  obtain ⟨ready, _, _, _, fault⟩ := v
  cases used <;> cases ready <;> cases fault <;> simp [freshDrive, startCondition]

theorem freshLine_atReset (present : Bool) (n : Nat) (r : Rate) : (freshLine present n r).AtReset present n r := by
  refine ⟨⟨rfl, ?_⟩, fun b => by simp [freshLine], ⟨rfl, rfl, rfl⟩, rfl, rfl, rfl⟩
  cases present <;> simp [LineUnit.portState, freshLine, Vector.get]

theorem freshVolume_dirtySet : freshVolume.dirtySet = [] := rfl

theorem defaultConfig_rates (r : Rate) (l : Line) :
    (defaultConfig r).rates.get l = if l = 0 then r else .b9600 := by
  refine (vector_get_set (Vector.replicate 8 Rate.b9600) 0 l r).trans ?_
  simp [eq_comm (a := (0 : Line))]

/-! ### Every block at once -/

/-- The blocks of a state are those of a reset with the levels and straps of `i`, the part and the clock aside. -/
structure State.Fresh (t : State) (i : Inputs) : Prop where
  lines   : ∀ l, t.line l = freshLine (i.linePresent.get l) 120 (if l = 0 then i.straps.rate0 else .b9600)
  drives  : ∀ d, t.drive d = freshDrive (driveInUse i.straps t.cfg.drivesInUse d) (i.drives.get d)
  channel : t.channel = freshChannel t.cfg i.supply
  regions : ∀ d, t.region d = freshRegion
  vols    : ∀ d, t.vol d = freshVolume
  cw      : t.cw = freshClaimUnit
  cfg     : t.cfg = defaultConfig i.straps.rate0
  arrival : t.arrival = 0

theorem State.afterReset_fresh (s : State) (i : Inputs) : (s.afterReset i).Fresh i :=
  ⟨fun l => (vector_get_ofFn _ l).trans (congrArg _ (defaultConfig_rates _ _)), fun d => vector_get_ofFn _ d, rfl,
    fun d => vector_get_replicate _ d, fun d => vector_get_replicate _ d, rfl, rfl, rfl⟩

namespace State.Fresh
variable {t : State} {i : Inputs}

/-- Nothing is dirty, no volume is in work and no queue holds anything: no busy lamp (R34). -/
theorem busyLamp (h : t.Fresh i) (d : DriveId) : t.busyLamp d = false := by
  rw [State.busyLamp, h.vols, h.drives, freshVolume_dirtySet]
  simp [freshVolume, freshDrive]

theorem writeGate (h : t.Fresh i) (d : DriveId) : t.writeGate d = false := by
  simp [State.writeGate, h.channel, freshChannel]

theorem attention (h : t.Fresh i) (l : Line) : t.attention l = false :=
  State.attention_of_nothing (h.cw ▸ (freshClaimUnit_without l).watches) (h.cw ▸ (freshClaimUnit_without l).flag)

theorem blocksAtReset (h : t.Fresh i) : t.BlocksAtReset i := by
  refine ⟨fun d => ?_, ?_, fun d => ?_, fun d => ?_, fun d => ?_, ?_, h.arrival⟩
  · have busy := h.busyLamp d
    have gate := h.writeGate d
    rw [h.drives]
    exact ⟨rfl, freshDrive_condition _ _, rfl, freshDrive_noIndexTimer _ _, rfl, rfl, rfl, rfl, rfl, rfl, busy, gate⟩
  · rw [h.channel]
    simp [freshChannel]
  · have op : t.op d = none := by simp [State.op, h.channel, freshChannel]
    refine ⟨by simp [h.channel, freshChannel], op, by simp [h.channel, freshChannel], fun z => ?_⟩
    cases z <;> simp [State.margin, h.channel, freshChannel, freshMargin]
  · rw [h.regions]
    exact ⟨rfl, rfl⟩
  · rw [h.vols]
    refine ⟨rfl, rfl, rfl, rfl, rfl, fun n => ?_, rfl, rfl, rfl, rfl, rfl⟩
    by_cases lt : n < 256 <;> simp [Volume.entry, freshVolume, Vector.getD, lt]
  · rw [h.cw]
    exact ⟨rfl, rfl, fun l => (freshClaimUnit_without l).watches, fun l => ⟨(freshClaimUnit_without l).flag, h.attention l⟩⟩

theorem causes (h : t.Fresh i) (d : DriveId) :
    ((t.drive d).condition ≠ .faulted → (t.drive d).cause = .noCause)
      ∧ ((t.drive d).condition = .faulted → (t.drive d).cause = .driveFault) := by
  rw [h.drives]
  exact freshDrive_cause _ _

theorem atReset (h : t.Fresh i) (l : Line) :
    (t.line l).AtReset (i.linePresent.get l) 120 (if l = 0 then i.straps.rate0 else .b9600) := by
  rw [h.lines]
  exact freshLine_atReset _ _ _

end State.Fresh

/-- The external reset held changes of a reset the part alone (R189). -/
theorem State.holdReset_fresh (s : State) (p : Bool) :
    (s.holdReset p).Fresh (s.inputsNow { s.part.straps with lowCurrentHigh := p }) :=
  have h := s.afterReset_fresh (s.inputsNow { s.part.straps with lowCurrentHigh := p })
  ⟨h.lines, h.drives, h.channel, h.regions, h.vols, h.cw, h.cfg, h.arrival⟩

@[simp] theorem State.inputsNow_linePresent (s : State) (straps : Straps) (l : Line) :
    (s.inputsNow straps).linePresent.get l = (s.line l).present := vector_get_ofFn _ l

/-- Settles O2: each command leaves a state whose blocks are `State.Fresh`. -/
theorem powerOnAndResetTakeTheResetState : Obligations.PowerOnAndResetTakeTheResetState := by
  refine ⟨fun s i => ?_, fun s => ⟨fun p => ?_, fun straps held => ?_⟩⟩
  · have h := s.afterReset_fresh i
    refine ⟨s.afterReset i, rfl, rfl, rfl, h.blocksAtReset, h.causes, fun l => ⟨h.atReset l, ?_⟩, fun d => ?_,
      rfl, rfl, rfl, rfl, rfl, rfl, rfl, rfl, rfl⟩
    · rw [h.lines]
      exact ⟨rfl, rfl, rfl⟩
    · rw [h.drives, h.regions]
      exact ⟨rfl, rfl, rfl, rfl, rfl, rfl, rfl, rfl⟩
  · have h := s.holdReset_fresh p
    refine ⟨s.holdReset p, rfl, rfl, rfl, rfl, rfl, h.blocksAtReset, h.causes, fun l => ?_, fun d => ⟨h.writeGate d, ?_⟩,
      rfl, rfl⟩
    · exact s.inputsNow_linePresent _ l ▸ h.atReset l
    · have low : (s.holdReset p).lowCurrent d = false := rfl
      have strap : (s.holdReset p).part.straps.lowCurrentHigh = p := rfl
      cases p <;> simp [State.lowCurrentPin, low, strap]
  · have h := s.afterReset_fresh (s.inputsNow straps)
    refine ⟨s.afterReset (s.inputsNow straps), ?_, rfl, rfl, h.blocksAtReset, h.causes, fun l => ?_, rfl, rfl⟩
    · simp [exec, execExternalResetReleased, held]
    · exact s.inputsNow_linePresent _ l ▸ h.atReset l

/-! ### The end of START-UP (R108, R189) -/

theorem State.mayRun_iff (s : State) :
    s.mayRun = true ↔ s.part.state = .startUp ∧ s.part.extReset = false ∧ s.part.selfTest = false
      ∧ ∀ l, (s.line l).resetDue = false := by
  have every (p : Line → Bool) : allLines.all p = true ↔ ∀ l, p l = true := by
    simp [allLines, Fin.forall_fin_succ]
  simp [State.mayRun, every, and_assoc]

theorem State.eachDrive_id {s : State} {f : State → DriveId → State} (h : ∀ d, f s d = s) : s.eachDrive f = s := by
  simp [State.eachDrive, allDrives, h]

/-- A mount begins with a volume place free (R113 item 1). -/
theorem State.beginMount_drive {s : State} {d : DriveId} (room : (s.drive d).volumeFree = true) :
    (s.beginMount d).drive d
      = { s.drive d with queue := (s.drive d).queue ++ [{ labelRequest with arrival := s.arrival }] } := by
  unfold State.beginMount State.placeVolume
  rw [if_pos (by simpa [State.resetMargins] using room), State.place_drive]
  simp [State.resetMargins]

theorem State.beginMount_vol (s : State) (d : DriveId) : (s.beginMount d).vol d = { freshVolume with state := .mounting } := by
  unfold State.beginMount State.placeVolume
  split <;> simp [State.resetMargins]

/-- A held report of a drive without a volume is acted on: the mount begins (R189, R113). -/
theorem State.releaseReport_mounts {s : State} {d : DriveId} (held : (s.drive d).reportHeld = true)
    (none : (s.vol d).state = .noVolume) (idle : (s.drive d).queue = []) :
    (s.releaseReport d).drive d
        = { s.drive d with reportHeld := false, queue := [{ labelRequest with arrival := s.arrival }] }
      ∧ (s.releaseReport d).vol d = { freshVolume with state := .mounting } := by
  have room : ((s.modDrive d fun u => { u with reportHeld := false }).drive d).volumeFree = true := by
    simp [DriveSeq.volumeFree, DriveSeq.volumePlaces, idle]
  have mounts : s.releaseReport d = (s.modDrive d fun u => { u with reportHeld := false }).beginMount d := by
    simp [State.releaseReport, held, State.mountReport, none]
  rw [mounts, State.beginMount_drive room, State.beginMount_vol]
  simp [idle]

/-- Settles O3: each drive's held report is acted on in that drive's turn. -/
theorem startUpEndsInRunning : Obligations.StartUpEndsInRunning := by
  refine ⟨fun s => ⟨fun failed startUp testing => ?_, fun startUp tested live reset unheld => ?_, fun testing => ?_⟩,
    fun s startUp tested live reset => ?_⟩
  · exact ⟨_, congrArg Host.Outcome.next (if_pos ⟨startUp, testing⟩), fun d => vector_get_ofFn _ d, rfl⟩
  · have may : s.mayRun = true := s.mayRun_iff.2 ⟨startUp, live, tested, reset⟩
    have quiet (d : DriveId) : (s.modPart fun p => { p with state := .running }).releaseReport d
        = s.modPart fun p => { p with state := .running } := by simp [State.releaseReport, unheld]
    simp only [exec, execPartRunning, may, if_true, State.eachDrive_id quiet]
    rfl
  · have mayNot : s.mayRun = false := by
      rw [Bool.eq_false_iff, Ne, s.mayRun_iff]
      exact fun may => nomatch testing.symm.trans may.2.2.1
    simp [exec, execPartRunning, mayNot]
  · have may : s.mayRun = true := s.mayRun_iff.2 ⟨startUp, live, tested, reset⟩
    refine ⟨_, by simp only [exec, execPartRunning, may, if_true]; rfl, ?_, fun d held none idle => ?_⟩
    · exact State.eachDrive_keeps (fun u => u.part = { s.part with state := .running }) _
        (fun u e h => (((State.Within.refl u e).releaseReport).part).trans h) _ rfl
    · obtain ⟨u, ⟨drive, vol⟩, done⟩ := State.eachDrive_turn (f := fun s d => s.releaseReport d)
        (fun d s t => t.drive d = s.drive d ∧ t.vol d = s.vol d) (fun _ _ => ⟨rfl, rfl⟩)
        (fun _ _ _ _ a b => ⟨b.1.trans a.1, b.2.trans a.2⟩)
        (fun t d e ne => ⟨((State.Within.refl t d).releaseReport).others.drives e (Ne.symm ne),
          ((State.Within.refl t d).releaseReport).others.vols e (Ne.symm ne)⟩)
        (s.modPart fun p => { p with state := .running }) d
      have drive : u.drive d = s.drive d := drive
      have vol : u.vol d = s.vol d := vol
      obtain ⟨drive', vol'⟩ := State.releaseReport_mounts (drive ▸ held) (vol ▸ none) (drive ▸ idle)
      rw [done.1, done.2, drive', vol']
      exact ⟨rfl, rfl, _, rfl, rfl, rfl, rfl, rfl, rfl, rfl⟩

end Sys2Proof.Machine
end

section
/-! Settlement of the statements on receiving and judging frames (sections 9.2 to 9.4). -/
namespace Sys2Proof.Machine

theorem State.modLine_congr {s : State} {l : Line} {f g : LineUnit → LineUnit} (h : f (s.line l) = g (s.line l)) :
    s.modLine l f = s.modLine l g := by rw [State.modLine, State.modLine, h]

/-- An update that leaves a line unit as it is changes nothing. -/
theorem State.modLine_same {s : State} {l : Line} {f : LineUnit → LineUnit} (h : f (s.line l) = s.line l) :
    s.modLine l f = s := by
  have : s.lines.set l.val (s.line l) l.isLt = s.lines := Vector.set_getElem_self l.isLt
  rw [State.modLine, h, this]

/-! ### Replies join the order -/

/-- A reply that enters the pending place is on the line at once when no other waits (R173, R177). -/
theorem LineUnit.placePending_eq {u : LineUnit} (idle : u.tx = none ↔ u.order = []) (p : PendingReply) :
    u.placePending p = u.pended p := by
  unfold LineUnit.placePending LineUnit.pended
  by_cases empty : u.order = []
  · simp [LineUnit.pump, empty, idle.2 empty]
  · obtain ⟨y, busy⟩ := Option.ne_none_iff_exists'.1 (mt idle.1 empty)
    simp [LineUnit.pump, empty, busy]

/-- A reply that joins the order is on the line at once when no other waits (R176, R177). -/
theorem LineUnit.finish_eq {u : LineUnit} (idle : u.tx = none ↔ u.order = []) (b : BufId) (h : Held) (r : Reply) :
    u.finish b h r =
      { u.setBuf b (some { h with stage := if u.order = [] then .sending else .complete, reply := some r }) with
        order := u.order ++ [ReplySlot.buf b],
        tx := if u.order = [] then some (replyFrame h.tag h.code r) else u.tx } := by
  unfold LineUnit.finish
  by_cases empty : u.order = []
  · simp [LineUnit.pump, empty, idle.2 empty]
    simp [LineUnit.setBuf]
  · obtain ⟨y, busy⟩ := Option.ne_none_iff_exists'.1 (mt idle.1 empty)
    simp [LineUnit.pump, empty, busy]

theorem LineUnit.abandon_eq {u : LineUnit} (idle : u.tx = none ↔ u.order = []) (k : LineFaultKind) :
    u.abandon k = u.abandoning k := by
  unfold LineUnit.abandon LineUnit.abandoning
  simp only
  split
  · next none => rw [if_pos none]; exact LineUnit.placePending_eq (by exact idle) _
  · next some => rw [if_neg (by simp [some])]; rfl

/-! ### The receiver (R172) -/

theorem exec_characterReceived {s : State} (live : s.part.extReset = false) (l : Line) (c : Byte) (bad : Bool) :
    exec (.characterReceived l c bad) s = .next (s.modLine l fun u => u.receive c bad) := by
  simp [exec, execCharacterReceived, live]

theorem exec_frameTimerExpiry {s : State} (live : s.part.extReset = false) (l : Line) :
    exec (.frameTimerExpiry l) s = .next (s.modLine l LineUnit.timeout) := by
  simp [exec, execFrameTimerExpiry, live]

theorem frameLength_two (a c : Byte) (rest : List Byte) : frameLength (a :: c :: rest) = a.toNat * 256 + c.toNat := by
  simp [frameLength, nat2, byteAt]

theorem lengthOk_iff (n : Nat) : lengthOk n = true ↔ 2 ≤ n ∧ n ≤ 1100 := by simp [lengthOk]

/-- A character in RECEIVING is stored (R172). -/
theorem LineUnit.receive_receiving {u : LineUnit} {bs : List Byte} (present : u.present = true) (running : u.resetDue = false)
    (receiving : u.rx = .receiving bs) (c : Byte) : u.receive c false = u.store (bs ++ [c]) := by
  simp [LineUnit.receive, present, running, receiving]

theorem LineUnit.receive_framing {u : LineUnit} {bs : List Byte} (present : u.present = true) (running : u.resetDue = false)
    (receiving : u.rx = .receiving bs) (c : Byte) : u.receive c true = u.abandon .framing := by
  simp [LineUnit.receive, present, running, receiving]

/-- A character after the length is stored, and completes the frame when it is the check (R172). -/
theorem LineUnit.store_after {u : LineUnit} (a c' c : Byte) (rest : List Byte) :
    u.store (a :: c' :: rest ++ [c]) = 
      { u with rx := if rest.length = a.toNat * 256 + c'.toNat then .held (a :: c' :: rest ++ [c]) false
                     else .receiving (a :: c' :: rest ++ [c]) } := by
  have len : frameLength (a :: c' :: rest ++ [c]) = a.toNat * 256 + c'.toNat := frameLength_two _ _ _
  unfold LineUnit.store
  rw [len]
  by_cases done : rest.length = a.toNat * 256 + c'.toNat
  · simp [done]
  · simp [done]

/-- The second length byte abandons a frame of a bad length (R172). -/
theorem LineUnit.store_length {u : LineUnit} (a c : Byte) :
    u.store [a, c] = if lengthOk (a.toNat * 256 + c.toNat) = false then u.abandon .length
      else { u with rx := .receiving [a, c] } := by
  have len : frameLength [a, c] = a.toNat * 256 + c.toNat := frameLength_two _ _ _
  unfold LineUnit.store
  rw [len]
  by_cases ok : lengthOk (a.toNat * 256 + c.toNat) = false
  · simp [ok]
  · simp [ok]

/-- Settles O4, a clause for each state of the receive area. -/
theorem receiverHuntsAssemblesAndAbandons : Obligations.ReceiverHuntsAssemblesAndAbandons := by
  refine ⟨fun s l c bad live => ?_, fun s l bs live present running receiving idle => ?_⟩
  · rw [exec_characterReceived live]
    refine ⟨fun present running hunt start good => ?_, fun hunt other => ?_, fun bs j held => ?_, fun away => ?_⟩
    · exact congrArg _ (State.modLine_congr (by simp [LineUnit.receive, present, running, hunt, start, good, startCode]))
    · refine congrArg _ (State.modLine_same ?_)
      have no : ¬ (bad = false ∧ c = startCode) := fun ⟨good, start⟩ => other.elim (fun ne => ne start) (by simp [good])
      simp [LineUnit.receive, hunt, no]
    · exact congrArg _ (State.modLine_same (by simp [LineUnit.receive, held]))
    · exact congrArg _ (State.modLine_same (by rw [LineUnit.receive, if_pos away]))
  · have store (c : Byte) : (s.line l).receive c false = (s.line l).store (bs ++ [c]) :=
      LineUnit.receive_receiving present running receiving c
    refine ⟨fun c => ?_, ?_, fun first c => ?_, fun a c one bad => ?_, fun a c one low high => ?_,
      fun a c' rest c some more => ?_, fun a c' rest c some last => ?_⟩
    · rw [exec_characterReceived live]
      exact congrArg _ (State.modLine_congr ((LineUnit.receive_framing present running receiving c).trans
        (LineUnit.abandon_eq idle _)))
    · rw [exec_frameTimerExpiry live]
      refine congrArg _ (State.modLine_congr ?_)
      rw [LineUnit.timeout, receiving]
      exact LineUnit.abandon_eq idle _
    all_goals rw [exec_characterReceived live]; refine congrArg _ (State.modLine_congr ((store c).trans ?_))
    · simp [first, LineUnit.store]
    · have no : lengthOk (a.toNat * 256 + c.toNat) = false := by
        rw [Bool.eq_false_iff, ne_eq, lengthOk_iff]; omega
      rw [one]
      exact (LineUnit.store_length a c).trans ((if_pos no).trans (LineUnit.abandon_eq idle _))
    · have ok : lengthOk (a.toNat * 256 + c.toNat) = true := (lengthOk_iff _).2 ⟨low, high⟩
      rw [one]
      exact (LineUnit.store_length a c).trans (if_neg (by simp [ok]))
    · subst some
      rw [LineUnit.store_after, if_neg (Nat.ne_of_lt more)]
    · subst some
      rw [LineUnit.store_after, if_pos last]

/-! ### Judging a frame (R173, R174) -/

theorem exec_frameComplete {s : State} (live : s.part.extReset = false) (l : Line) :
    exec (.frameComplete l) s = .next (s.modLine l fun u => u.frameDone (s.lineCtx l) s.cfg.silence) := by
  simp [exec, execFrameComplete, live]

theorem LineUnit.pendOrHold_free {u : LineUnit} (idle : u.tx = none ↔ u.order = []) (free : u.pendingReply = none)
    (bs : List Byte) (r : Reply) : u.pendOrHold bs r = u.pended { tag := frameTag bs, code := frameCode bs, reply := r } := by
  unfold LineUnit.pendOrHold
  rw [free]
  exact LineUnit.placePending_eq idle _

theorem LineUnit.pendOrHold_held {u : LineUnit} (full : u.pendingReply ≠ none) (bs : List Byte) (r : Reply) :
    u.pendOrHold bs r = { u with rx := .held bs true } := by
  obtain ⟨p, hp⟩ := Option.ne_none_iff_exists'.1 full
  simp [LineUnit.pendOrHold, hp]

theorem LineUnit.freeBuf_none {u : LineUnit} (full : ∀ b, (u.bufs.get b).isSome = true) : u.freeBuf = none := by
  simp [LineUnit.freeBuf, full, Option.isNone_iff_eq_none, ← Option.not_isSome_iff_eq_none]

/-- The FREE buffer of lower number is the one found (R173 item 4). -/
theorem LineUnit.freeBuf_lowest {u : LineUnit} {b : BufId} (free : u.bufs.get b = none)
    (low : ∀ b', b' < b → u.bufs.get b' ≠ none) : u.freeBuf = some b := by
  unfold LineUnit.freeBuf
  match b with
  | 0 => simp [free]
  | 1 => simp [free, low 0 (by decide)]

/-- What R173 items 1 to 3 answer a complete frame without a buffer. -/
def LineUnit.Bounces (u : LineUnit) (running : Bool) (bs : List Byte) (r : Reply) : Prop :=
  (frameGood bs = false ∧ r = .lineFault .check)
    ∨ (frameGood bs = true ∧ running = false ∧ r = .busy .starting)
    ∨ (frameGood bs = true ∧ running = true ∧ (∀ b, (u.bufs.get b).isSome = true) ∧ r = .busy .noBuffer)

theorem LineUnit.judgeSteps_bounces {u : LineUnit} {ctx : LineCtx} {bs : List Byte} {r : Reply}
    (h : u.Bounces ctx.running bs r) : u.judgeSteps ctx bs = u.pendOrHold bs r := by
  unfold LineUnit.judgeSteps
  rcases h with ⟨bad, rfl⟩ | ⟨good, starting, rfl⟩ | ⟨good, running, full, rfl⟩
  · rw [if_pos bad]
  · rw [if_neg (by simp [good]), if_pos starting]
  · rw [if_neg (by simp [good]), if_neg (by simp [running]), LineUnit.freeBuf_none full]

theorem LineUnit.judgeSteps_takes {u : LineUnit} {ctx : LineCtx} {bs : List Byte} {b : BufId} (good : frameGood bs = true)
    (running : ctx.running = true) (free : u.bufs.get b = none) (low : ∀ b', b' < b → u.bufs.get b' ≠ none) :
    u.judgeSteps ctx bs = u.takeFrame ctx b bs := by
  unfold LineUnit.judgeSteps
  rw [if_neg (by simp [good]), if_neg (by simp [running]), LineUnit.freeBuf_lowest free low]

/-- A frame with nothing wrong is handed to its owner (R174 item 4). -/
theorem examine_passes {cls : LineClass} {code : Byte} {body : List Byte} (length : bodyLength code body = some (some body.length))
    (may : permitted code body cls = true) : examine cls code body = none := by simp [examine, length, may]

/-- What the line unit refuses by itself (R174 items 1 to 3). -/
theorem examine_refuses {cls : LineClass} {code : Byte} {body : List Byte} {r : Reason}
    (h : (bodyLength code body ≠ some (some body.length) ∧ r = .badRequest)
      ∨ (bodyLength code body = some (some body.length) ∧ permitted code body cls = false ∧ r = .notPermitted)) :
    examine cls code body = some (.refuse r) := by
  unfold examine
  rcases h with ⟨wrong, rfl⟩ | ⟨length, no, rfl⟩
  · split
    · rfl
    · next want known => rw [if_pos (fun e => wrong (by rw [known, e]))]
  · rw [length]
    simp [no]

/-- Settles O5: the first judging is the counts, then the steps of R173. -/
theorem framesAreJudgedAnsweredOrTaken : Obligations.FramesAreJudgedAnsweredOrTaken := by
  constructor
  · intro s l bs r live held idle answer counted
    have bounces : (counted (s.line l)).Bounces (s.lineCtx l).running bs r := by
      simpa [LineUnit.Bounces, State.lineCtx, counted] using answer
    have judged : (s.line l).frameDone (s.lineCtx l) s.cfg.silence = (counted (s.line l)).pendOrHold bs r := by
      rw [← LineUnit.judgeSteps_bounces bounces, LineUnit.frameDone, held]
      cases g : frameGood bs <;> simp [LineUnit.countFrame, counted, g, bump, held]
    rw [exec_frameComplete live]
    refine ⟨fun free => congrArg _ (State.modLine_congr (judged.trans ?_)), fun full => congrArg _ (State.modLine_congr (judged.trans ?_))⟩
    · exact LineUnit.pendOrHold_free (u := counted (s.line l)) idle free bs r
    · exact LineUnit.pendOrHold_held (u := counted (s.line l)) full bs r
  · intro s l bs b live running held good idle free low h counted
    have judged : (s.line l).frameDone (s.lineCtx l) s.cfg.silence
        = ({ counted (s.line l) with rx := (s.line l).rx } : LineUnit).takeFrame (s.lineCtx l) b bs := by
      rw [LineUnit.frameDone, held]
      refine (LineUnit.judgeSteps_takes (b := b) good (by simp [State.lineCtx, running]) ?_ ?_).trans ?_
      · simpa [LineUnit.countFrame, good] using free
      · simpa [LineUnit.countFrame, good] using low
      · simp [LineUnit.countFrame, good, counted, bump, held]
    rw [exec_frameComplete live]
    refine ⟨fun length may => congrArg _ (State.modLine_congr (judged.trans ?_)), fun r wrong => ?_⟩
    · unfold LineUnit.takeFrame
      have none : examine (s.lineCtx l).cls (frameCode bs) (frameBody bs) = none := examine_passes length may
      simp only [none]
      rfl
    · refine ⟨{ h with stage := if (s.line l).order = [] then .sending else .complete, reply := some (.refused r none) },
        rfl, rfl, rfl, rfl, rfl, rfl, congrArg _ (State.modLine_congr (judged.trans ?_))⟩
      unfold LineUnit.takeFrame
      have some : examine (s.lineCtx l).cls (frameCode bs) (frameBody bs) = some (.refuse r) := examine_refuses wrong
      simp only [some]
      refine (LineUnit.finish_eq (by exact idle) _ _ _).trans ?_
      simp only [LineUnit.setBuf, Vector.set_set, counted, h]
      rfl

end Sys2Proof.Machine
end

section
/-! Settlement of the statements on sending replies, on line loss and on the silence timer (sections 9.5 to 9.7). -/
namespace Sys2Proof.Machine

/-! ### What judging a frame again leaves of a line unit (R173) -/

/-- What of a line unit no judging and no sending of a reply changes: its level, silence timer, rate and counts. -/
def LineUnit.still (u : LineUnit) : Bool × SilenceTimer × Rate × Nat × Nat × Nat × Bool :=
  (u.present, u.silence, u.rate, u.framesTaken, u.checkErrors, u.abandoned, u.resetDue)

theorem LineUnit.eq_of_still {u v : LineUnit} (h : v.still = u.still) :
    v = { u with bufs := v.bufs, order := v.order, pendingReply := v.pendingReply, tx := v.tx, rx := v.rx } := by
  cases u; cases v
  simp only [LineUnit.still, Prod.mk.injEq] at h
  simp [h]

@[simp] theorem LineUnit.pump_still (u : LineUnit) : u.pump.still = u.still := by
  unfold LineUnit.pump
  (repeat' split) <;> rfl

/-- A frame has been judged in `u`, giving `v`: a held buffer is as it was but for its stage, a request that was taken owes
no old rate, and the level, the timer, the rate and the counts are as they were. -/
structure LineUnit.Rejudged (u v : LineUnit) : Prop where
  kept : ∀ b h, u.bufs.get b = some h → ∃ st, v.bufs.get b = some { h with stage := st }
  new  : ∀ b h, u.bufs.get b = none → v.bufs.get b = some h → h.oldRate = false
  same : v.still = u.still

namespace LineUnit.Rejudged
variable {u v : LineUnit}

theorem of_bufs (bufs : v.bufs = u.bufs) (same : v.still = u.still) : u.Rejudged v :=
  ⟨fun b h e => ⟨h.stage, by rw [bufs, e]⟩, fun b h e f => by (rw [bufs, e] at f; cases f), same⟩

theorem pump (r : u.Rejudged v) : u.Rejudged v.pump := by
  refine ⟨fun b h e => ?_, fun b h e f => ?_, ?_⟩
  · obtain ⟨st, g⟩ := r.kept b h e
    rcases v.pump_get b with same | ⟨k, q, hk, _, sending⟩
    · exact ⟨st, same.trans g⟩
    · obtain rfl := Option.some.inj (hk.symm.trans g)
      exact ⟨_, sending⟩
  · rcases v.pump_get b with same | ⟨k, q, hk, _, sending⟩
    · exact r.new b h e (same.symm.trans f)
    · obtain rfl := Option.some.inj (sending.symm.trans f)
      exact r.new b k e hk
  · rw [LineUnit.pump_still, r.same]

/-- A FREE buffer takes a request that owes no old rate. -/
theorem take {b : BufId} {h : Held} (free : u.bufs.get b = none) (old : h.oldRate = false)
    (bufs : ∀ c, v.bufs.get c = if b = c then some h else u.bufs.get c)
    (same : v.still = u.still) : u.Rejudged v := by
  refine ⟨fun c k e => ⟨k.stage, ?_⟩, fun c k e f => ?_, same⟩
  · have ne : b ≠ c := fun here => by rw [← here, free] at e; cases e
    rw [bufs, if_neg ne, e]
  · rw [bufs] at f
    split at f
    · cases f; exact old
    · rw [e] at f; cases f

end LineUnit.Rejudged

theorem LineUnit.pendOrHold_rejudged (u : LineUnit) (bs : List Byte) (r : Reply) : u.Rejudged (u.pendOrHold bs r) := by
  unfold LineUnit.pendOrHold
  split
  · exact LineUnit.Rejudged.pump (.of_bufs rfl rfl)
  · exact .of_bufs rfl rfl

theorem LineUnit.takeFrame_rejudged {u : LineUnit} {b : BufId} (free : u.bufs.get b = none) (ctx : LineCtx) (bs : List Byte) :
    u.Rejudged (u.takeFrame ctx b bs) := by
  rw [LineUnit.takeFrame_eq]
  split
  · next r _ =>
    refine LineUnit.Rejudged.pump (.take (b := b)
      (h := { requestOf bs ctx.cls with stage := .complete, reply := some r }) free rfl (fun c => ?_) rfl)
    exact (LineUnit.setBuf_get _ _ _ _).trans (by split <;> [rfl; exact (LineUnit.setBuf_get _ _ _ _).trans (if_neg ‹_›)])
  · exact .take (b := b) (h := requestOf bs ctx.cls) free rfl (fun c => LineUnit.setBuf_get _ _ _ _) rfl

theorem LineUnit.judgeSteps_rejudged (u : LineUnit) (ctx : LineCtx) (bs : List Byte) : u.Rejudged (u.judgeSteps ctx bs) := by
  unfold LineUnit.judgeSteps
  split
  · exact u.pendOrHold_rejudged _ _
  · split
    · exact u.pendOrHold_rejudged _ _
    · split
      · exact u.pendOrHold_rejudged _ _
      · exact LineUnit.takeFrame_rejudged (LineUnit.freeBuf_free ‹_›) ctx bs

theorem LineUnit.rejudge_idle {u : LineUnit} (quiet : ∀ bs, u.rx ≠ .held bs true) (ctx : LineCtx) : u.rejudge ctx = u := by
  unfold LineUnit.rejudge
  split
  · exact absurd ‹_› (quiet _)
  · rfl

theorem LineUnit.rejudge_rejudged (u : LineUnit) (ctx : LineCtx) : u.Rejudged (u.rejudge ctx) := by
  unfold LineUnit.rejudge
  split
  · exact u.judgeSteps_rejudged ctx _
  · exact .of_bufs rfl rfl

/-! ### The transmitter takes the next reply (R177) -/

/-- With none on the line the transmitter takes the oldest reply, or nothing. -/
theorem LineUnit.Listing.pump_sends {u : LineUnit} (h : u.Listing none) (ht : u.tx = none) : u.pump.Sends := by
  refine ⟨fun e => ?_, fun b e => ?_, fun p e f => ?_⟩
  · rw [LineUnit.pump_order] at e
    rw [LineUnit.pump_empty e, ht]
  · rw [LineUnit.pump_order] at e
    obtain ⟨rest, ho⟩ := List.head?_eq_some_iff.1 e
    obtain ⟨k, hk, hst⟩ := (h.buffers b).1 (by simp [ho])
    obtain ⟨r, hr⟩ := Option.isSome_iff_exists.1 ((h.replies b k hk).1 hst)
    rw [LineUnit.pump_buf ht ho hk hr]
    exact ⟨_, r, LineUnit.setBuf_get_self u b _, rfl, hr, rfl⟩
  · rw [LineUnit.pump_order] at e
    rw [LineUnit.pump_pendingReply] at f
    obtain ⟨rest, ho⟩ := List.head?_eq_some_iff.1 e
    rw [LineUnit.pump_place ht ho f]

/-- The line unit as its oldest reply leaves it: the place freed, a waiting frame judged again (R177). -/
def LineUnit.freed (u : LineUnit) (ctx : LineCtx) (slot : ReplySlot) (rest : List ReplySlot) : LineUnit :=
  ({ u with order := rest }.freeSlot slot).rejudge ctx

theorem LineUnit.sent_eq {u : LineUnit} {frame : List Byte} {slot : ReplySlot} {rest : List ReplySlot} (ctx : LineCtx)
    (ht : u.tx = some frame) (ho : u.order = slot :: rest) :
    u.sent ctx = { u.freed ctx slot rest with
      tx := none,
      rate := if (u.freed ctx slot rest).rx = RxArea.hunt ∧ (u.freed ctx slot rest).owesOldRate = false then ctx.rate
              else (u.freed ctx slot rest).rate }.pump := by
  have owes : ({ u.freed ctx slot rest with tx := none } : LineUnit).owesOldRate = (u.freed ctx slot rest).owesOldRate := rfl
  unfold LineUnit.sent
  split
  · next slot' rest' _ ho' =>
    obtain ⟨rfl, rfl⟩ := List.cons.inj (ho.symm.trans ho')
    refine congrArg LineUnit.pump ?_
    change (if ({ u.freed ctx slot rest with tx := none } : LineUnit).owesOldRate = true then
      ({ u.freed ctx slot rest with tx := none } : LineUnit) else LineUnit.takeRate { u.freed ctx slot rest with tx := none } ctx.rate) = _
    rw [owes]
    cases o : (u.freed ctx slot rest).owesOldRate with
    | true => simp
    | false =>
      by_cases hunt : (u.freed ctx slot rest).rx = RxArea.hunt
      · rw [if_neg (by simp), LineUnit.takeRate_quiet _ rfl (by exact hunt)]
        simp [hunt]
      · rw [if_neg (by simp), LineUnit.takeRate_busy _ (.inr (by exact hunt))]
        simp [hunt]
  · next none => exact absurd ho (none frame slot rest ht)

theorem LineUnit.freeSlot_bufs (u : LineUnit) (slot : ReplySlot) (b : BufId) :
    (u.freeSlot slot).bufs.get b = if slot = .buf b then none else u.bufs.get b := by
  cases slot with
  | buf c => simpa [LineUnit.freeSlot] using LineUnit.setBuf_get u c b none
  | pendingPlace => simp [LineUnit.freeSlot]

theorem LineUnit.freeSlot_pendingReply (u : LineUnit) (slot : ReplySlot) :
    (u.freeSlot slot).pendingReply = if slot = .pendingPlace then none else u.pendingReply := by
  cases slot <;> simp [LineUnit.freeSlot]

theorem LineUnit.freeSlot_eq (u : LineUnit) (slot : ReplySlot) :
    u.freeSlot slot = { u with bufs := (u.freeSlot slot).bufs, pendingReply := (u.freeSlot slot).pendingReply } := by
  cases slot <;> rfl

@[simp] theorem LineUnit.freeSlot_order (u : LineUnit) (slot : ReplySlot) : (u.freeSlot slot).order = u.order := by
  cases slot <;> rfl
@[simp] theorem LineUnit.freeSlot_rx (u : LineUnit) (slot : ReplySlot) : (u.freeSlot slot).rx = u.rx := by
  cases slot <;> rfl
@[simp] theorem LineUnit.freeSlot_tx (u : LineUnit) (slot : ReplySlot) : (u.freeSlot slot).tx = u.tx := by
  cases slot <;> rfl

section
variable {u : LineUnit} {frame : List Byte} {slot : ReplySlot} {rest : List ReplySlot}

theorem LineUnit.freed_rejudged (ctx : LineCtx) :
    ({ u with order := rest }.freeSlot slot).Rejudged (u.freed ctx slot rest) := LineUnit.rejudge_rejudged _ ctx

theorem LineUnit.Orderly.freed_grew (h : u.Orderly) (ht : u.tx = some frame) (ho : u.order = slot :: rest) (ctx : LineCtx) :
    ({ u with order := rest }.freeSlot slot).Grew (u.freed ctx slot rest) none :=
  ((h.freed ho).rejudge ctx).busy (by simp [ht])

/-- What the freed place, or a frame judged again, was, no reply that waits owes the old rate for it (R182 item 1). -/
theorem LineUnit.Orderly.freed_owes (h : u.Orderly) (ht : u.tx = some frame) (ho : u.order = slot :: rest) (ctx : LineCtx) :
    (u.freed ctx slot rest).owesOldRate = ({ u with order := rest } : LineUnit).owesOldRate := by
  have nd : slot ∉ rest := (List.nodup_cons.1 (ho ▸ h.once)).1
  have r := LineUnit.freed_rejudged (u := u) (slot := slot) (rest := rest) ctx
  obtain ⟨more, order⟩ := (h.freed_grew ht ho ctx).order
  have before := h.freed ho
  have after := (h.freed_grew ht ho ctx).listing
  have get (b : BufId) (here : ReplySlot.buf b ∈ rest) :
      ({ u with order := rest }.freeSlot slot).bufs.get b = u.bufs.get b := by
    rw [LineUnit.freeSlot_bufs, if_neg (by rintro rfl; exact nd here)]
  rw [Bool.eq_iff_iff, LineUnit.owesOldRate_iff, LineUnit.owesOldRate_iff]
  constructor
  · rintro ⟨b, k, inOrder, hk, old⟩
    cases e : ({ u with order := rest }.freeSlot slot).bufs.get b with
    | none => rw [r.new b k e hk] at old; cases old
    | some k0 =>
      obtain ⟨st, g⟩ := r.kept b k0 e
      obtain rfl := Option.some.inj (g.symm.trans hk)
      have here : ReplySlot.buf b ∈ rest := by
        have slots : ReplySlot.buf b ∈ ({ u with order := rest }.freeSlot slot).order ↔ k0.stage ≠ .inProgress := by
          simpa [e] using before.buffers b
        rw [LineUnit.freeSlot_order] at slots
        obtain ⟨k', hk', done⟩ := (after.buffers b).1 inOrder
        obtain rfl := Option.some.inj (g.symm.trans hk')
        exact slots.2 ((before.replies b k0 e).2 ((after.replies b _ g).1 done))
      exact ⟨b, k0, here, (get b here).symm.trans e, old⟩
  · rintro ⟨b, k, here, hk, old⟩
    obtain ⟨st, g⟩ := r.kept b k ((get b here).trans hk)
    exact ⟨b, _, by rw [order]; simp [here], g, old⟩

/-! ### The line unit after its oldest reply has been sent -/

theorem LineUnit.sent_order (ht : u.tx = some frame) (ho : u.order = slot :: rest) (ctx : LineCtx) :
    (u.sent ctx).order = (u.freed ctx slot rest).order := by rw [LineUnit.sent_eq ctx ht ho, LineUnit.pump_order]

theorem LineUnit.sent_rx (ht : u.tx = some frame) (ho : u.order = slot :: rest) (ctx : LineCtx) :
    (u.sent ctx).rx = (u.freed ctx slot rest).rx := by rw [LineUnit.sent_eq ctx ht ho, LineUnit.pump_rx]

theorem LineUnit.sent_pendingReply (ht : u.tx = some frame) (ho : u.order = slot :: rest) (ctx : LineCtx) :
    (u.sent ctx).pendingReply = (u.freed ctx slot rest).pendingReply := by
  rw [LineUnit.sent_eq ctx ht ho, LineUnit.pump_pendingReply]

theorem LineUnit.sent_get (ht : u.tx = some frame) (ho : u.order = slot :: rest) (ctx : LineCtx) (b : BufId) :
    (u.sent ctx).bufs.get b = (u.freed ctx slot rest).bufs.get b
      ∨ ∃ h, (u.freed ctx slot rest).bufs.get b = some h ∧ (u.sent ctx).bufs.get b = some { h with stage := .sending } := by
  rw [LineUnit.sent_eq ctx ht ho]
  exact (LineUnit.pump_get _ b).imp id fun ⟨h, _, held, _, sending⟩ => ⟨h, held, sending⟩

theorem LineUnit.Orderly.sent_sends (h : u.Orderly) (ht : u.tx = some frame) (ho : u.order = slot :: rest) (ctx : LineCtx) :
    (u.sent ctx).Sends := by
  rw [LineUnit.sent_eq ctx ht ho]
  refine LineUnit.Listing.pump_sends ?_ rfl
  exact (h.freed_grew ht ho ctx).listing.of_eq rfl rfl rfl

/-- Of what its reply order does not speak of, the sending of a reply changes the rate alone (R182 item 1). -/
theorem LineUnit.Orderly.sent_frame (h : u.Orderly) (ht : u.tx = some frame) (ho : u.order = slot :: rest) (ctx : LineCtx) :
    u.sent ctx = { u with
      bufs := (u.sent ctx).bufs, order := (u.sent ctx).order, pendingReply := (u.sent ctx).pendingReply,
      tx := (u.sent ctx).tx, rx := (u.sent ctx).rx,
      rate := if (u.sent ctx).rx = .hunt ∧ ({ u with order := rest } : LineUnit).owesOldRate = false then ctx.rate
              else u.rate } := by
  have same : (u.freed ctx slot rest).still = u.still := by
    rw [(LineUnit.freed_rejudged (u := u) (slot := slot) (rest := rest) ctx).same]
    cases slot <;> rfl
  refine LineUnit.eq_of_still (u := { u with rate := if (u.sent ctx).rx = .hunt ∧
    ({ u with order := rest } : LineUnit).owesOldRate = false then ctx.rate else u.rate }) ?_
  rw [LineUnit.sent_rx ht ho, ← h.freed_owes ht ho ctx, LineUnit.sent_eq ctx ht ho, LineUnit.pump_still]
  simp only [LineUnit.still, Prod.mk.injEq] at same ⊢
  simp [same]

end

/-- While a reply is on the line a frame judged again waits behind it (R173). -/
theorem LineUnit.pendOrHold_busy {u : LineUnit} (busy : u.tx ≠ none) (free : u.pendingReply = none) (bs : List Byte)
    (r : Reply) : u.pendOrHold bs r =
      { u with pendingReply := some { tag := frameTag bs, code := frameCode bs, reply := r },
               order := u.order ++ [ReplySlot.pendingPlace], rx := .hunt } := by
  unfold LineUnit.pendOrHold LineUnit.placePending
  rw [free]
  exact LineUnit.pump_busy busy

/-- A frame with nothing wrong waits in its buffer for its owner (R174 item 4). -/
theorem LineUnit.takeFrame_passes {u : LineUnit} {ctx : LineCtx} {bs : List Byte}
    (passes : examine ctx.cls (frameCode bs) (frameBody bs) = none) (b : BufId) :
    u.takeFrame ctx b bs = { u.setBuf b (some (requestOf bs ctx.cls)) with rx := .hunt } := by
  rw [LineUnit.takeFrame_eq, passes]

/-- A frame that the line unit refuses while a reply is on the line: its reply waits behind it (R174). -/
theorem LineUnit.takeFrame_refuses {u : LineUnit} (busy : u.tx ≠ none) {ctx : LineCtx} {bs : List Byte} {r : Reply}
    (refuses : examine ctx.cls (frameCode bs) (frameBody bs) = some r) (b : BufId) :
    u.takeFrame ctx b bs = { u.setBuf b (some { requestOf bs ctx.cls with stage := .complete, reply := some r }) with
      rx := .hunt, order := u.order ++ [ReplySlot.buf b] } := by
  rw [LineUnit.takeFrame_eq, refuses]
  refine (LineUnit.pump_busy (by exact busy)).trans ?_
  simp [LineUnit.setBuf]

/-- A frame that is taken leaves the receive area in HUNT and the pending place as it is (R173 item 4). -/
theorem LineUnit.takeFrame_rx (u : LineUnit) (ctx : LineCtx) (b : BufId) (bs : List Byte) :
    (u.takeFrame ctx b bs).rx = .hunt ∧ (u.takeFrame ctx b bs).pendingReply = u.pendingReply := by
  rw [LineUnit.takeFrame_eq]
  split
  · simp [LineUnit.finish]
  · exact ⟨rfl, rfl⟩

/-! ### REPLY_FRAME_SENT (R177, R185, R190) -/

/-- The RESTARTs that still wait for their reply when the reply of `slot` has been sent (R190). -/
theorem Part.replySent_eq {u : LineUnit} {frame : List Byte} {slot : ReplySlot} {rest : List ReplySlot}
    (ht : u.tx = some frame) (ho : u.order = slot :: rest) (p : Part) (l : Line) :
    p.replySent l u = { p with restarts := (p.replySent l u).restarts }
      ∧ ∀ x, x ∈ (p.replySent l u).restarts ↔ x ∈ p.restarts ∧ ∀ b, slot = .buf b → x ≠ (l, b) := by
  cases slot <;> simp [Part.replySent, ht, ho]

theorem exec_replyFrameSent {s : State} (live : s.part.extReset = false) (l : Line) :
    exec (.replyFrameSent l) s = .next
      (((s.modPart fun p => p.replySent l (s.line l)).modLine l fun u => u.sent (s.lineCtx l)).lineReset l) := by
  simp [exec, execReplyFrameSent, live]

/-- A line that is not to reset is left as it is (R185). -/
theorem State.lineReset_keeps {s : State} {l : Line} (run : (s.line l).resetDue = false) : s.lineReset l = s := by
  simp [State.lineReset, run]

theorem State.lineReset_resets {s : State} {l : Line} (due : (s.line l).resetDue = true) (empty : (s.line l).order = []) :
    s.lineReset l = s.modLine l fun u => u.restartReset s.cfg.silence (s.cfg.rates.get l) := by
  simp [State.lineReset, due, empty]

/-- The line unit after the drain of a RESTART stands as at a reset, but for its counts (R185). -/
theorem LineUnit.restartReset_atReset (u : LineUnit) (n : Nat) (r : Rate) :
    (u.restartReset n r).AtReset u.present n r :=
  let h := freshLine_atReset u.present n r
  ⟨h.port, h.buffers, h.replies, h.receive, h.silence, h.rate⟩

/-- What every sending of a reply does, on a line that the drain of a RESTART has not left to reset. -/
theorem State.replySent_run {s : State} {l : Line} {frame : List Byte} {slot : ReplySlot} {rest : List ReplySlot}
    (live : s.part.extReset = false) (orderly : (s.line l).Orderly) (ht : (s.line l).tx = some frame)
    (ho : (s.line l).order = slot :: rest) (run : (s.line l).resetDue = false) :
    ∃ t, exec (.replyFrameSent l) s = .next t ∧ t.line l = (s.line l).sent (s.lineCtx l)
      ∧ (∀ m, m ≠ l → t.line m = s.line m)
      ∧ t = { s with lines := t.lines, part := { s.part with restarts := t.part.restarts } }
      ∧ t.part.restarts = (s.part.replySent l (s.line l)).restarts := by
  refine ⟨(s.modPart fun p => p.replySent l (s.line l)).modLine l fun u => u.sent (s.lineCtx l), ?_,
    State.line_modLine_self _ _ _, fun m ne => State.line_modLine_ne _ ne.symm _, ?_, rfl⟩
  · rw [exec_replyFrameSent live]
    refine congrArg _ (State.lineReset_keeps ?_)
    rw [State.line_modLine_self]
    change ((s.line l).sent (s.lineCtx l)).resetDue = false
    rw [orderly.sent_frame ht ho]
    exact run
  · conv_lhs => rw [State.modLine, State.modPart, (Part.replySent_eq ht ho s.part l).1]
    rfl

/-- Settles O6: the freed place, the frame judged again and the next reply are looked at in turn. -/
theorem sentRepliesFreeTheirBuffer : Obligations.SentRepliesFreeTheirBuffer := by
  refine ⟨?_, ?_, ?_, fun s l b h r held stage orphan quiet => ?_⟩
  · intro s l frame slot rest live orderly ht ho quiet run
    obtain ⟨t, ht', line, others, state, restarts⟩ := State.replySent_run live orderly ht ho run
    have nd : slot ∉ rest := (List.nodup_cons.1 (ho ▸ orderly.once)).1
    have idle : (s.line l).freed (s.lineCtx l) slot rest = ({ s.line l with order := rest } : LineUnit).freeSlot slot :=
      LineUnit.rejudge_idle (by simpa using quiet) _
    have order : (t.line l).order = rest := by rw [line, LineUnit.sent_order ht ho, idle, LineUnit.freeSlot_order]
    have place : (t.line l).pendingReply = if slot = .pendingPlace then none else (s.line l).pendingReply := by
      rw [line, LineUnit.sent_pendingReply ht ho, idle, LineUnit.freeSlot_pendingReply]
    have left (x) : x ∈ t.part.restarts ↔ x ∈ s.part.restarts ∧ ∀ b, slot = .buf b → x ≠ (l, b) := by
      rw [restarts]; exact (Part.replySent_eq ht ho s.part l).2 x
    have get (b : BufId) := LineUnit.sent_get ht ho (s.lineCtx l) b
    rw [← line, idle] at get
    simp only [LineUnit.freeSlot_bufs] at get
    have sends := orderly.sent_sends ht ho (s.lineCtx l)
    rw [← line, LineUnit.Sends, order] at sends
    obtain ⟨empty, next, nextPlace⟩ := sends
    refine ⟨t, ht', order, fun b here => ⟨?_, ?_, ?_⟩, fun here => ?_, fun b ne => ?_, empty, next, fun p first here => ?_,
      ?_, others, state, left⟩
    · simpa [here] using get b
    · rw [left]
      exact fun both => both.2 b here rfl
    · simp [place, here]
    · simp [place, here]
    · simpa [ne] using get b
    · refine nextPlace p first ?_
      rw [place, if_neg (by rintro rfl; exact nd (List.mem_of_head? first)), here]
    · have rx : (t.line l).rx = (s.line l).rx := by rw [line, LineUnit.sent_rx ht ho, idle, LineUnit.freeSlot_rx]
      have eq := orderly.sent_frame ht ho (s.lineCtx l)
      rw [← line, order, rx] at eq
      exact eq
  · intro s l frame slot live orderly ht ho quiet due
    have line : ((s.modPart fun p => p.replySent l (s.line l)).modLine l fun u => u.sent (s.lineCtx l)).line l
        = (s.line l).sent (s.lineCtx l) := State.line_modLine_self _ _ _
    have frame := orderly.sent_frame ht ho (s.lineCtx l)
    have idle : (s.line l).freed (s.lineCtx l) slot [] = ({ s.line l with order := [] } : LineUnit).freeSlot slot :=
      LineUnit.rejudge_idle (by simpa using quiet) _
    refine ⟨_, (exec_replyFrameSent live l).trans (congrArg _ (State.lineReset_resets ?_ ?_)), ?_⟩
    · rw [line, frame]; exact due
    · rw [line, LineUnit.sent_order ht ho, idle, LineUnit.freeSlot_order]
    · rw [State.line_modLine_self, line]
      have reset := ((s.line l).sent (s.lineCtx l)).restartReset_atReset s.cfg.silence (s.cfg.rates.get l)
      rw [LineUnit.sent_present] at reset
      refine ⟨reset, rfl, ?_, ?_, ?_⟩
      all_goals
        rw [LineUnit.restartReset, frame]
  · intro s l frame bs slot rest live orderly ht ho held run bufs place request
    obtain ⟨t, ht', line, others, state, restarts⟩ := State.replySent_run live orderly ht ho run
    have frame := orderly.sent_frame ht ho (s.lineCtx l)
    rw [← line] at frame
    obtain ⟨w, hw⟩ : ∃ w, w = ({ s.line l with order := rest } : LineUnit).freeSlot slot := ⟨_, rfl⟩
    have freedBufs (b : BufId) : w.bufs.get b = bufs b := hw ▸ LineUnit.freeSlot_bufs _ _ _
    have freedPlace : w.pendingReply = place := hw ▸ LineUnit.freeSlot_pendingReply _ _
    have freedOrder : w.order = rest := hw ▸ LineUnit.freeSlot_order _ _
    have busy : w.tx ≠ none := by simp [hw, ht]
    have judged : (s.line l).freed (s.lineCtx l) slot rest = w.judgeSteps (s.lineCtx l) bs := by
      unfold LineUnit.freed LineUnit.rejudge
      simp [held, hw]
    have rx : (t.line l).rx = (w.judgeSteps (s.lineCtx l) bs).rx := by rw [line, LineUnit.sent_rx ht ho, judged]
    have order : (t.line l).order = (w.judgeSteps (s.lineCtx l) bs).order := by
      rw [line, LineUnit.sent_order ht ho, judged]
    have pend : (t.line l).pendingReply = (w.judgeSteps (s.lineCtx l) bs).pendingReply := by
      rw [line, LineUnit.sent_pendingReply ht ho, judged]
    have get {c : BufId} {k : Held} (here : (w.judgeSteps (s.lineCtx l) bs).bufs.get c = some k) :
        (t.line l).bufs.get c = some k ∨ (t.line l).bufs.get c = some { k with stage := .sending } := by
      rw [← judged] at here
      rw [line]
      rcases LineUnit.sent_get ht ho (s.lineCtx l) c with same | ⟨k', hk, sending⟩
      · exact .inl (same.trans here)
      · obtain rfl := Option.some.inj (hk.symm.trans here)
        exact .inr sending
    refine ⟨t, ht', fun r answer => ?_, fun b good running free low => ?_, fun b h ne here => ?_, ?_, frame, others, state⟩
    · have bounces : w.Bounces (s.lineCtx l).running bs r := by
        simpa [LineUnit.Bounces, State.lineCtx, freedBufs, Option.isSome_iff_ne_none] using answer
      rw [LineUnit.judgeSteps_bounces bounces] at rx order pend
      refine ⟨fun free => ?_, fun full => ?_⟩
      · rw [LineUnit.pendOrHold_busy busy (freedPlace.trans free)] at rx order pend
        exact ⟨rx, by rw [order, ← freedOrder], pend⟩
      · rw [LineUnit.pendOrHold_held (by rwa [freedPlace])] at rx order pend
        exact ⟨rx, order.trans freedOrder, pend.trans freedPlace⟩
    · have takes : w.judgeSteps (s.lineCtx l) bs = w.takeFrame (s.lineCtx l) b bs :=
        LineUnit.judgeSteps_takes good (by simp [State.lineCtx, running]) ((freedBufs b).trans free)
          (fun b' lt => by rw [freedBufs]; exact low b' lt)
      have still := w.takeFrame_rx (s.lineCtx l) b bs
      rw [← takes] at still
      refine ⟨rx.trans still.1, pend.trans (still.2.trans freedPlace), fun length may => ?_, fun r wrong => ?_⟩
      · rw [LineUnit.takeFrame_passes (examine_passes length may)] at takes
        have here : (w.judgeSteps (s.lineCtx l) bs).bufs.get b = some request := by
          rw [takes]; exact LineUnit.setBuf_get_self w b _
        have ord : (t.line l).order = rest := by rw [order, takes]; exact freedOrder
        refine ⟨(get here).resolve_right fun sending => ?_, ord⟩
        have inOrder := ((orderly.sent (s.lineCtx l)).buffers b).2 (by rw [← line]; exact ⟨_, sending, by simp⟩)
        rw [← line, ord] at inOrder
        obtain ⟨k, hk, _⟩ := ((orderly.freed ho).buffers b).1 (by rwa [LineUnit.freeSlot_order])
        rw [← hw, freedBufs, free] at hk
        cases hk
      · rw [LineUnit.takeFrame_refuses busy (examine_refuses wrong)] at takes
        have here : (w.judgeSteps (s.lineCtx l) bs).bufs.get b
            = some { request with stage := .complete, reply := some (.refused r none) } := by
          rw [takes]; exact LineUnit.setBuf_get_self w b _
        have ord : (t.line l).order = rest ++ [.buf b] := by rw [order, takes, ← freedOrder]
        exact ⟨ord, (get here).elim (fun e => ⟨_, e⟩) fun e => ⟨_, e⟩⟩
    · obtain ⟨st, kept⟩ := (LineUnit.freed_rejudged (u := s.line l) (slot := slot) (rest := rest) (s.lineCtx l)).kept b h
        (hw ▸ (freedBufs b).trans ((if_neg ne).trans here))
      rw [judged] at kept
      exact (get kept).elim (fun e => ⟨_, e⟩) fun e => ⟨_, e⟩
    · rw [line]
      exact orderly.sent_sends ht ho _
  · have wait : (s.line l).bufs.get b = some h := held
    refine State.modLine_congr ?_
    simp only [LineUnit.complete, wait, stage, orphan, ne_eq, not_true_eq_false, if_false, if_true]
    exact LineUnit.rejudge_idle (by simpa using quiet) _

end Sys2Proof.Machine
end

section
/-! Settlement of the statement on line loss, return, rate change and silence (sections 9.6 and 9.7). -/
namespace Sys2Proof.Machine

/-- What is left of the claim table when claims have been freed (R157). -/
theorem ClaimUnit.mem_freedAll_iff (xs : List Claim) (basket : Claim → Nat) (l : Line) (y : Claim) : ∀ c : ClaimUnit,
    y ∈ (c.freedAll xs basket l).claims ↔ y ∈ c.claims ∧ ∀ x ∈ xs, ¬ (x.drive = y.drive ∧ x.handle = y.handle) := by
  induction xs with
  | nil => intro c; simp [ClaimUnit.freedAll]
  | cons x xs ih =>
    intro c
    have one : y ∈ (c.freed x.drive x.handle (basket x) l).claims
        ↔ y ∈ c.claims ∧ ¬ (x.drive = y.drive ∧ x.handle = y.handle) := by
      simp [ClaimUnit.freed, ClaimUnit.remove, ClaimUnit.raise, @eq_comm _ x.drive, @eq_comm _ x.handle]
      tauto
    refine (ih (c.freed x.drive x.handle (basket x) l)).trans ?_
    rw [one, List.forall_mem_cons, and_assoc]

/-- Line loss at the claim and watch unit (R159 item 1). -/
theorem State.deskLost_eq (s : State) (l : Line) :
    s.deskLost l = s.modClaims fun _ =>
      let freed := s.cw.freedAll (s.cw.ofLine l) s.claimBasket l
      { freed with watches := freed.watches.set l.val (Vector.replicate 4 .unused) l.isLt,
                   broken := freed.broken.set l.val none l.isLt } := by
  rw [State.deskLost, State.dropClaims_eq]
  rfl

theorem exec_linePresentFalls {s : State} {l : Line} (live : s.part.extReset = false) (present : (s.line l).present = true) :
    exec (.linePresentFalls l) s = .next ((((s.deskLost l).modLine l LineUnit.lose).modPart fun p =>
      { p with restarts := p.restarts.filter fun x => x.1 != l }).lineReset l) := by
  rw [← State.deskLost_modLine]
  simp [exec, execLinePresentFalls, live, present]

/-- Settles O7. -/
theorem lineLossReturnSilenceAndRate : Obligations.LineLossReturnSilenceAndRate := by
  refine ⟨fun s l live present => ?_, fun s l live => ⟨fun away => ?_, fun idle hunt => ?_, fun busy => ?_, fun away => ?_,
    fun present => ?_, fun stopped => ?_⟩, fun s l limit live running => ?_, fun s l reset => ⟨?_, ?_, ?_, ?_⟩⟩
  · intro freed
    have gone := s.deskLost_without l
    have cw : (s.deskLost l).cw = { freed with
        watches := freed.watches.set l.val (Vector.replicate 4 .unused) l.isLt,
        broken := freed.broken.set l.val none l.isLt } := by rw [State.deskLost_eq]; rfl
    have claims (c : Claim) : c ∈ (s.deskLost l).cw.claims
        ↔ c ∈ s.cw.claims ∧ ∀ x ∈ s.cw.ofLine l, ¬ (x.drive = c.drive ∧ x.handle = c.handle) := by
      rw [cw]; exact ClaimUnit.mem_freedAll_iff _ _ l c s.cw
    have lines : (s.deskLost l).lines = s.lines := by rw [State.deskLost_eq]; rfl
    have state : s.deskLost l = { s with cw := (s.deskLost l).cw } := by rw [State.deskLost_eq]; rfl
    have line (m : Line) : (s.deskLost l).line m = s.line m := congrArg (·.get m) lines
    obtain ⟨t, ht⟩ : ∃ t, t = ((s.deskLost l).modLine l LineUnit.lose).modPart fun p =>
      { p with restarts := p.restarts.filter fun x => x.1 != l } := ⟨_, rfl⟩
    have lost : t.line l = (s.line l).lose := by
      rw [ht]; exact (State.line_modLine_self _ _ _).trans (by rw [line])
    have other (m) (ne : m ≠ l) : t.line m = s.line m := by
      rw [ht]; exact (State.line_modLine_ne _ ne.symm _).trans (line m)
    have left : ∀ x, x ∈ t.part.restarts ↔ x ∈ s.part.restarts ∧ x.1 ≠ l := by
      intro x
      rw [ht, state]
      simp [State.modPart, State.modLine]
    have tcw : t.cw = (s.deskLost l).cw := by rw [ht]; rfl
    have whole : t = { s with lines := t.lines, cw := t.cw, part := { s.part with restarts := t.part.restarts } } := by
      conv_lhs => rw [ht, state]
      rw [ht, state]
      rfl
    have quiet : t.attention l = false :=
      State.attention_of_nothing (by rw [tcw]; exact gone.watches) (by rw [tcw]; exact gone.flag)
    have falls : exec (.linePresentFalls l) s = .next (t.lineReset l) := by rw [exec_linePresentFalls live present, ht]
    cases due : (s.line l).resetDue with
    | false =>
      refine ⟨t, falls.trans (congrArg _ (State.lineReset_keeps (by rw [lost]; exact due))), fun _ => ⟨?_, fun b => ?_⟩,
        by simp, ?_, quiet, tcw.trans cw, by rw [tcw]; exact claims, other, whole, left⟩
      · rw [lost]; rfl
      · rw [lost]
        exact (vector_get_ofFn _ b).trans (by unfold lostBuffer; rfl)
      · rw [lost]; rfl
    | true =>
      have reset := (s.line l).lose.restartReset_atReset t.cfg.silence (t.cfg.rates.get l)
      have now : t.lineReset l = t.modLine l fun u => u.restartReset t.cfg.silence (t.cfg.rates.get l) :=
        State.lineReset_resets (by rw [lost]; exact due) (by rw [lost]; rfl)
      have same : (t.lineReset l).line l = (s.line l).lose.restartReset t.cfg.silence (t.cfg.rates.get l) := by
        rw [now, State.line_modLine_self, lost]
      have cfg : t.cfg = s.cfg := by rw [whole]
      rw [cfg] at reset same
      refine ⟨t.lineReset l, falls, by simp, fun _ => ?_, ?_, ?_, ?_, ?_, fun m ne => ?_, ?_, ?_⟩
      · rw [same]
        exact ⟨reset, rfl, rfl, rfl, rfl⟩
      · rw [same]
        exact reset.port.2
      · rw [now]; exact quiet
      · rw [now]; exact tcw.trans cw
      · rw [now]; exact fun c => by rw [State.modLine_cw, tcw]; exact claims c
      · rw [now, State.line_modLine_ne _ ne.symm]; exact other m ne
      · rw [now]
        exact congrArg (fun x : State => { x with
          lines := (t.modLine l fun u => u.restartReset t.cfg.silence (t.cfg.rates.get l)).lines }) whole
      · rw [now]; exact left
  · simp [exec, execLinePresentRises, live, away]
  · refine congrArg _ ((if_neg (by simp [live])).trans (State.modLine_congr (LineUnit.takeRate_quiet _ idle hunt)))
  · refine congrArg _ ((if_neg (by simp [live])).trans (State.modLine_same (LineUnit.takeRate_busy _ busy)))
  · simp [exec, execLinePresentFalls, live, away]
  · simp [exec, execLinePresentRises, live, present]
  · simp [exec, execSilenceTimerExpiry, stopped]
  · refine congrArg _ ((if_neg (by simp [live, running])).trans ((State.dropClaims_eq _ l).trans rfl))
  · simp [exec, execLinePresentFalls, reset]
  · simp [exec, execLinePresentRises, reset]
  · simp [exec, execRateChangeEffect, reset]
  · simp [exec, execSilenceTimerExpiry, reset]

end Sys2Proof.Machine
end

section
/-! Settlement of the statements on status requests, the clock, statistics and the volume gate. -/
namespace Sys2Proof.Machine

/-! ### Requests that are answered at once -/

/-- A request whose owner answers it at once, from the state as it stands or with no other change. -/
theorem State.Waiting.replies {s : State} {l : Line} {b : BufId} {code : Byte} {h : Held} (w : s.Waiting l b code h)
    {f : Held → State → State} {r : Reply} (answers : f h (s.takenBy l b h) = (s.takenBy l b h).answer l b r) :
    (Host.Outcome.next (s.onRequest l b code f) : Out) = .next (s.replied l b h r) := by
  rw [w.onRequest, answers, w.answer]

section
variable {s : State} {l : Line} {b : BufId} {body : List Byte} {g : Group} {work : Bool} {f : DriveId → State → State}

/-- A drive above 3 is out of range (R112). -/
theorem State.gated_none (none : driveOf (byteAt body 0) = none) :
    s.gated l b body g work f = s.answer l b (.refuse .outOfRange) := by simp [State.gated, none]

theorem State.gated_refused {d : DriveId} {r : Reason} (drive : driveOf (byteAt body 0) = some d)
    (gate : s.gateReason d g work = some r) : s.gated l b body g work f = s.answer l b (.refuse r) := by
  simp [State.gated, drive, gate]

theorem State.gated_admitted {d : DriveId} (drive : driveOf (byteAt body 0) = some d) (gate : s.gateReason d g work = none) :
    s.gated l b body g work f = f d s := by simp [State.gated, drive, gate]

end

/-! ### The lengths of the result bodies (R198) -/

@[simp] theorem be2_length (n : Nat) : (be2 n).length = 2 := rfl
@[simp] theorem be3_length (n : Nat) : (be3 n).length = 3 := rfl
@[simp] theorem absentField_length (n : Nat) : (absentField n).length = n := List.length_replicate
@[simp] theorem padTo_length (n : Nat) (fill : Byte) (bs : List Byte) : (padTo n fill bs).length = n := by
  simp [padTo]; omega
@[simp] theorem optByte_length (o : Option Nat) : (optByte o).length = 1 := by cases o <;> rfl
@[simp] theorem optBe2_length (o : Option Nat) : (optBe2 o).length = 2 := by cases o <;> rfl

theorem summaryBytes_length (n : Nat) (e : Entry) (o : Option Line) : (summaryBytes n e o).length = 26 := by
  unfold summaryBytes
  split <;> simp

theorem presentIf_length {c : Bool} {n : Nat} {bs : List Byte} (h : bs.length = n) : (presentIf c n bs).length = n := by
  unfold presentIf
  split
  · exact h
  · exact absentField_length n

theorem profileBytes_length (p : Option Profile) : (profileBytes p).length = 13 := by cases p <;> rfl

theorem labelBytes_length (i : Option LabelInfo) : (labelBytes i).length = 14 := by cases i <;> simp [labelBytes]

theorem volumeStatusBytes_length (d : DriveId) (c : DriveCondition) (v : Volume) : (volumeStatusBytes d c v).length = 43 := by
  have counts : v.countBytes.length = 9 := presentIf_length (by simp)
  simp [volumeStatusBytes, counts, profileBytes_length, labelBytes_length, presentIf_length]

theorem State.driveStatusBytes_length (s : State) (d : DriveId) : (s.driveStatusBytes d).length = 14 := by
  cases period : (s.drive d).index.lastPeriod <;> simp [State.driveStatusBytes, period]

/-- A list of records of one length. -/
theorem flatMap_length {α : Type} (xs : List α) {f : α → List Byte} {n : Nat} (h : ∀ x, (f x).length = n) :
    (xs.flatMap f).length = n * xs.length := by
  simp [List.length_flatMap, h, Nat.mul_comm]

theorem State.statisticsBytes_length (s : State) : s.statisticsBytes.length = 170 := by
  simp [State.statisticsBytes, allDrives, allLines, marginBytes]

theorem watchBytes_length (n : Nat) (w : Watch) : (watchBytes n w).length = 12 := by
  have spec (x : WatchSpec) : (watchSpecBytes x).length = 7 := by
    unfold watchSpecBytes
    split <;> simp
  cases w <;> simp [watchBytes, spec, lastEventBytes]

theorem watchStatusBytes_length (c : ClaimUnit) (l : Line) : (watchStatusBytes c l).length = 51 := by
  have broken : (brokenBytes (c.broken.get l)).length = 3 := by
    unfold brokenBytes
    split <;> simp
  simp [watchStatusBytes, watchBytes_length, broken]

theorem State.lineStatusBytes_length (s : State) (l : Line) (us : Nat) :
    (s.lineStatusBytes l us).length = 26 + 4 * (s.cw.ofLine l).length := by
  have buffer (h : Option Held) : (bufferBytes h).length = 5 := by cases h <;> simp [bufferBytes]
  have claims := flatMap_length (s.cw.ofLine l) (f := claimBytes) (n := 4) fun c => by simp [claimBytes]
  simp [State.lineStatusBytes, buffer, claims]
  omega

theorem State.listResult_length (s : State) (d : DriveId) (start : Nat) (g : BitVec 16) (f : BitVec 3) :
    ∃ k, k ≤ 8 ∧ (s.listResult d start g f).length = 3 + 26 * k := by
  refine ⟨(((s.vol d).listed start g f).take 8).length, by simp, ?_⟩
  have summaries := flatMap_length (((s.vol d).listed start g f).take 8) (f := s.summary d)
    fun n => summaryBytes_length n _ _
  simp only [State.listResult, List.length_append, summaries]
  simp

/-- What LINE STATUS reports does not tell whether an owner has taken a request. -/
theorem State.Waiting.lineStatus {s : State} {l : Line} {b : BufId} {code : Byte} {h : Held} (w : s.Waiting l b code h)
    (n : Line) (us : Nat) : (s.takenBy l b h).lineStatusBytes n us = s.lineStatusBytes n us := by
  by_cases e : l = n
  · subst e
    have line : (s.takenBy l b h).line l = (s.line l).setBuf b (some { h with taken := true }) := State.line_modLine_self _ _ _
    have buffer (c : BufId) : bufferBytes (((s.takenBy l b h).line l).bufs.get c) = bufferBytes ((s.line l).bufs.get c)
        ∧ (((s.takenBy l b h).line l).bufs.get c).isSome = ((s.line l).bufs.get c).isSome := by
      rw [line, LineUnit.setBuf_get]
      split
      · next e => rw [← e, show (s.line l).bufs.get b = some h from w.held]; exact ⟨rfl, rfl⟩
      · exact ⟨rfl, rfl⟩
    have port : ((s.takenBy l b h).line l).portState = (s.line l).portState := by
      rw [LineUnit.portState, LineUnit.portState, (buffer 0).2, (buffer 1).2, line]
      rfl
    simp only [State.lineStatusBytes, (buffer 0).1, (buffer 1).1, port]
    rw [line]
    rfl
  · have line : (s.takenBy l b h).line n = s.line n := State.line_modLine_ne s e _
    simp only [State.lineStatusBytes, line]
    rfl

/-- Settles O8. -/
theorem statusRequestsChangeNothingElse : Obligations.StatusRequestsChangeNothingElse := by
  refine ⟨fun s l b h => ⟨fun w => w.replies ?_, fun w => w.replies rfl, fun w => ⟨fun d drive => w.replies ?_,
    fun none => w.replies ?_⟩, fun w => ⟨fun d drive => w.replies ?_, fun none => w.replies ?_⟩,
    fun us w => ⟨fun n line => w.replies ?_, fun none => w.replies ?_⟩⟩,
    fun s d l n us e o => ⟨summaryBytes_length n e o, volumeStatusBytes_length _ _ _, s.driveStatusBytes_length d,
      s.statisticsBytes_length, watchStatusBytes_length _ _, s.lineStatusBytes_length l us, s.listResult_length d⟩⟩
  · have day (n : Nat) : boolByte (n != 0) = if n = 0 then 0#8 else 1#8 := by by_cases n = 0 <;> simp [boolByte, *]
    simp only [Reply.ok, Clock.result, day]
    rfl
  · simp only [drive]; rfl
  · simp only [none]; rfl
  · simp only [drive]; rfl
  · simp only [none]; rfl
  · simp only [line, w.lineStatus n us]; rfl
  · simp only [none]; rfl

/-! ### The clock (R131, R132) -/

/-- One more second of a set clock, counted in seconds from the start of the year (R131). -/
theorem Clock.tick_seconds {c : Clock} (set : c.day ≠ 0) (second : c.second < 60) (minute : c.minute < 1440)
    (day : c.day ≤ 366) :
    1 ≤ c.tick.day ∧ c.tick.day ≤ 366 ∧ c.tick.minute < 1440 ∧ c.tick.second < 60
      ∧ (c.tick.day - 1) * 86400 + c.tick.minute * 60 + c.tick.second =
          ((c.day - 1) * 86400 + c.minute * 60 + c.second + 1) % (366 * 86400) := by
  unfold Clock.tick
  rw [if_neg set]
  split
  · simp only; omega
  · split
    · simp only; omega
    · simp only
      split
      · omega
      · have last : c.day = 366 ∧ c.minute = 1439 ∧ c.second = 59 := by omega
        obtain ⟨d, m, sec⟩ := last
        simp [d, m, sec]

/-- Settles O9. -/
theorem theClockIsSetAndCounts : Obligations.TheClockIsSetAndCounts := by
  constructor
  · intro s l b h w day minute clamped
    have set : setClock (nat2 h.body 0) (nat2 h.body 2) = { day := day, minute := minute, second := 0 } := by
      simp only [setClock, day, minute]
      by_cases unset : nat2 h.body 0 = 0
      · simp [unset]
      · have : min 366 (nat2 h.body 0) ≠ 0 := by omega
        simp [unset]
    have note : (366 < nat2 h.body 0 || 1439 < nat2 h.body 2 : Bool) = clamped := by simp [clamped]
    have bytes : boolByte (day != 0) = if day = 0 then 0#8 else 1#8 := by by_cases day = 0 <;> simp [boolByte, *]
    refine congrArg Host.Outcome.next ((w.onRequest _).trans ?_)
    simp only [set, note, Clock.result, bytes]
    rw [← w.answer]
    rfl
  · intro s live second minute day
    refine ⟨s.clock.tick, ?_, fun unset => by rw [Clock.tick, if_pos unset],
      fun set => Clock.tick_seconds set second minute day⟩
    exact congrArg Host.Outcome.next (if_neg (by simp [live]))

/-! ### STATISTICS (R193) -/

/-- An owner's mark changes no count of a line. -/
theorem State.takenBy_counts (s : State) (l m : Line) (b : BufId) (h : Held) :
    ((s.takenBy l b h).line m).framesTaken = (s.line m).framesTaken
      ∧ ((s.takenBy l b h).line m).checkErrors = (s.line m).checkErrors
      ∧ ((s.takenBy l b h).line m).abandoned = (s.line m).abandoned := by
  rw [State.takenBy, State.line_modLine]
  split
  · next e => rw [e]; exact ⟨rfl, rfl, rfl⟩
  · exact ⟨rfl, rfl, rfl⟩

theorem State.takenBy_statistics (s : State) (l : Line) (b : BufId) (h : Held) :
    (s.takenBy l b h).statisticsBytes = s.statisticsBytes := by
  have counts (m : Line) := s.takenBy_counts l m b h
  simp only [State.statisticsBytes, fun m => (counts m).1, fun m => (counts m).2.1, fun m => (counts m).2.2]
  rfl

/-- Settles O10: the answer is the same on the state with its counts cleared. -/
theorem statisticsReportThenClear : Obligations.StatisticsReportThenClear := by
  intro s l b h w
  refine ⟨fun keep => w.replies ?_, fun clear => ?_⟩
  · simp only [flagAt, keep, s.takenBy_statistics]
    rfl
  · have flag : flagAt h.body 0 = true := by simp [flagAt, clear]
    refine ⟨(s.takenBy l b h).clearCounts.answer l b (.ok s.statisticsBytes), ?_, fun m => ?_, fun d => ?_, fun d => ?_, rfl, rfl⟩
    · refine congrArg Host.Outcome.next ((w.onRequest _).trans ?_)
      simp only [flag, if_true, s.takenBy_statistics]
    · have cleared (m : Line) : (s.takenBy l b h).clearCounts.line m
          = { (s.takenBy l b h).line m with framesTaken := 0, checkErrors := 0, abandoned := 0 } := vector_get_ofFn _ m
      by_cases e : l = m
      · subst e
        have line : (s.takenBy l b h).line l = (s.line l).setBuf b (some { h with taken := true }) :=
          State.line_modLine_self s l _
        rw [State.answer_line_self, cleared, line, State.replied, State.line_modLine_self]
        refine (LineUnit.complete_eq (h := { h with taken := true }) _ _ (by exact LineUnit.setBuf_get_self (s.line l) b _)
          w.stage w.owned (by exact w.sending)).trans ?_
        simp only [LineUnit.setBuf, LineUnit.replied, Vector.set_set, Reply.ok]
        rfl
      · rw [State.answer_line_ne _ _ _ e, cleared, State.replied, State.line_modLine_ne _ e, State.takenBy,
          State.line_modLine_ne _ e]
    · exact vector_get_ofFn _ d
    · exact vector_get_ofFn _ d

/-! ### The volume gate (R41, R112) -/

/-- What a request that passes the gate first meets there (R112). -/
theorem State.Waiting.gate {s : State} {l : Line} {b : BufId} {code : Byte} {h : Held} (w : s.Waiting l b code h)
    {f : Held → State → State} {g : Group} {work : Bool} {F : DriveId → State → State}
    (gated : f h (s.takenBy l b h) = (s.takenBy l b h).gated l b h.body g work F) :
    (driveOf (byteAt h.body 0) = none → (Host.Outcome.next (s.onRequest l b code f) : Out)
        = .next (s.replied l b h (.refused .outOfRange none)))
      ∧ ∀ d r, driveOf (byteAt h.body 0) = some d → s.gateReason d g work = some r →
          (Host.Outcome.next (s.onRequest l b code f) : Out) = .next (s.replied l b h (.refused r none)) :=
  ⟨fun none => w.replies (gated.trans (State.gated_none none)),
    fun _ _ drive gate => w.replies (gated.trans (State.gated_refused drive gate))⟩

/-- Settles O11: Table 6-3 is read off row by row, and every request of its list passes the gate first. -/
theorem volumeGateIsTableSixThree : Obligations.VolumeGateIsTableSixThree := by
  constructor
  · intro s d g work c v
    have refuses : c.refusesWork = true ↔ c = .offline ∨ c = .speedCheck ∨ c = .faulted := by
      cases c <;> simp [DriveCondition.refusesWork]
    refine ⟨fun placed bad => ?_, fun open' => ?_⟩
    · simp [State.gateReason, placed, show (s.drive d).condition.refusesWork = true from refuses.2 bad]
    · have passes : s.gateReason d g work = volumeGate v c g := by
        refine if_neg ?_
        rcases open' with e | e | e
        · simp [e]
        · simp [show (s.drive d).condition = .empty from e, DriveCondition.refusesWork]
        · simp [show (s.drive d).condition = .ready from e, DriveCondition.refusesWork]
      rw [passes]
      refine ⟨fun e none => ?_, fun e some other => ?_, fun e ready prep => ?_, fun e => ?_, fun e => ?_, fun e => ?_,
        fun e => ?_, fun e => ?_, fun e => ?_⟩
      · cases g <;> simp [volumeGate, e, none]
      · cases g with
        | prepare =>
          have notReady : c ≠ .ready := other.resolve_right fun no => no rfl
          cases cond : c <;> simp_all [volumeGate]
        | _ => simp [volumeGate, e, some]
      · simp [volumeGate, e, ready, prep]
      · rcases e with e | e <;> cases g <;> simp [volumeGate, e]
      all_goals cases g <;> simp [volumeGate, e]
  · intro s l b h i code g work listed w
    simp only [List.mem_cons, Prod.mk.injEq, List.not_mem_nil, or_false] at listed
    rcases listed with ⟨rfl, rfl, rfl, rfl⟩ | ⟨rfl, rfl, rfl, rfl⟩ | ⟨rfl, rfl, rfl, rfl⟩ | ⟨rfl, rfl, rfl, rfl⟩ |
      ⟨rfl, rfl, rfl, rfl⟩ | ⟨rfl, rfl, rfl, rfl⟩ | ⟨rfl, rfl, rfl, rfl⟩ | ⟨rfl, rfl, rfl, rfl⟩ | ⟨rfl, rfl, rfl, rfl⟩ |
      ⟨rfl, rfl, rfl, rfl⟩ | ⟨rfl, rfl, rfl, rfl⟩ | ⟨rfl, rfl, rfl, rfl⟩
    case inr.inr.inr.inr.inr.inr.inr.inr.inr.inr.inl => exact w.gate (if_neg (by simp [w.owned]))
    all_goals exact w.gate rfl

end Sys2Proof.Machine
end

section
/-! Settlement of the statements on reading the index and the cache, on claims and on watches. -/
namespace Sys2Proof.Machine

/-! ### A request in its owner's hands -/

section
variable (s : State) (l : Line) (b : BufId) (h : Held) (d : DriveId)
@[simp] theorem State.takenBy_drive : (s.takenBy l b h).drive d = s.drive d := rfl
@[simp] theorem State.takenBy_region : (s.takenBy l b h).region d = s.region d := rfl
@[simp] theorem State.takenBy_vol : (s.takenBy l b h).vol d = s.vol d := rfl
@[simp] theorem State.takenBy_op : (s.takenBy l b h).op d = s.op d := rfl
@[simp] theorem State.takenBy_channel : (s.takenBy l b h).channel = s.channel := rfl
@[simp] theorem State.takenBy_cw : (s.takenBy l b h).cw = s.cw := rfl
@[simp] theorem State.takenBy_cfg : (s.takenBy l b h).cfg = s.cfg := rfl
@[simp] theorem State.takenBy_part : (s.takenBy l b h).part = s.part := rfl
@[simp] theorem State.takenBy_clock : (s.takenBy l b h).clock = s.clock := rfl
@[simp] theorem State.takenBy_mem : (s.takenBy l b h).mem = s.mem := rfl
@[simp] theorem State.takenBy_arrival : (s.takenBy l b h).arrival = s.arrival := rfl
@[simp] theorem State.takenBy_gateReason (g : Group) (work : Bool) :
    (s.takenBy l b h).gateReason d g work = s.gateReason d g work := rfl
@[simp] theorem State.takenBy_summary (n : Nat) : (s.takenBy l b h).summary d n = s.summary d n := rfl
@[simp] theorem State.takenBy_frameData (i : Nat) (p : ReadProfile) (k : Nat) :
    (s.takenBy l b h).frameData d i p k = s.frameData d i p k := rfl
end

/-- An owner's mark leaves the body of every request. -/
theorem State.Waiting.bodyOf {s : State} {l : Line} {b : BufId} {code : Byte} {h : Held} (w : s.Waiting l b code h) (m : Line)
    (c : BufId) : (s.takenBy l b h).bodyOf m c = s.bodyOf m c := by
  have buffer : (s.takenBy l b h).buffer m c = if l = m ∧ b = c then some { h with taken := true } else s.buffer m c := by
    change ((s.modLine l _).line m).bufs.get c = _
    rw [State.line_modLine]
    by_cases e : l = m
    · subst e; simp [LineUnit.setBuf_get, State.buffer]
    · simp [e, State.buffer]
  rw [State.bodyOf, State.bodyOf, buffer]
  by_cases e : l = m ∧ b = c
  · obtain ⟨rfl, rfl⟩ := e
    simp [w.held]
  · rw [if_neg e]

theorem State.Waiting.body {s : State} {l : Line} {b : BufId} {code : Byte} {h : Held} (w : s.Waiting l b code h) :
    (s.takenBy l b h).bodyOf l b = h.body := by rw [w.bodyOf, State.bodyOf, w.held]

/-- A request handed to its owner whose desk is gone is marked in no other way (R159): either nothing happens, or the owner
has it with its orphan mark. -/
theorem State.onRequest_cases {s : State} {l : Line} {b : BufId} {h : Held} (held : s.buffer l b = some h) (code : Byte)
    (f : Held → State → State) : s.onRequest l b code f = s ∨ s.onRequest l b code f = f h (s.markTaken l b) := by
  unfold State.onRequest State.handed
  rw [held]
  by_cases c : h.stage = .inProgress ∧ h.taken = false ∧ h.code = code ∧ s.part.extReset = false
  · exact .inr (by simp [c])
  · exact .inl (by simp [c])

theorem Entry.isStory_iff (e : Entry) : e.isStory = true ↔ e.state = .live ∨ e.state = .retired := by
  simp [Entry.isStory]

/-! ### LOOKUP and LIST (R134, R135) -/

/-- Settles O14. -/
theorem lookupAndListReadTheIndex : Obligations.LookupAndListReadTheIndex := by
  constructor
  · intro s l b h d w drive gate slug named
    have names (n : Nat) : named n ↔ (((s.vol d).entry n).isStory && ((s.vol d).entry n).slug == slug) = true := by
      rw [Bool.and_eq_true, Entry.isStory_iff, beq_iff_eq]
    refine ⟨fun bad => w.replies ?_, fun n ok lt here low => w.replies ?_, fun ok never => w.replies ?_⟩
    all_goals rw [State.gated_admitted drive ((s.takenBy_gateReason l b h d _ _).trans gate)]
    · exact if_pos bad
    · have found : (s.vol d).findSlug (slugField h.body 1) = some n := List.find?_range_eq_some.2
        ⟨(names n).1 here, List.mem_range.2 lt, fun m less => by
          rw [Bool.not_eq_true', ← Bool.not_eq_true, ← names]; exact low m less⟩
      refine (if_neg (by rw [show slugOk (slugField h.body 1) = true from ok]; simp)).trans ?_
      rw [State.takenBy_vol, found]
      rfl
    · have found : (s.vol d).findSlug (slugField h.body 1) = .none := List.find?_range_eq_none.2
        fun n lt => by rw [Bool.not_eq_true', ← Bool.not_eq_true, ← names]; exact never n lt
      refine (if_neg (by rw [show slugOk (slugField h.body 1) = true from ok]; simp)).trans ?_
      rw [State.takenBy_vol, found]
      rfl
  · intro s l b h d w drive gate start baskets filter
    refine ⟨fun high => w.replies ?_, fun low => ⟨(s.vol d).listed start baskets filter, ?_, fun n => ?_, 
      nextHandle (s.vol d).capacity ((s.vol d).listed start baskets filter), w.replies ?_, fun few => ?_, fun n eighth => ?_⟩⟩
    · rw [State.gated_admitted drive ((s.takenBy_gateReason l b h d _ _).trans gate)]
      exact if_pos high
    · exact List.pairwise_lt_range.filter _
    · simp only [Volume.listed, List.mem_filter, List.mem_range, Bool.and_eq_true, decide_eq_true_eq]
      tauto
    · rw [State.gated_admitted drive ((s.takenBy_gateReason l b h d _ _).trans gate)]
      exact if_neg (Nat.not_lt.2 low)
    · simp [nextHandle, List.getElem?_eq_none (Nat.le_of_lt_succ few)]
    · simp [nextHandle, eighth]

/-! ### READ BLOCK answered at once (R95, R96, R136) -/

/-- A story request that has passed its first checks is with its owner (R112, R133 item 1). -/
theorem State.StoryAsked.onStory {s : State} {l : Line} {b : BufId} {h : Held} {code : Byte} {g : Group} {d : DriveId}
    {p : Profile} {n : Nat} {e : Entry} (a : s.StoryAsked l b h code g d p n e)
    (F : DriveId → Profile → Nat → Entry → State → State) :
    (s.takenBy l b h).onStory l b h.body g F = F d p n e (s.takenBy l b h) := by
  have profile : ((s.takenBy l b h).vol d).profile = some p := a.profile
  have entry : ((s.takenBy l b h).vol d).entry n = e := a.entry
  unfold State.onStory
  rw [State.gated_admitted a.drive ((s.takenBy_gateReason l b h d _ _).trans a.admitted), profile, a.handle, entry]
  exact if_neg (Nat.not_le.2 a.below)

/-- The place of the first frame of a kind. -/
theorem frameWhere_eq_findIdx? (p : Frame → Bool) (fs : List Frame) : frameWhere p fs = fs.findIdx? p := by
  induction fs with
  | nil => rfl
  | cons f rest ih => rw [frameWhere, List.findIdx?_cons, ih]

theorem frameWhere_some {p : Frame → Bool} {fs : List Frame} {i : Nat} (here : p (fs.getD i .empty) = true)
    (empty : p .empty = false) (low : ∀ j, j < i → p (fs.getD j .empty) = false) : frameWhere p fs = some i := by
  have lt : i < fs.length := by
    by_contra out
    rw [List.getD_eq_default _ _ (Nat.not_lt.1 out), empty] at here
    cases here
  rw [frameWhere_eq_findIdx?, List.findIdx?_eq_some_iff_getElem]
  refine ⟨lt, ?_, fun j less => ?_⟩
  · rwa [List.getD_eq_getElem _ _ lt] at here
  · have := low j less
    rw [List.getD_eq_getElem _ _ (less.trans lt)] at this
    simp [this]

/-- Settles O22. -/
theorem readBlockRefusalsAndHits : Obligations.ReadBlockRefusalsAndHits := by
  constructor
  · intro s l b h d p n e a
    refine ⟨fun no => a.waiting.replies ?_, fun story high => a.waiting.replies ?_⟩
    · rw [a.onStory]
      exact if_pos no
    · rw [a.onStory]
      exact (if_neg (by simp [story])).trans (if_pos high)
  · intro s l b h d p n e pl a story low locate hit bytes
    have w := a.waiting
    have cache : exec (.readBlock l b) s
        = .next ((s.takenBy l b h).cacheRead d pl (p.slot pl.cylinder pl.head pl.sectorId) p.read l b) := by
      refine congrArg Host.Outcome.next ((w.onRequest _).trans ((a.onStory _).trans ?_))
      rw [if_neg (by simp [story]), if_neg (Nat.not_le.2 low), locate]
    have reply (data : List Byte) : (s.takenBy l b h).blockReply l b false data = bytes data := by
      rw [State.blockReply, w.body]
    have answered (r : Reply) : ((s.takenBy l b h).answer l b r).countHit d = hit r := by rw [w.answer]; rfl
    refine ⟨fun older wr newer l' b' x queue origin kind cyl head sec unwritten => ?_, fun i f conds unwritten frame low => ?_⟩
    · have found : (s.drive d).queue.reverse.find? (Request.writesPlace pl) = some wr := by
        rw [queue, List.reverse_append, List.reverse_cons, List.append_assoc, List.find?_append,
          List.find?_eq_none.2 fun r mem => by simp [unwritten r (List.mem_reverse.1 mem)]]
        simp [Request.writesPlace, Request.isDeskWrite, kind, cyl, head, sec]
      have data : (s.takenBy l b h).writeBuffer wr = writeDataOf (s.bodyOf l' b') := by
        simp only [State.writeBuffer, origin, kind, w.bodyOf]
      rw [cache, State.cacheRead, State.takenBy_drive, found]
      simp only [reply, data, answered]
    · have noWrite : (s.drive d).queue.reverse.find? (Request.writesPlace pl) = .none :=
        List.find?_eq_none.2 fun r mem => by simp [unwritten r (List.mem_reverse.1 mem)]
      have found : frameWhere (Frame.validFor pl.cylinder pl.head) (s.region d).frames = some i :=
        frameWhere_some (by rw [show (s.region d).frames.getD i .empty = _ from frame]; simp [Frame.validFor]) rfl low
      have hits (cond : SectorCond) (held : conds[pl.sectorId - 1]? = some cond) : exec (.readBlock l b) s
          = .next (((s.takenBy l b h).answerReader d i p.read cond false
              { line := l, buf := b, sector := pl.sectorId }).countHit d) := by
        rw [cache, State.cacheRead, State.takenBy_drive, noWrite, State.takenBy_region, found]
        simp only [State.hitFrame, State.takenBy_region, frame, List.getD_eq_getElem?_getD, held, Option.getD_some]
      refine ⟨fun good => ?_, fun bad => ?_, fun absent => ?_⟩
      · rw [hits .good good]
        simp only [State.answerReader, reply, answered, State.takenBy_frameData]
      · rw [hits .bad bad]
        simp only [State.answerReader, answered]
      · rw [hits .absent absent]
        simp only [State.answerReader, answered]

end Sys2Proof.Machine
end

section
/-! Settlement of the statements on claims and on watches (Chapter 8). -/
namespace Sys2Proof.Machine

/-! ### OPEN, RELEASE and BREAK CLAIM (R155 to R158) -/

theorem ClaimUnit.holder_grant {c : ClaimUnit} {d : DriveId} {n : Nat} (free : c.holder d n = none) (serial : Nat) (l : Line) :
    (c.grant d serial n l).holder d n = some l := by
  have none : c.find d n = .none := by simpa [ClaimUnit.holder] using free
  rw [ClaimUnit.holder, ClaimUnit.find, ClaimUnit.grant]
  simp only [List.find?_append]
  rw [show c.claims.find? _ = .none from none]
  simp

/-- Settles O26. -/
theorem openGrantsAFreeClaim : Obligations.OpenGrantsAFreeClaim := by
  intro s l b h
  refine ⟨?_, fun held orphan => ?_⟩
  · intro d w drive gate n
    have opens : exec (.openStory l b) s = .next ((s.takenBy l b h).openAt l b d n) := by
      refine congrArg Host.Outcome.next ((w.onRequest _).trans ((if_neg (by simp [w.owned])).trans ?_))
      exact State.gated_admitted drive ((s.takenBy_gateReason l b h d _ _).trans gate)
    have vol : (s.takenBy l b h).vol d = s.vol d := rfl
    have cw : (s.takenBy l b h).cw = s.cw := rfl
    have room (low : n < (s.vol d).capacity) : ¬ (s.vol d).capacity ≤ n := Nat.not_le.2 low
    refine ⟨fun high => ?_, fun low dead => ?_, fun low live => ⟨fun o held other => ?_, fun own => ?_, fun free full => ?_,
      fun free some => ?_⟩⟩
    all_goals rw [opens, State.openAt, vol, cw]
    · rw [if_pos high, ← w.answer]; rfl
    · rw [if_neg (room low), if_pos dead, ← w.answer]; rfl
    · simp only [if_neg (room low), live, ne_eq, not_true_eq_false, if_false, held, if_neg other, w.answer]
    · simp only [if_neg (room low), live, ne_eq, not_true_eq_false, if_false, own, if_true, Reply.ok, w.answer]
      rw [State.takenBy_summary, State.summary, own]
    · simp only [if_neg (room low), live, ne_eq, not_true_eq_false, if_false, free, full, Bool.false_eq_true, w.answer,
        Reply.refuse]
    · have holder := ClaimUnit.holder_grant free (s.vol d).serial l
      have summary : ((s.takenBy l b h).modClaims fun c => c.grant d (s.vol d).serial n l).summary d n
          = summaryBytes n ((s.vol d).entry n) (.some l) := by
        rw [State.summary]; exact congrArg _ holder
      simp only [if_neg (room low), live, ne_eq, not_true_eq_false, if_false, free, some, if_true]
      change Host.Outcome.next (((s.takenBy l b h).modClaims fun c => c.grant d (s.vol d).serial n l).answer l b
        (.ok (((s.takenBy l b h).modClaims fun c => c.grant d (s.vol d).serial n l).summary d n))) = _
      rw [summary, State.answer_modClaims, w.answer]
      rfl
  · rcases State.onRequest_cases held codeOpen (fun h s =>
      if h.orphan then s.answer l b (.refuse .wrongState)
      else s.gated l b h.body .changes false fun d s => s.openAt l b d (byteAt h.body 1)) with none | marked
    · exact ⟨s, congrArg _ none, rfl⟩
    · refine ⟨_, congrArg Host.Outcome.next marked, ?_⟩
      rw [if_pos orphan]
      rfl

/-- A claim is released (R157): one update of the claim and watch unit. -/
theorem State.freeClaim_eq (s : State) (d : DriveId) (n : Nat) (l : Line) :
    s.freeClaim d n l = s.modClaims fun c => c.freed d n ((s.vol d).entry n).basket l := rfl

theorem State.dropBroken_eq (s : State) (d : DriveId) (n : Nat) (o l : Line) :
    s.dropBroken d n o l = s.modClaims fun c =>
      ({ c with broken := c.broken.set o.val (some (d, n)) o.isLt } : ClaimUnit).freed d n ((s.vol d).entry n).basket l := rfl

/-- Settles O27. -/
theorem releaseAndBreakEndAClaim : Obligations.ReleaseAndBreakEndAClaim := by
  intro s l b h d drive n basket
  refine ⟨fun w => ⟨fun own => ?_, fun other => w.replies ?_⟩,
    fun w => ⟨fun free => w.replies ?_, fun own => ?_, fun o held other => ?_⟩⟩
  · refine congrArg Host.Outcome.next ((w.onRequest _).trans ?_)
    simp only [drive]
    rw [if_pos (by exact own), State.freeClaim_eq, State.answer_modClaims, w.answer]
    rfl
  · simp only [drive]
    exact if_neg other
  · simp only [drive, State.takenBy_cw, show s.cw.holder d (byteAt h.body 1) = none from free]
    rfl
  · refine congrArg Host.Outcome.next ((w.onRequest _).trans ?_)
    simp only [drive, State.takenBy_cw, show s.cw.holder d (byteAt h.body 1) = some l from own, if_true]
    rw [State.freeClaim_eq, State.answer_modClaims, w.answer]
    rfl
  · refine congrArg Host.Outcome.next ((w.onRequest _).trans ?_)
    simp only [drive, State.takenBy_cw, show s.cw.holder d (byteAt h.body 1) = some o from held, if_neg other]
    rw [State.dropBroken_eq, State.answer_modClaims, w.answer]
    rfl

/-! ### WATCH SET and WATCH CLEAR (R163, R165), a volume that is gone (R160) -/

/-- The lowest UNUSED watch is the one found (R163 item 4). -/
theorem ClaimUnit.unusedWatch_lowest {c : ClaimUnit} {l : Line} {n : Fin 4} (unused : (c.watches.get l).get n = .unused)
    (low : ∀ m, m < n → (c.watches.get l).get m ≠ .unused) : c.unusedWatch l = some n := by
  have below (m : Fin 4) (less : m < n) : ((c.watches.get l).get m == Watch.unused) = false := by simpa using low m less
  unfold ClaimUnit.unusedWatch
  match n with
  | 0 => simp [unused]
  | 1 => simp [unused, below 0 (by decide)]
  | 2 => simp [unused, below 0 (by decide), below 1 (by decide)]
  | 3 => simp [unused, below 0 (by decide), below 1 (by decide), below 2 (by decide)]

theorem ClaimUnit.unusedWatch_none {c : ClaimUnit} {l : Line} (used : ∀ n, (c.watches.get l).get n ≠ .unused) :
    c.unusedWatch l = none := by
  simp [ClaimUnit.unusedWatch, used]

/-- A watch names a volume when it is in use, in STORY mode, on its drive (R160). -/
theorem Watch.afterGone_cases (d : DriveId) (w : Watch) :
    let names := ∃ x h, (w = .armed x ∨ ∃ y, w = .raised x y) ∧ x.drive = some d ∧ x.target = .story h
    (names → w.afterGone d = .unused) ∧ (¬ names → w.afterGone d = w) := by
  cases w with
  | unused => simp [Watch.afterGone]
  | armed x =>
    cases target : x.target with
    | baskets set => simp [Watch.afterGone, target]
    | story n => by_cases e : x.drive = some d <;> simp [Watch.afterGone, target, e]
  | raised x y =>
    cases target : x.target with
    | baskets set => simp [Watch.afterGone, target]
    | story n => by_cases e : x.drive = some d <;> simp [Watch.afterGone, target, e]

/-- A WATCH SET whose fields are in range is with its owner (R163 item 1). -/
theorem State.Waiting.watchSet {s : State} {l : Line} {b : BufId} {h : Held} (w : s.Waiting l b codeWatchSet h) {x : WatchSpec}
    (spec : watchSpecOf h.body = some x) : exec (.watchSet l b) s = .next ((s.takenBy l b h).watchSetAt l b x) := by
  refine congrArg Host.Outcome.next ((w.onRequest _).trans ((if_neg (by simp [w.owned])).trans ?_))
  rw [spec]

theorem State.takenBy_watchRefused (s : State) (l : Line) (b : BufId) (h : Held) (x : WatchSpec) :
    (s.takenBy l b h).watchRefused x = s.watchRefused x := rfl

/-- WATCH CLEAR of a watch in use (R165 items 1 to 3). -/
theorem State.Waiting.clearWatch {s : State} {l : Line} {b : BufId} {h : Held} (w : s.Waiting l b codeWatchClear h) {n : Fin 4}
    (target : byteAt h.body 0 = n.val) : exec (.watchClear l b) s
      = .next ((s.takenBy l b h).clearWatch l b n (flagAt h.body 1)) := by
  have drive : driveOf (byteAt h.body 0) = some n := by rw [target, driveOf, dif_pos n.isLt]
  refine congrArg Host.Outcome.next ((w.onRequest _).trans ?_)
  simp only [drive]

theorem driveOf_none {n : Nat} (h : 4 ≤ n) : driveOf n = none := dif_neg (Nat.not_lt.2 h)

/-- Settles O30. -/
theorem watchSetAndClear : Obligations.WatchSetAndClear := by
  refine ⟨fun s l b h => ⟨fun w => ⟨fun bad => w.replies ?_, fun x spec => ⟨fun d n drive story out => ?_,
      fun d n drive story inService high => ?_, fun ok used => ?_, fun n ok unused low => ?_⟩⟩,
      fun held orphan => ?_⟩, fun s l b h w => ⟨?_, fun flag keep => ?_, fun bad => w.replies ?_⟩, ?_⟩
  · rw [if_neg (by simp [w.owned]), bad]
    rfl
  · rw [w.watchSet spec, State.watchSetAt, State.takenBy_watchRefused]
    simp only [State.watchRefused, drive, story, out, if_true, w.answer, Reply.refuse]
  · rw [w.watchSet spec, State.watchSetAt, State.takenBy_watchRefused]
    simp only [State.watchRefused, drive, story, inService, Bool.true_eq_false, if_false, high, if_true, w.answer, Reply.refuse]
  · rw [w.watchSet spec, State.watchSetAt, State.takenBy_watchRefused]
    simp only [ok, State.takenBy_cw, ClaimUnit.unusedWatch_none used, w.answer, Reply.refuse]
  · rw [w.watchSet spec, State.watchSetAt, State.takenBy_watchRefused]
    simp only [ok, State.takenBy_cw, ClaimUnit.unusedWatch_lowest unused low, State.answer_modClaims, w.answer, Reply.ok]
  · rcases State.onRequest_cases held codeWatchSet (fun h s =>
      if h.orphan then s.answer l b (.refuse .wrongState)
      else match watchSpecOf h.body with
        | none => s.answer l b (.refuse .outOfRange)
        | some w => s.watchSetAt l b w) with none | marked
    · exact ⟨s, congrArg _ none, rfl⟩
    · refine ⟨_, congrArg Host.Outcome.next marked, ?_⟩
      rw [if_pos orphan]
      rfl
  · intro n target x answer
    have clear (used : x ≠ .unused) : exec (.watchClear l b) s = .next (answer (x.cleared (flagAt h.body 1))) := by
      rw [w.clearWatch target, State.clearWatch]
      rw [if_neg (by exact used), State.answer_modClaims, Reply.ok, w.answer]
      rfl
    refine ⟨fun unused => ?_, fun used discard => ?_, fun y keep inUse => ?_⟩
    · rw [w.clearWatch target, State.clearWatch]
      rw [if_pos (by exact unused), Reply.refuse, w.answer]
    · rw [clear used, show flagAt h.body 1 = true by simp [flagAt, discard]]
      congr 2
      cases x <;> simp [Watch.cleared]
    · have noFlag : flagAt h.body 1 = false := by simp [flagAt, keep]
      rcases inUse with e | ⟨v, e⟩
      · rw [clear (by simp [e]), noFlag, e]; rfl
      · rw [clear (by simp [e]), noFlag, e]; rfl
  · refine congrArg Host.Outcome.next ((w.onRequest _).trans ?_)
    have target : driveOf (byteAt h.body 0) = none := driveOf_none (by omega)
    simp only [target]
    rw [if_pos ⟨flag, by simp [flagAt, keep]⟩, State.clearBroken, State.answer_modClaims, Reply.ok, w.answer]
    rfl
  · have target : driveOf (byteAt h.body 0) = none := driveOf_none (by omega)
    simp only [target]
    rw [if_neg (by simp [flagAt]; omega)]
    rfl
  · intro c d t
    refine ⟨rfl, rfl, rfl, ?_⟩
    intro l n w names
    have after : (t.watches.get l).get n = w.afterGone d := by simp [t, ClaimUnit.volumeGone, w]
    rw [after]
    exact Watch.afterGone_cases d w

end Sys2Proof.Machine
end

section
/-! Settlement of the statement on records and fields (Chapters 1 and 11). -/
namespace Sys2Proof.Machine

/-! ### Numbers as bytes -/

theorem toByte_toNat (n : Nat) : (toByte n).toNat = n % 256 := by simp [toByte]

theorem byteAt_append_right (xs ys : List Byte) (i : Nat) : byteAt (xs ++ ys) (xs.length + i) = byteAt ys i := by
  rw [byteAt, byteAt, List.getD_eq_getElem?_getD, List.getD_eq_getElem?_getD, List.getElem?_append_right (by omega),
    Nat.add_sub_cancel_left]

theorem byteAt_append_left {xs : List Byte} {i : Nat} (h : i < xs.length) (ys : List Byte) :
    byteAt (xs ++ ys) i = byteAt xs i := by
  simp [byteAt, List.getD_eq_getElem?_getD, List.getElem?_append_left h]

theorem nat3_append_right (xs ys : List Byte) (i : Nat) : nat3 (xs ++ ys) (xs.length + i) = nat3 ys i := by
  simp only [nat3, Nat.add_assoc, byteAt_append_right]

theorem nat3_append_left {xs : List Byte} {i : Nat} (h : i + 2 < xs.length) (ys : List Byte) :
    nat3 (xs ++ ys) i = nat3 xs i := by
  simp only [nat3, byteAt_append_left (Nat.lt_of_le_of_lt (by omega) h : i < xs.length),
    byteAt_append_left (by omega : i + 1 < xs.length), byteAt_append_left h]

theorem nat3_be3 {n : Nat} (h : n < 2 ^ 24) (rest : List Byte) : nat3 (be3 n ++ rest) 0 = n := by
  simp [nat3, byteAt, be3, toByte_toNat]
  omega

theorem nat2_be2 {n : Nat} (h : n < 65536) (rest : List Byte) : nat2 (be2 n ++ rest) 0 = n := by
  simp [nat2, byteAt, be2, toByte_toNat]
  omega

theorem beBytes_length (n v : Nat) : (beBytes n v).length = n := by
  induction n with
  | zero => rfl
  | succ n ih => simp [beBytes, ih]

/-- The number of a run of bytes is its first byte above the number of the others. -/
theorem beNat_cons (b : Byte) (bs : List Byte) : beNat (b :: bs) = b.toNat * 256 ^ bs.length + beNat bs := by
  have from' (bs : List Byte) : ∀ a, bs.foldl (fun acc b => acc * 256 + b.toNat) a = a * 256 ^ bs.length + beNat bs := by
    induction bs with
    | nil => intro a; simp [beNat]
    | cons c rest ih =>
      intro a
      have zero := ih c.toNat
      simp only [beNat, List.foldl_cons, Nat.zero_mul, Nat.zero_add, List.length_cons, ih (a * 256 + c.toNat), zero]
      ring
  simpa [beNat] using from' bs b.toNat

theorem beNat_beBytes (n v : Nat) : beNat (beBytes n v) = v % 256 ^ n := by
  induction n with
  | zero => simp [beBytes, beNat, Nat.mod_one]
  | succ n ih =>
    rw [beBytes, beNat_cons, ih, beBytes_length, toByte_toNat, Nat.pow_succ, Nat.mod_mul]
    ring

/-! ### Index entries (R197, Table 11-5) -/

theorem encodeExtent_length (x : Extent) : (encodeExtent x).length = 3 := rfl

/-- Extent place `i` stands at byte `3 * i` of the places. -/
theorem nat3_encodeExtents (es : List Extent) (rest : List Byte) (small : ∀ x ∈ es, x.first < 4096 ∧ x.count < 4096) :
    ∀ i (h : i < es.length), nat3 (es.flatMap encodeExtent ++ rest) (3 * i) = es[i].first * 4096 + es[i].count := by
  induction es with
  | nil => intro i h; simp at h
  | cons x xs ih =>
    intro i h
    obtain ⟨first, count⟩ := small x (by simp)
    rw [List.flatMap_cons, List.append_assoc]
    match i with
    | 0 => exact nat3_be3 (by omega) _
    | i + 1 =>
      rw [show 3 * (i + 1) = (encodeExtent x).length + 3 * i by rw [encodeExtent_length]; omega, nat3_append_right]
      exact ih (fun y hy => small y (by simp [hy])) i (by simpa using h)

theorem padTo_short {n : Nat} {bs : List Byte} (h : bs.length ≤ n) (fill : Byte) :
    padTo n fill bs = bs ++ List.replicate (n - bs.length) fill := by rw [padTo, List.take_of_length_le h]

/-- A slug field ends at its first 0x00. -/
theorem takeWhile_padTo {slug : List Byte} (short : slug.length ≤ 12) (chars : ∀ c ∈ slug, c ≠ 0#8) :
    (padTo 12 0#8 slug).takeWhile (· != 0#8) = slug := by
  rw [padTo_short short, List.takeWhile_append_of_pos (by simpa using chars)]
  cases 12 - slug.length <;> simp [List.replicate_succ]

/-- The figures of the 48-bit group of an entry (Table 11-5). -/
theorem entryGroup_figures {e : Entry} (basket : e.basket < 16) (priority : e.priority < 4) (length : e.length < 2 ^ 21)
    (day : e.day < 2 ^ 9) (minute : e.minute < 2 ^ 11) :
    entryGroup e < 256 ^ 6 ∧ entryGroup e / 2 ^ 43 % 16 = e.basket ∧ entryGroup e / 2 ^ 41 % 4 = e.priority
      ∧ entryGroup e / 2 ^ 20 % 2 ^ 21 = e.length ∧ entryGroup e / 2 ^ 11 % 2 ^ 9 = e.day
      ∧ entryGroup e % 2 ^ 11 = e.minute := by
  unfold entryGroup
  omega

/-- An entry in use is recorded as its five fields one after the other (Table 11-5). -/
theorem encodeEntry_inUse {e : Entry} (inUse : e.state ≠ .free) :
    encodeEntry e = toByte (e.state.code * 64 + e.extents.length * 8 + e.author) :: (padTo 12 0#8 e.slug
      ++ (beBytes 6 (entryGroup e) ++ (toByte e.version :: padTo 12 0#8 (e.extents.flatMap encodeExtent)))) := by
  unfold encodeEntry
  split
  · contradiction
  · simp

theorem decodeEntry_encodeEntry {e : Entry} (inUse : e.state = .live ∨ e.state = .retired ∨ e.state = .damaged)
    (decoded : e.decoded = true) (slug : e.slug.length ≤ 12) (chars : ∀ c ∈ e.slug, c ≠ 0#8) (basket : e.basket < 16)
    (priority : e.priority < 4) (length : e.length < 2 ^ 21) (day : e.day < 2 ^ 9) (minute : e.minute < 2 ^ 11)
    (version : e.version < 256) (author : e.author < 8) (count : e.extents.length ≤ 4)
    (small : ∀ x ∈ e.extents, x.first < 4096 ∧ x.count < 4096) :
    decodeEntry (encodeEntry e) = e ∧ (encodeEntry e).length = 32 := by
  have notFree : e.state ≠ .free := by rcases inUse with h | h | h <;> simp [h]
  have form := encodeEntry_inUse notFree
  have code : e.state.code < 4 ∧ e.state.code ≠ 0 := by rcases inUse with h | h | h <;> simp [h, EntryState.code]
  obtain ⟨size, group⟩ := entryGroup_figures basket priority length day minute
  have places : (e.extents.flatMap encodeExtent).length ≤ 12 := by
    simp [List.length_flatMap, encodeExtent_length]; omega
  have b0 : byteAt (encodeEntry e) 0 = e.state.code * 64 + e.extents.length * 8 + e.author := by
    rw [form]
    simp [byteAt, toByte_toNat]
    omega
  have slugAt : slice (encodeEntry e) 1 12 = padTo 12 0#8 e.slug := by
    rw [form, slice, List.drop_one, List.tail_cons, List.take_left' (by simp)]
  have groupAt : beNat (slice (encodeEntry e) 13 6) = entryGroup e := by
    rw [form, slice, List.drop_succ_cons, List.drop_left' (by simp), List.take_left' (beBytes_length 6 _), beNat_beBytes,
      Nat.mod_eq_of_lt size]
  obtain ⟨pre, hpre⟩ : ∃ pre, pre = toByte (e.state.code * 64 + e.extents.length * 8 + e.author) :: (padTo 12 0#8 e.slug
    ++ beBytes 6 (entryGroup e)) := ⟨_, rfl⟩
  have preLength : pre.length = 19 := by simp [hpre, beBytes_length]
  have behind : encodeEntry e = pre ++ (toByte e.version :: padTo 12 0#8 (e.extents.flatMap encodeExtent)) := by
    rw [form, hpre]; simp
  have versionAt : byteAt (encodeEntry e) 19 = e.version := by
    rw [behind, ← preLength]
    refine (byteAt_append_right pre _ 0).trans ?_
    simpa [byteAt, toByte_toNat] using version
  have extentsAt : (List.range (min e.extents.length 4)).map (decodeExtent (encodeEntry e)) = e.extents := by
    refine List.ext_getElem (by simpa using count) fun i _ lt => ?_
    have figure : nat3 (encodeEntry e) (20 + 3 * i) = e.extents[i].first * 4096 + e.extents[i].count := by
      rw [behind, List.append_cons, ← show (pre ++ [toByte e.version]).length = 20 by simp [preLength], nat3_append_right,
        padTo_short places]
      exact nat3_encodeExtents _ _ small i lt
    obtain ⟨first, cnt⟩ := small _ (List.getElem_mem lt)
    rw [List.getElem_map, List.getElem_range, decodeExtent, figure]
    generalize e.extents[i] = x at first cnt
    cases x
    simp only at first cnt
    simp only [Extent.mk.injEq]
    omega
  have codeAt : byteAt (encodeEntry e) 0 / 64 = e.state.code := by omega
  have countAt : byteAt (encodeEntry e) 0 / 8 % 8 = e.extents.length := by omega
  have authorAt : byteAt (encodeEntry e) 0 % 8 = e.author := by omega
  have stateAt : decodedState e.state.code e.extents.length = e.state := by
    have few : ¬ 4 < e.extents.length := by omega
    rcases inUse with h | h | h <;> simp [decodedState, h, EntryState.code, few]
  constructor
  · obtain ⟨basketAt, priorityAt, lengthAt, dayAt, minuteAt⟩ := group
    unfold decodeEntry
    simp only [codeAt, countAt, authorAt, if_neg code.2, groupAt, slugAt, versionAt, extentsAt, stateAt, basketAt, priorityAt,
      lengthAt, dayAt, minuteAt, takeWhile_padTo slug chars, ← decoded]
  · rw [form]
    simp [beBytes_length]

/-! ### The label record (R13, R197, Table 11-4) -/

theorem decodeLabel_encodeLabel (i : LabelInfo) (p : Profile) (name : i.name.length = 8) (serial : i.serial < 65536)
    (day : i.day < 65536) (minute : i.minute < 65536) (sizeCode : p.sizeCode < 256) (spt : p.spt < 256) (sides : p.sides < 256)
    (interleave : p.interleave < 256) (skew : p.skew < 256) (indexSectors : p.indexSectors < 256) (granule : p.granule < 256) :
    decodeLabel (encodeLabel i p) =
      { info := i, recording := recordingCode p.recording, sizeCode := p.sizeCode, spt := p.spt, sides := p.sides,
        interleave := p.interleave, skew := p.skew, indexSectors := p.indexSectors, granule := p.granule } := by
  have code : recordingCode p.recording < 256 := by cases p.recording <;> decide
  obtain ⟨rest, hrest⟩ : ∃ rest, rest = be2 i.serial ++ [toByte (recordingCode p.recording), toByte p.sizeCode, toByte p.spt,
      toByte p.sides, toByte p.interleave, toByte p.skew, toByte p.indexSectors, toByte p.granule]
    ++ be2 i.day ++ be2 i.minute ++ List.replicate 106 0#8 := ⟨_, rfl⟩
  have form : encodeLabel i p = i.name ++ rest := by
    rw [encodeLabel, padTo_short (by omega), name, hrest]
    simp
  have at' (k : Nat) : byteAt (i.name ++ rest) (8 + k) = byteAt rest k := by rw [← name, byteAt_append_right]
  have bytes (n : Nat) (h : n < 256) : (toByte n).toNat = n := by rw [toByte_toNat, Nat.mod_eq_of_lt h]
  have nameAt : slice (i.name ++ rest) 0 8 = i.name := by rw [slice, List.drop_zero, ← name, List.take_left]
  have figure (k n : Nat) (h : byteAt rest k = n) : byteAt (i.name ++ rest) (8 + k) = n := (at' k).trans h
  have pair (k n : Nat) (h : byteAt rest k * 256 + byteAt rest (k + 1) = n) : nat2 (i.name ++ rest) (8 + k) = n := by
    rw [nat2, at', Nat.add_assoc, at', h]
  have word (n : Nat) (h : n < 65536) : n / 256 % 256 * 256 + n % 256 = n := by omega
  rw [form, decodeLabel, nameAt, pair 0 i.serial (by simp [hrest, byteAt, be2, toByte_toNat, word _ serial]),
    pair 10 i.day (by simp [hrest, byteAt, be2, toByte_toNat, word _ day]),
    pair 12 i.minute (by simp [hrest, byteAt, be2, toByte_toNat, word _ minute]),
    figure 2 _ (by simp [hrest, byteAt, be2]; exact bytes _ code),
    figure 3 _ (by simp [hrest, byteAt, be2]; exact bytes _ sizeCode),
    figure 4 _ (by simp [hrest, byteAt, be2]; exact bytes _ spt), figure 5 _ (by simp [hrest, byteAt, be2]; exact bytes _ sides),
    figure 6 _ (by simp [hrest, byteAt, be2]; exact bytes _ interleave), figure 7 _ (by simp [hrest, byteAt, be2]; exact bytes _ skew),
    figure 8 _ (by simp [hrest, byteAt, be2]; exact bytes _ indexSectors), figure 9 _ (by simp [hrest, byteAt, be2]; exact bytes _ granule)]

/-! ### The check register (R8, R9) -/

/-- The register is told from its value one bit on. -/
theorem checkBit_injective (bit : Bool) : Function.Injective fun r => checkBit r bit := by
  intro r r' same
  have bit0 (x : BitVec 16) : (x <<< 1).getLsbD 0 = false := by simp
  have gen0 (x : BitVec 16) : ((x <<< 1) ^^^ generator).getLsbD 0 = true := by
    rw [BitVec.getLsbD_xor, bit0]; decide
  have shifted (msb : r.msb = r'.msb) (h : r <<< 1 = r' <<< 1) : r = r' := by
    refine BitVec.eq_of_getLsbD_eq fun i lt => ?_
    by_cases top : i = 15
    · subst top
      simpa [BitVec.msb_eq_getLsbD_last] using msb
    · have := congrArg (fun x => x.getLsbD (i + 1)) h
      simpa [show i + 1 < 16 by omega, BitVec.getLsbD_eq_getElem lt] using this
  simp only [checkBit] at same
  by_cases a : bit = r.msb <;> by_cases b : bit = r'.msb
  · exact shifted (a.symm.trans b) (by simpa [← a, ← b] using same)
  · have := congrArg (fun x => x.getLsbD 0) same
    rw [if_pos (by simpa using a), if_neg (by simpa using b)] at this
    simp only [bit0, gen0] at this
    cases this
  · have := congrArg (fun x => x.getLsbD 0) same
    rw [if_neg (by simpa using a), if_pos (by simpa using b)] at this
    simp only [bit0, gen0] at this
    cases this
  · rw [if_neg (by simpa using a), if_neg (by simpa using b)] at same
    refine shifted (by cases bit <;> simp_all) ?_
    exact (BitVec.xor_left_inj _).1 same

/-- The register is told from its value after any bits. -/
theorem foldl_checkBit_injective (bits : List Bool) : Function.Injective fun r => bits.foldl checkBit r := by
  induction bits with
  | nil => exact Function.injective_id
  | cons bit rest ih => exact ih.comp (checkBit_injective bit)

/-- The check bytes that bring the register to zero are its own (R8, R9). -/
theorem checkGood_iff (bytes : List Byte) (c : BitVec 16) : checkGood bytes c = true ↔ c = checkOf bytes := by
  have zero : checkGood bytes c = true ↔ (checkBytes c).foldl checkByte (checkOf bytes) = (checkBytes c).foldl checkByte c := by
    rw [checkGood, checkOf, List.foldl_append, checkBytes_close, beq_iff_eq]
    rfl
  rw [zero, foldl_checkByte, foldl_checkByte]
  exact ⟨fun same => (foldl_checkBit_injective _ same).symm, fun same => by rw [same]⟩

/-! ### Frames (R171) -/

theorem foldl_add_start (bs : List Byte) : ∀ a : Byte, bs.foldl (· + ·) a = a + byteSum bs := by
  induction bs with
  | nil => intro a; simp [byteSum]
  | cons b rest ih =>
    intro a
    rw [byteSum, List.foldl_cons, List.foldl_cons, ih, ih (0#8 + b)]
    simp [BitVec.add_assoc]

theorem byteSum_append (xs ys : List Byte) : byteSum (xs ++ ys) = byteSum xs + byteSum ys := by
  rw [byteSum, List.foldl_append, foldl_add_start ys]
  rfl

theorem frameOf_readsBack (tag code : Byte) (body : List Byte) (short : body.length ≤ 1098) :
    let bs := (frameOf tag code body).drop 1
    (frameOf tag code body).head? = some 0xC3#8 ∧ bs.length = body.length + 5
      ∧ frameLength bs = body.length + 2 ∧ lengthOk (frameLength bs) = true ∧ frameGood bs = true
      ∧ frameTag bs = tag ∧ frameCode bs = code ∧ frameBody bs = body := by
  intro bs
  have form : bs = be2 (body.length + 2) ++ ([tag, code] ++ body ++ [checkByteOf (be2 (body.length + 2) ++ [tag, code] ++ body)]) := by
    simp [bs, frameOf]
  have length : frameLength bs = body.length + 2 := by rw [form]; exact nat2_be2 (by omega) _
  refine ⟨rfl, by rw [form]; simp; omega, length, by rw [length, lengthOk_iff]; omega, ?_, ?_, ?_, ?_⟩
  · have whole : bs = be2 (body.length + 2) ++ [tag, code] ++ body
        ++ [checkByteOf (be2 (body.length + 2) ++ [tag, code] ++ body)] := by rw [form]; simp
    rw [frameGood, whole, byteSum_append, checkByteOf]
    simp [byteSum]
  · rw [form]; rfl
  · rw [form]; rfl
  · rw [frameBody, length, slice, form]
    simp [be2]

/-- Settles O58, record by record. -/
theorem recordsReadBackAsWritten : Obligations.RecordsReadBackAsWritten :=
  ⟨fun _ inUse decoded slug chars basket priority length day minute version author count small =>
      decodeEntry_encodeEntry inUse decoded slug chars basket priority length day minute version author count small,
    by decide, decodeLabel_encodeLabel,
    fun bytes => ⟨(checkGood_iff _ _).2 rfl, fun _ good => (checkGood_iff _ _).1 good⟩, frameOf_readsBack⟩

end Sys2Proof.Machine
end

section
/-! Settlement of the statements on quantization, on the end of a mount and on the arithmetic of the data area. -/
namespace Sys2Proof.Machine

/-! ### Quantization (R115) -/

/-- What the first step of quantization lets through (R13, R115 item 1). -/
structure LabelRecord.Supported (r : LabelRecord) (rec : Recording) (mx : Nat) : Prop where
  recording : recordingOf r.recording = some rec
  sizeCode  : r.sizeCode ≤ 3
  sides     : r.sides = 1 ∨ r.sides = 2
  spt       : r.spt ≠ 0
  granule   : r.granule ≠ 0
  largest   : maxSpt rec r.sizeCode = some mx
  some      : 0 < mx

theorem supportedProfile_iff (r : LabelRecord) (rec : Recording) (mx : Nat) :
    supportedProfile r = some (rec, mx) ↔ r.Supported rec mx := by
  unfold supportedProfile
  constructor
  · intro h
    split at h
    · cases h
    · next rec' known =>
      split at h
      · cases h
      · next ok =>
        split at h
        · next n largest =>
          cases h
          simp only [not_or, Nat.not_lt] at ok
          obtain ⟨size, sides, spt, granule⟩ := ok
          exact ⟨known, size, by omega, spt, granule, largest, Nat.succ_pos n⟩
        · cases h
  · intro h
    obtain ⟨n, rfl⟩ : ∃ n, mx = n + 1 := ⟨mx - 1, by have := h.some; omega⟩
    rw [h.recording]
    simp only
    rw [if_neg (by simp [h.sides, h.spt, h.granule, h.sizeCode]), h.largest]

theorem recordingOf_recordingCode (rec : Recording) : recordingOf (recordingCode rec) = some rec := by cases rec <;> rfl

theorem interleaveKept_iff (i spt : Nat) :
    interleaveKept i spt = true ↔ i = 1 ∨ 1 < i ∧ i < spt ∧ Nat.gcd i spt = 1 := by
  simp [interleaveKept, and_assoc]

/-- Settles O59: the figures that the steps of R115 give are left by them. -/
theorem quantizedLabelsNeedNoNotes : Obligations.QuantizedLabelsNeedNoNotes := by
  intro r two q quantized p again
  obtain ⟨rec, mx, h, rfl⟩ : ∃ rec mx, r.Supported rec mx ∧ clampFigures rec mx r two = q := by
    unfold quantize at quantized
    split at quantized
    · next rec mx known => exact ⟨rec, mx, (supportedProfile_iff _ _ _).1 known, Option.some.inj quantized⟩
    · cases quantized
  have spt : p.spt = min r.spt mx := rfl
  have sides : p.sides = if r.sides = 2 ∧ two = false then 1 else r.sides := rfl
  have interleave : p.interleave = if interleaveKept r.interleave (min r.spt mx) then r.interleave else 1 := rfl
  have skew : p.skew = if r.skew < min r.spt mx then r.skew else r.skew % min r.spt mx := rfl
  have sectors : p.indexSectors = max 1 (min r.indexSectors (p.sides * p.spt)) := rfl
  have granule : p.granule = min r.granule 16 := rfl
  have some := h.some
  have hspt := h.spt
  have hgranule := h.granule
  have one : 1 ≤ p.spt := by omega
  have twoSides : p.sides = 1 ∨ p.sides = 2 := by rw [sides]; split <;> simp [h.sides]
  have oneSided : two = false → p.sides = 1 := by
    intro e
    rw [sides]
    split
    · rfl
    · next no => exact h.sides.resolve_right fun both => no ⟨both, e⟩
  have track : 1 ≤ p.sides * p.spt := Nat.mul_pos (by omega) one
  have skewed : p.skew < p.spt := by
    rw [skew, spt]
    split
    · assumption
    · exact Nat.mod_lt _ (by omega)
  have kept : interleaveKept p.interleave p.spt = true := by
    rw [interleave, spt]
    split
    · assumption
    · rfl
  have supported : again.Supported rec mx :=
    ⟨recordingOf_recordingCode rec, h.sizeCode, twoSides, by show p.spt ≠ 0; omega, by show p.granule ≠ 0; omega, h.largest,
      h.some⟩
  refine ⟨?_, one, ⟨mx, h.largest, by omega⟩, twoSides, oneSided, by omega, by omega, skewed, ?_, by omega, by omega⟩
  · have sptAgain : min p.spt mx = p.spt := by omega
    have sidesAgain : (if p.sides = 2 ∧ two = false then 1 else p.sides) = p.sides :=
      ite_eq_right_iff.2 fun ⟨both, e⟩ => absurd (oneSided e) (by omega)
    have sectorsAgain : max 1 (min p.indexSectors (p.sides * p.spt)) = p.indexSectors := by omega
    have granuleAgain : min p.granule 16 = p.granule := by omega
    rw [quantize, (supportedProfile_iff _ _ _).2 supported]
    simp only [clampFigures, again, sptAgain, sidesAgain, kept, if_true, if_pos skewed, sectorsAgain, granuleAgain]
    simp
    rfl
  · rcases (interleaveKept_iff _ _).1 kept with one | ⟨_, _, coprime⟩
    · exact .inl one
    · exact .inr coprime

/-! ### The end of a mount (R117, R118) -/

theorem firstPass_sound {p : Profile} {e : Entry} (story : (firstPass p e).isStory = true) :
    entrySound p (firstPass p e) = true := by
  unfold firstPass at story ⊢
  split at story
  · simp [Entry.isStory] at story
  · next keep => rw [if_neg keep]; simpa [story] using keep

/-- Whether the second pass finds a granule of an entry covered twice. -/
def coveredTwice (all : List Nat) (e : Entry) : Bool :=
  e.isStory && (extentGranules e.extents).any fun g => 2 ≤ all.count g

theorem mem_secondPass {es : List Entry} {e : Entry} (h : e ∈ secondPass es) (story : e.isStory = true) : e ∈ es := by
  obtain ⟨x, mem, rfl⟩ := List.mem_map.1 h
  split at story
  · simp [Entry.isStory] at story
  · next keep => rw [if_neg keep]; exact mem

/-- When no entry is DAMAGED the second pass has changed none, and no granule is covered twice. -/
theorem secondPass_clean {es : List Entry} (clean : ∀ e ∈ secondPass es, e.state ≠ .damaged) :
    secondPass es = es ∧ ∀ g, (coveredGranules es).count g ≤ 1 := by
  have none : ∀ e ∈ es, coveredTwice (coveredGranules es) e = false := by
    intro e mem
    by_contra twice
    refine clean _ (List.mem_map_of_mem mem) ?_
    exact congrArg Entry.state (if_pos (Bool.not_eq_false _ ▸ twice : coveredTwice (coveredGranules es) e = true))
  refine ⟨?_, fun g => ?_⟩
  · refine List.map_congr_left (fun e mem => if_neg ?_) |>.trans (List.map_id' es)
    simpa [coveredTwice] using none e mem
  · by_contra twice
    obtain ⟨e, mem, here⟩ := List.mem_flatMap.1 (List.count_pos_iff.1 (Nat.lt_of_lt_of_le Nat.two_pos (Nat.not_le.1 twice)))
    obtain ⟨mem, story⟩ := List.mem_filter.1 mem
    have := none e mem
    rw [coveredTwice, story, Bool.true_and, List.any_eq_false] at this
    exact this g here (decide_eq_true (Nat.not_le.1 twice))

theorem validate_length (p : Profile) (es : List Entry) : (validate p es).length = es.length := by
  simp [validate, secondPass]

/-- The volume at the end of a mount: the entries are those of the validated index (R118). -/
theorem Volume.mountEnd_entries (v : Volume) (p : Profile) : (v.mountEnd p).entries.toList = validate p v.entries.toList := by
  have entries : (v.mountEnd p).entries = Vector.ofFn fun h => (validate p v.entries.toList).getD h.val freeEntry := by
    unfold Volume.mountEnd
    simp only
    split <;> rfl
  rw [entries]
  have len : (validate p v.entries.toList).length = 256 := by rw [validate_length]; simp
  refine List.ext_getElem (by simp [len]) fun i _ lt => ?_
  simp [List.getElem?_eq_getElem lt]

/-- Settles O60. -/
theorem mountedIndexPartitionsTheGranules : Obligations.MountedIndexPartitionsTheGranules := by
  intro v p t stories held
  obtain ⟨checked, hchecked⟩ : ∃ checked, checked = validate p v.entries.toList := ⟨_, rfl⟩
  have storiesEq : stories = checked.filter Entry.isStory := by
    rw [hchecked, ← Volume.mountEnd_entries]
  have heldEq (g : Nat) : held g = (coveredGranules checked).count g := by
    simp only [held, storiesEq, coveredGranules, List.count_flatMap]
    rfl
  have reasons : t.hasReason = true ↔ t.wpReason = true ∨ t.inconsistent = true ∨ t.indexFault = true := by
    simp [Volume.hasReason, or_assoc]
  have sound : ∀ e ∈ stories, entrySound p e = true := by
    intro e mem
    rw [storiesEq, List.mem_filter, hchecked] at mem
    obtain ⟨x, _, rfl⟩ := List.mem_map.1 (mem_secondPass mem.1 mem.2)
    exact firstPass_sound mem.2
  have inconsistent : t.inconsistent = (v.inconsistent || checked.any fun e => e.state == .damaged) := by
    rw [hchecked]
    simp only [t, Volume.mountEnd]
    split <;> rfl
  have outcome : (t.hasReason = true → t.state = .readOnly ∧ t.free = [])
      ∧ (t.hasReason = false → t.state = .mounted ∧ t.free = freeGranules p checked) := by
    rw [hchecked]
    simp only [t, Volume.mountEnd]
    split
    · next reason => exact ⟨fun _ => ⟨rfl, rfl⟩, fun no => absurd (reason.symm.trans no) (by simp)⟩
    · next none => exact ⟨fun reason => absurd reason none, fun _ => ⟨rfl, rfl⟩⟩
  refine ⟨fun none => ⟨(outcome.2 none).1, fun g lt => ?_⟩, outcome.1, sound, reasons⟩
  have undamaged : ∀ e ∈ checked, e.state ≠ .damaged := by
    have := none
    simp only [Volume.hasReason, Bool.or_eq_false_iff, inconsistent, List.any_eq_false] at this
    exact fun e mem => by simpa using this.1.2.2 e mem
  have once : (coveredGranules checked).count g ≤ 1 := by
    have clean := secondPass_clean (es := v.entries.toList.map (firstPass p)) (fun e mem => undamaged e (hchecked ▸ mem))
    rw [hchecked, validate, clean.1]
    exact clean.2 g
  have free : g ∈ t.free ↔ g ∉ coveredGranules checked := by
    rw [(outcome.2 none).2, freeGranules]
    simp [lt]
  rw [free, heldEq]
  by_cases covered : g ∈ coveredGranules checked
  · have := List.count_pos_iff.2 covered
    exact .inr ⟨fun no => no covered, by omega⟩
  · exact .inl ⟨covered, List.count_eq_zero.2 covered⟩

/-! ### Blocks of a story and sectors of the data area (R15 to R17) -/

theorem extentGranules_length (es : List Extent) : (extentGranules es).length = extentTotal es := by
  simp [extentGranules, extentTotal, List.length_flatMap]

/-- The walk of R17 step 2 finds the granule in story order. -/
theorem granuleWalk_eq (es : List Extent) : ∀ sum i, granuleWalk sum (sum + i) es = (extentGranules es)[i]? := by
  induction es with
  | nil => intro sum i; simp [granuleWalk, extentGranules]
  | cons e rest ih =>
    intro sum i
    rw [granuleWalk, extentGranules, List.flatMap_cons]
    by_cases here : i < e.count
    · rw [if_pos (by omega), List.getElem?_append_left (by simpa using here)]
      simp [here]
    · rw [if_neg (by omega), List.getElem?_append_right (by simpa using here)]
      have step := ih (sum + e.count) (i - e.count)
      rw [show sum + e.count + (i - e.count) = sum + i by omega] at step
      simpa [extentGranules] using step

theorem Profile.locate_eq (p : Profile) (es : List Extent) (b : Nat) :
    p.locate es b = (extentGranules es)[b / p.granule]?.map fun a => p.place (a * p.granule + b % p.granule) := by
  have walk := granuleWalk_eq es 0 (b / p.granule)
  rw [Nat.zero_add] at walk
  rw [Profile.locate, walk]
  cases (extentGranules es)[b / p.granule]? <;> rfl

/-- The granules of a story lie in the data area when its extents do (R15). -/
theorem mem_extentGranules_lt {es : List Extent} {n a : Nat} (inside : ∀ x ∈ es, x.first + x.count ≤ n)
    (mem : a ∈ extentGranules es) : a < n := by
  obtain ⟨x, hx, mem⟩ := List.mem_flatMap.1 mem
  obtain ⟨i, lt, rfl⟩ := List.mem_map.1 mem
  have := inside x hx
  have := List.mem_range.1 lt
  omega

/-- The place of a linear sector tells it (R17 step 4). -/
theorem Profile.linear_place (p : Profile) (a : Nat) :
    p.linear (p.place a).cylinder (p.place a).head (p.place a).sectorId = a := by
  have outer := Nat.div_add_mod a (p.sides * p.spt)
  have inner := Nat.div_add_mod (a % (p.sides * p.spt)) p.spt
  simp only [Profile.linear, Profile.place, Nat.add_sub_cancel_left, Nat.add_sub_cancel]
  rw [Nat.mul_comm (a / _), Nat.mul_comm (_ / p.spt), Nat.add_assoc, inner, outer]

/-- A sector of the data area stands on one of its tracks (R15, R17). -/
theorem Profile.place_inside {p : Profile} {a : Nat} (spt : 0 < p.spt) (sides : 0 < p.sides) (inside : a < 75 * (p.sides * p.spt)) :
    2 ≤ (p.place a).cylinder ∧ (p.place a).cylinder ≤ 76 ∧ (p.place a).head < p.sides ∧ 1 ≤ (p.place a).sectorId
      ∧ (p.place a).sectorId ≤ p.spt := by
  have track : 0 < p.sides * p.spt := Nat.mul_pos sides spt
  have cylinder : a / (p.sides * p.spt) < 75 := (Nat.div_lt_iff_lt_mul track).2 inside
  have head : a % (p.sides * p.spt) / p.spt < p.sides := (Nat.div_lt_iff_lt_mul spt).2 (Nat.mod_lt _ track)
  have sector := Nat.mod_lt (a % (p.sides * p.spt)) spt
  exact ⟨Nat.le_add_right 2 _, Nat.add_le_add_left (Nat.le_of_lt_succ cylinder) 2, head, Nat.succ_pos _, sector⟩

/-- Slots of a track (R18): with no common factor distinct sectors stand in distinct slots. -/
theorem slotOf_injective {spt interleave skew t j k : Nat} (coprime : Nat.gcd interleave spt = 1) (hj : j < spt) (hk : k < spt)
    (same : slotOf spt interleave skew j t = slotOf spt interleave skew k t) : j = k := by
  have cong : j * interleave ≡ k * interleave [MOD spt] := Nat.ModEq.add_right_cancel' (t * skew) same
  have := Nat.ModEq.cancel_right_of_coprime (by rwa [Nat.gcd_comm]) cong
  rwa [Nat.ModEq, Nat.mod_eq_of_lt hj, Nat.mod_eq_of_lt hk] at this

/-- Settles O21. -/
theorem blocksAndSlotsCoverTheDataArea : Obligations.BlocksAndSlotsCoverTheDataArea := by
  constructor
  · intro p e granule spt twoSides extents
    have sides : 0 < p.sides := by omega
    refine ⟨fun n low => ?_, fun n high => ?_, fun a c same => ?_⟩
    · have lt : n / p.granule < (extentGranules e.extents).length := by
        rw [extentGranules_length]; exact (Nat.div_lt_iff_lt_mul granule).2 low
      obtain ⟨a, ha⟩ : ∃ a, (extentGranules e.extents)[n / p.granule]? = some a := ⟨_, List.getElem?_eq_getElem lt⟩
      have inGranules : a < p.granules := mem_extentGranules_lt extents (List.mem_of_getElem? ha)
      have off := Nat.mod_lt n granule
      have inArea : a * p.granule + n % p.granule < 75 * (p.sides * p.spt) := by
        have whole : p.granules * p.granule ≤ 75 * p.sides * p.spt := Nat.div_mul_le_self _ _
        have : (a + 1) * p.granule ≤ p.granules * p.granule := Nat.mul_le_mul_right _ inGranules
        have assoc : 75 * p.sides * p.spt = 75 * (p.sides * p.spt) := Nat.mul_assoc _ _ _
        rw [Nat.add_mul] at this
        omega
      obtain ⟨low, high, head, first, last⟩ := Profile.place_inside spt sides inArea
      refine ⟨_, by rw [Profile.locate_eq, ha]; rfl, low, high, head, first, last, ?_⟩
      rw [ha, Profile.granuleOf, Profile.linear_place, Nat.mul_comm, Nat.mul_add_div granule,
        Nat.div_eq_of_lt off, Nat.add_zero]
    · have out : (extentGranules e.extents).length ≤ n / p.granule := by
        rw [extentGranules_length]; exact (Nat.le_div_iff_mul_le granule).2 high
      rw [Profile.locate_eq, List.getElem?_eq_none out]
      rfl
    · rw [← p.linear_place a, ← p.linear_place c, same]
  · intro spt interleave skew t some coprime
    have slot (k : Nat) : slotOf spt interleave skew k t < spt := Nat.mod_lt _ some
    have injective (j k : Nat) (hj : j < spt) (hk : k < spt) := slotOf_injective (skew := skew) (t := t) coprime hj hk
    refine ⟨slot, injective, fun pos lt => ?_⟩
    have onto : Function.Surjective fun k : Fin spt => (⟨slotOf spt interleave skew k.val t, slot k.val⟩ : Fin spt) :=
      Finite.surjective_of_injective fun j k same => Fin.ext (injective j.val k.val j.isLt k.isLt (Fin.mk.inj same))
    obtain ⟨k, hk⟩ := onto ⟨pos, lt⟩
    have here : slotOf spt interleave skew k.val t = pos := Fin.mk.inj hk
    refine ⟨k.val, List.find?_range_eq_some.2 ⟨by simp [here], List.mem_range.2 k.isLt, fun j less => ?_⟩, k.isLt, here⟩
    have ne : slotOf spt interleave skew j t ≠ pos := fun same =>
      Nat.ne_of_lt less (injective j k.val (less.trans k.isLt) k.isLt (same.trans here.symm))
    simpa using ne

end Sys2Proof.Machine
end

section
/-! Settlement of the statements on the buffer memory and on the frame table (Chapter 5). -/
namespace Sys2Proof.Machine

/-! ### Which commands store (R100 to R103) -/

/-- The commands that may change the buffer memory. -/
def Instr.mayStore : Instr → Bool
  | .dataFieldRead _ | .dataFieldWritten | .powerOn _ | .externalResetAsserted _ | .externalResetReleased _ | .drainEnd _ => true
  | _ => false

theorem State.releaseReports_mem (s : State) : (s.eachDrive fun s d => s.releaseReport d).mem = s.mem := by simp

/-- A request leaves the buffer memory: what its owner does with it stores nothing. -/
theorem onRequest_next {s t : State} {l : Line} {b : BufId} {code : Byte} {f : Held → State → State}
    (hf : ∀ h t, (f h t).mem = t.mem) (run : (Host.Outcome.next (s.onRequest l b code f) : Out) = .next t) :
    t.mem = s.mem := by
  cases run
  exact State.onRequest_mem hf s l b code

theorem exec_mem {i : Instr} (quiet : Instr.mayStore i = false) {s t : State} (run : exec i s = .next t) : t.mem = s.mem := by
  cases i
  case dataFieldRead | dataFieldWritten | powerOn | externalResetAsserted | externalResetReleased | drainEnd => cases quiet
  case volumeStatus | release | breakClaim | driveStatus | clearDrive | lineStatus | setClock | watchClear | statistics | configure =>
    refine onRequest_next (fun h t => ?_) run
    (try dsimp only)
    (repeat' split) <;> simp
  case readClock | watchStatus | restart => exact onRequest_next (fun h t => by simp) run
  case prepareVolume | lookup | listStories | createStory =>
    refine onRequest_next (fun h t => State.gated_mem (fun d t => ?_) ..) run
    (try dsimp only)
    (repeat' split) <;> simp
  case eject | openStory =>
    refine onRequest_next (fun h t => ?_) run
    split
    · simp
    · exact State.gated_mem (fun d t => by simp) ..
  case readBlock =>
    refine onRequest_next (fun h t => State.onStory_mem (fun d p n e t => ?_) ..) run
    (repeat' split) <;> simp
  case writeBlock | fileStory =>
    refine onRequest_next (fun h t => State.onStory_mem (fun d p n e t => ?_) ..) run
    split
    · simp
    · exact State.ifHolder_mem (fun t => by (repeat' split) <;> simp) ..
  case moveStory | purge =>
    refine onRequest_next (fun h t => State.onStory_mem (fun d p n e t => ?_) ..) run
    split
    · simp
    · exact State.unlessClaimed_mem (fun t => by (repeat' split) <;> simp) ..
  case spike | revive =>
    refine onRequest_next (fun h t => State.onStory_mem (fun d p n e t => ?_) ..) run
    split
    · first | exact State.unlessClaimed_mem (fun t => by simp) ..
    · simp
    · simp
  case watchSet =>
    refine onRequest_next (fun h t => ?_) run
    (repeat' split) <;> simp
  case sweep | rawRead => exact onRequest_next (fun h t => State.onMaintenance_mem (fun d p t => by simp) ..) run
  all_goals
    cases run
    (try dsimp only)
    (repeat' split) <;> simp

/-! ### Where the sectors of frames stand (R92, log 61) -/

/-- The address of a byte of a frame's sector, as digits: the region, the sector's number within it, and the byte. -/
theorem frameAddr_eq (d : DriveId) (i spt sb k x : Nat) :
    frameAddr d i spt sb k + x = d.val * 32768 + (x + sb * ((k - 1) + spt * i)) := by
  simp only [frameAddr, regionBytes]
  ring

/-- The bytes of the frames that a region holds lie within the region. -/
theorem frame_within {p : Profile} {i k x : Nat} (hi : i < frameCount p) (hk : 1 ≤ k) (hkp : k ≤ p.spt) (hx : x < p.bytes) :
    x + p.bytes * ((k - 1) + p.spt * i) < 32768 := by
  have room : (i + 1) * (p.spt * p.bytes) ≤ 32768 :=
    (Nat.mul_le_mul_right _ (Nat.lt_of_lt_of_le hi (Nat.min_le_right ..))).trans (Nat.div_mul_le_self ..)
  have sector : (k - 1) + p.spt * i + 1 ≤ p.spt * (i + 1) := by rw [Nat.mul_succ]; omega
  calc x + p.bytes * ((k - 1) + p.spt * i) < p.bytes * ((k - 1) + p.spt * i + 1) := by rw [Nat.mul_succ]; omega
    _ ≤ p.bytes * (p.spt * (i + 1)) := Nat.mul_le_mul_left _ sector
    _ = (i + 1) * (p.spt * p.bytes) := by ring
    _ ≤ 32768 := room

/-- A number below `m` and a multiple of `m` are found from their sum. -/
theorem digits_unique {m a b x y : Nat} (hx : x < m) (hy : y < m) (same : x + m * a = y + m * b) : x = y ∧ a = b := by
  have low : x = y := by simpa [Nat.mod_eq_of_lt, hx, hy] using congrArg (· % m) same
  have pos : 0 < m := by omega
  exact ⟨low, Nat.eq_of_mul_eq_mul_left pos (by omega)⟩

/-- Distinct sectors of the frames of the regions have no address in common. -/
theorem frameAddr_injective {p : Profile} {d e : DriveId} {i j k m x y : Nat} (hi : i < frameCount p) (hj : j < frameCount p)
    (hk : 1 ≤ k) (hkp : k ≤ p.spt) (hm : 1 ≤ m) (hmp : m ≤ p.spt) (hx : x < p.bytes) (hy : y < p.bytes)
    (same : frameAddr d i p.spt p.bytes k + x = frameAddr e j p.spt p.bytes m + y) : (d, i, k) = (e, j, m) := by
  have inD := frame_within hi hk hkp hx
  have inE := frame_within hj hm hmp hy
  rw [frameAddr_eq, frameAddr_eq] at same
  obtain ⟨offset, region⟩ := digits_unique (a := d.val) (b := e.val) inD inE (by omega)
  obtain ⟨-, sector⟩ := digits_unique hx hy offset
  obtain ⟨id, frame⟩ := digits_unique (m := p.spt) (by omega) (by omega) sector
  rw [Fin.ext region, frame, show k = m by omega]

/-! ### Data fields that store nothing (R12) -/

/-- The operations whose data fields go elsewhere than into a frame. -/
def ReqKind.readsElsewhere : ReqKind → Bool
  | .labelRead | .indexLoad | .formatTrack | .directRead _ | .rawRead _ | .sweep _ => true
  | _ => false

theorem State.dataResult_mem {s : State} {v : Service} (elsewhere : v.req.kind.readsElsewhere = true) (k : Nat)
    (field : Option DataField) : (s.dataResult v k field).mem = s.mem := by
  unfold State.dataResult
  dsimp only
  split
  case h_5 i f kind => simp [kind, ReqKind.readsElsewhere] at elsewhere
  case h_6 f kind | h_7 f kind => simp [State.putFill, kind]
  case h_15 | h_16 => cases kind : v.req.kind <;> simp_all [ReqKind.readsElsewhere]
  all_goals simp

/-- The sector awaited, of the operation in service. -/
theorem State.Serving.awaited {s : State} {d : DriveId} {r : Request} {o : OpRecord} (v : s.Serving d r o) :
    s.awaited = o.awaiting.bind fun k => if s.searching r o then some (⟨d, r, o⟩, k) else none := by
  simp only [State.awaited, v.service]
  split <;> simp [*]

theorem State.dataField_mem {s : State} {d : DriveId} {r : Request} {o : OpRecord} (v : s.Serving d r o)
    (elsewhere : r.kind.readsElsewhere = true) (f : DataField) : (s.dataField f).mem = s.mem := by
  unfold State.dataField
  split
  next x _ wanted =>
    rw [v.awaited] at wanted
    obtain ⟨k, -, found⟩ := Option.bind_eq_some_iff.mp wanted
    obtain rfl := Option.some.inj (Option.ite_none_right_eq_some.mp found).2.symm
    exact State.dataResult_mem elsewhere ..
  next => rfl

/-- Settles O25: storing at a sector by the laws of the memory, the addresses as digits in mixed radix, and one case per
command for what leaves the memory. -/
theorem frameDataReadsBack : Obligations.FrameDataReadsBack := by
  unfold Obligations.FrameDataReadsBack
  refine ⟨?_, ?_, ?_, ?_⟩
  · intro s d i p k data canonical len
    obtain ⟨stored, outside⟩ := State.putFrame_stored canonical len d i k
    exact ⟨stored, Memory.writeRun_wf data _ _ canonical, outside, rfl⟩
  · intro p d e i j k m x y _ hi hj hk hkp hm hmp hx hy distinct
    have inside := frame_within hi hk hkp hx
    refine ⟨fun same => distinct (frameAddr_injective hi hj hk hkp hm hmp hx hy same), ?_, ?_⟩ <;>
      rw [frameAddr_eq] <;> omega
  · intro i s t run field written on asserted released drained
    refine exec_mem ?_ run
    cases i
    case dataFieldRead f => exact absurd rfl (field f)
    case dataFieldWritten => exact absurd rfl written
    case powerOn x => exact absurd rfl (on x)
    case externalResetAsserted x => exact absurd rfl (asserted x)
    case externalResetReleased x => exact absurd rfl (released x)
    case drainEnd x => exact absurd rfl (drained x)
    all_goals rfl
  · rintro f s t d r o serving kind ⟨⟩
    refine State.dataField_mem serving ?_ f
    obtain kind | kind | kind | ⟨b, kind | kind | kind⟩ := kind <;> simp [kind, ReqKind.readsElsewhere]

/-! ### Fill numbers (R94) -/

/-- The fill number of a VALID frame. -/
def Frame.number : Frame → Option Nat
  | .valid _ _ n _ => some n
  | _ => none

/-- The fill numbers of a region's frames. -/
def fillNumbers (fs : List Frame) : List Nat := fs.filterMap Frame.number

/-- A list of numbers is 1, 2, … each once. -/
def Ranked (ns : List Nat) : Prop := ns.Perm ((List.range ns.length).map (· + 1))

theorem ranked_iff {ns : List Nat} : Ranked ns ↔ ns.Nodup ∧ ∀ n ∈ ns, 1 ≤ n ∧ n ≤ ns.length := by
  have fresh : ((List.range ns.length).map (· + 1)).Nodup := List.nodup_range.map (add_left_injective 1)
  refine ⟨fun ranked => ⟨ranked.nodup_iff.mpr fresh, fun n held => ?_⟩, fun ⟨nodup, bounds⟩ => ?_⟩
  · obtain ⟨m, below, rfl⟩ := List.mem_map.mp (ranked.mem_iff.mp held)
    have := List.mem_range.mp below
    omega
  · refine (nodup.subperm fun n held => List.mem_map.mpr ⟨n - 1, ?_⟩).perm_of_length_le (by simp)
    have := bounds n held
    exact ⟨List.mem_range.mpr (by omega), by omega⟩

/-- A number leaves and those above it fall by one. -/
theorem Ranked.leave {a b : List Nat} {n : Nat} (ranked : Ranked (a ++ n :: b)) :
    Ranked ((a ++ b).map fun m => if n < m then m - 1 else m) := by
  obtain ⟨nodup, bounds⟩ := ranked_iff.mp ranked
  obtain ⟨gone, rest⟩ := List.nodup_cons.mp (List.perm_middle.nodup_iff.mp nodup)
  have bound (m : Nat) (held : m ∈ a ++ b) : 1 ≤ m ∧ m ≤ a.length + b.length + 1 ∧ m ≠ n := by
    have := bounds m (List.perm_middle.mem_iff.mpr (List.mem_cons_of_mem _ held))
    exact ⟨this.1, by simpa [Nat.add_assoc] using this.2, fun same => gone (same ▸ held)⟩
  have top := bounds n (by simp)
  refine ranked_iff.mpr ⟨rest.map_on fun x hx y hy same => ?_, fun k held => ?_⟩
  · have := bound x hx
    have := bound y hy
    split at same <;> split at same <;> omega
  · obtain ⟨m, there, rfl⟩ := List.mem_map.mp held
    have := bound m there
    simp only [List.length_append, List.length_cons, List.length_map] at top ⊢
    split <;> omega

/-- The next number joins. -/
theorem Ranked.join {a b : List Nat} (ranked : Ranked (a ++ b)) : Ranked (a ++ (a ++ b).length.succ :: b) := by
  obtain ⟨nodup, bounds⟩ := ranked_iff.mp ranked
  refine ranked_iff.mpr ⟨List.perm_middle.nodup_iff.mpr (List.nodup_cons.mpr ⟨fun held => ?_, nodup⟩), fun n held => ?_⟩
  · have := bounds _ held
    omega
  · simp only [List.length_append, List.length_cons] at bounds ⊢
    obtain rfl | there := List.mem_cons.mp (List.perm_middle.mem_iff.mp held)
    · simp only [List.length_append]
      omega
    · have := bounds n there
      omega

theorem Frame.number_of_not_valid {f : Frame} (h : f.isValid = false) : f.number = none := by
  cases f <;> simp_all [Frame.isValid, Frame.number]

/-- One frame's part in the fill numbers. -/
theorem fillNumbers_split (xs ys : List Frame) (f : Frame) :
    fillNumbers (xs ++ f :: ys) = fillNumbers xs ++ f.number.toList ++ fillNumbers ys := by
  cases number : f.number <;> simp [fillNumbers, number]

/-- The frames on both sides of frame `i`. -/
theorem Region.frames_around {g : Region} {i : Nat} (lt : i < g.frames.length) :
    ∃ xs ys, xs.length = i ∧ g.frames = xs ++ g.frame i :: ys := by
  refine ⟨g.frames.take i, g.frames.drop (i + 1), by simp; omega, ?_⟩
  rw [Region.frame, List.getD_eq_getElem _ _ lt, List.getElem_cons_drop, List.take_append_drop]

theorem fillNumbers_lowerAbove (n : Nat) (fs : List Frame) :
    fillNumbers (lowerAbove n fs) = (fillNumbers fs).map fun m => if n < m then m - 1 else m := by
  simp only [fillNumbers, lowerAbove, List.filterMap_map, List.map_filterMap]
  refine List.filterMap_congr fun f _ => ?_
  cases f with
  | valid c h m conds =>
    by_cases above : n < m <;> simp [Frame.number, above]
  | _ => rfl

theorem Region.validCount_eq (g : Region) : g.validCount = (fillNumbers g.frames).length := by
  rw [Region.validCount, fillNumbers, List.length_filterMap_eq_countP, List.countP_eq_length_filter]
  congr 2
  funext f
  cases f <;> rfl

/-- Frame `i` changes without a fill number. -/
theorem Region.setFrame_ranked {g : Region} {i : Nat} (ranked : Ranked (fillNumbers g.frames)) (lt : i < g.frames.length)
    {f : Frame} (gone : f.isValid = false) : Ranked (fillNumbers (g.setFrame i f).frames) := by
  obtain ⟨xs, ys, rfl, frames⟩ := g.frames_around lt
  rw [frames, fillNumbers_split] at ranked
  unfold Region.setFrame
  split
  next c h n conds was =>
    have lowered : (lowerAbove n g.frames).set xs.length f = lowerAbove n xs ++ f :: lowerAbove n ys := by
      rw [frames, was]
      simp [lowerAbove]
    rw [lowered, fillNumbers_split, Frame.number_of_not_valid gone, fillNumbers_lowerAbove, fillNumbers_lowerAbove]
    simp only [was, Frame.number, Option.toList, List.append_assoc, List.singleton_append] at ranked
    simpa using ranked.leave
  next other =>
    have was : (g.frame xs.length).number = none := by
      cases at_i : g.frame xs.length
      case valid c h n conds => exact absurd at_i (other c h n conds)
      all_goals rfl
    have kept : g.frames.set xs.length f = xs ++ f :: ys := by
      rw [frames]
      simp
    rw [kept, fillNumbers_split, Frame.number_of_not_valid gone]
    simpa [was] using ranked

/-- A FILLING frame becomes VALID with the next fill number. -/
theorem Region.filled_ranked {g : Region} {i : Nat} (ranked : Ranked (fillNumbers g.frames)) (lt : i < g.frames.length)
    (opened : g.state = .opened) (filling : (g.frame i).isFilling = true) (c h : Nat) (conds : List SectorCond) :
    Ranked (fillNumbers (g.filled i c h conds).frames)
      ∧ (g.filled i c h conds).frame i = .valid c h ((fillNumbers g.frames).length + 1) conds := by
  have becomes : g.filled i c h conds
      = { g with frames := g.frames.set i (.valid c h ((fillNumbers g.frames).length + 1) conds) } := by
    rw [Region.filled, opened, Region.validCount_eq]
  refine ⟨?_, by simp [becomes, Region.frame, lt]⟩
  obtain ⟨xs, ys, rfl, frames⟩ := g.frames_around lt
  have was : (g.frame xs.length).number = none := by cases at_i : g.frame xs.length <;> simp_all [Frame.isFilling, Frame.number]
  have numbers : fillNumbers g.frames = fillNumbers xs ++ fillNumbers ys := by
    rw [frames, fillNumbers_split, was]
    simp
  have kept (f : Frame) : g.frames.set xs.length f = xs ++ f :: ys := by
    rw [frames]
    simp
  rw [numbers] at ranked
  rw [becomes, kept, fillNumbers_split, numbers]
  simpa [Frame.number] using ranked.join

/-- A frame keeps its fill number when a write marks a sector good. -/
theorem markGood_ranked {g : Region} {i : Nat} (ranked : Ranked (fillNumbers g.frames)) (lt : i < g.frames.length) (k : Nat) :
    Ranked (fillNumbers (g.frames.set i ((g.frame i).markGood k))) := by
  obtain ⟨xs, ys, rfl, frames⟩ := g.frames_around lt
  have kept : g.frames.set xs.length ((g.frame xs.length).markGood k) = xs ++ (g.frame xs.length).markGood k :: ys := by
    rw [frames]
    simp
  have same : ((g.frame xs.length).markGood k).number = (g.frame xs.length).number := by cases g.frame xs.length <;> rfl
  rwa [kept, fillNumbers_split, same, ← fillNumbers_split, ← frames]

/-! ### The frame an allocation takes (R98) -/

theorem frameWhere_none_iff {p : Frame → Bool} {fs : List Frame} : frameWhere p fs = none ↔ ∀ f ∈ fs, p f = false := by
  rw [frameWhere_eq_findIdx?]
  simp

/-- The first frame that a predicate holds of. -/
theorem frameWhere_spec {p : Frame → Bool} {g : Region} {i : Nat} (found : frameWhere p g.frames = some i) :
    i < g.frames.length ∧ p (g.frame i) = true ∧ ∀ j, j < i → p (g.frame j) = false := by
  rw [frameWhere_eq_findIdx?, List.findIdx?_eq_some_iff_getElem] at found
  obtain ⟨lt, here, low⟩ := found
  refine ⟨lt, by rwa [Region.frame, List.getD_eq_getElem _ _ lt], fun j less => ?_⟩
  rw [Region.frame, List.getD_eq_getElem _ _ (less.trans lt)]
  simpa using low j less

theorem Frame.isEmpty_iff (f : Frame) : f.isEmpty = true ↔ f = .empty := by cases f <;> simp [Frame.isEmpty]

theorem Frame.isOldest_iff (f : Frame) : f.isOldest = true ↔ f.number = some 1 := by
  cases f <;> simp [Frame.isOldest, Frame.number]

theorem Region.pick_none_iff {g : Region} (ranked : Ranked (fillNumbers g.frames)) :
    g.pick = none ↔ ∀ f ∈ g.frames, f.isFilling = true := by
  have nothing : g.pick = none ↔ (∀ f ∈ g.frames, f.isEmpty = false) ∧ ∀ f ∈ g.frames, f.isOldest = false := by
    rw [← frameWhere_none_iff, ← frameWhere_none_iff, Region.pick]
    split <;> simp_all
  rw [nothing]
  refine ⟨fun ⟨full, young⟩ f held => ?_, fun filling => ⟨fun f held => ?_, fun f held => ?_⟩⟩
  · cases f with
    | filling => rfl
    | empty => exact absurd (full _ held) (by simp [Frame.isEmpty])
    | valid c h n conds =>
      have numbered : n ∈ fillNumbers g.frames := List.mem_filterMap.mpr ⟨_, held, rfl⟩
      have first : 1 ∈ fillNumbers g.frames :=
        ranked.mem_iff.mpr (List.mem_map.mpr ⟨0, List.mem_range.mpr (List.length_pos_of_mem numbered), rfl⟩)
      obtain ⟨oldest, there, one⟩ := List.mem_filterMap.mp first
      exact absurd ((Frame.isOldest_iff _).mpr one) (by simp [young oldest there])
  all_goals
    have := filling f held
    cases f <;> simp_all [Frame.isFilling, Frame.isEmpty, Frame.isOldest]

/-- Settles O24: lists of numbers that are 1, 2, … each once, one lemma for each change of a frame. -/
theorem allocationKeepsFillNumbersRanked : Obligations.AllocationKeepsFillNumbersRanked := by
  unfold Obligations.AllocationKeepsFillNumbersRanked
  refine ⟨fun g ranked => ⟨fun i taken => ?_, Region.pick_none_iff ranked⟩, fun g i ranked lt => ⟨fun f gone => ?_, ?_, ?_⟩⟩
  · unfold Region.pick at taken
    split at taken
    next j found =>
      obtain rfl := Option.some.inj taken
      obtain ⟨lt, here, low⟩ := frameWhere_spec found
      exact .inl ⟨(Frame.isEmpty_iff _).mp here, lt, fun j less at_j => by simpa [at_j, Frame.isEmpty] using low j less⟩
    next full =>
      obtain ⟨-, here, -⟩ := frameWhere_spec taken
      refine .inr ⟨fun f held empty => by simpa [empty, Frame.isEmpty] using frameWhere_none_iff.mp full f held, ?_⟩
      cases at_i : g.frame i <;> simp_all [Frame.isOldest]
  · exact Region.setFrame_ranked ranked lt gone
  · exact fun c h conds opened filling => Region.filled_ranked ranked lt opened filling c h conds
  · exact fun k => markGood_ranked ranked lt k

end Sys2Proof.Machine
end

section
/-! Settlement of the statements on removal, drive faults and CLEAR DRIVE (Chapter 2). -/
namespace Sys2Proof.Machine

/-! ### What survives while requests are answered (R88) -/

/-- A fact about the lines that answers of the reply `r` leave. -/
structure Lasting (r : Reply) (P : State → Prop) : Prop where
  lines  : ∀ {s t : State}, P s → t.lines = s.lines → P t
  answer : ∀ {s : State} (m : Line) (c : BufId), P s → P (s.answer m c r)

/-- A request is still to be answered or has its reply. -/
def State.Settling (s : State) (l : Line) (b : BufId) (h : Held) (r : Reply) : Prop := s.Open l b h ∨ s.hasReply l b r

theorem State.buffer_of_lines {s t : State} (lines : t.lines = s.lines) (l : Line) (b : BufId) : t.buffer l b = s.buffer l b := by
  rw [State.buffer, State.line, lines]
  rfl

theorem Lasting.hasReply (q : Reply) (l : Line) (b : BufId) (r : Reply) : Lasting q fun s => s.hasReply l b r where
  lines := fun ⟨h, held, rest⟩ e => ⟨h, (State.buffer_of_lines e l b).trans held, rest⟩
  answer m c h := h.answer m c q

theorem Lasting.settling (l : Line) (b : BufId) (h : Held) (r : Reply) : Lasting r fun s => s.Settling l b h r where
  lines x e := x.imp (fun ⟨held, rest⟩ => ⟨(State.buffer_of_lines e l b).trans held, rest⟩)
    fun has => (Lasting.hasReply r l b r).lines has e
  answer m c := fun
    | .inl waits => (waits.answer m c r).imp id fun ⟨_, _, has⟩ => has
    | .inr has => .inr (has.answer m c r)

/-- The answer that a request waits for. -/
theorem State.Settling.answer {s : State} {l : Line} {b : BufId} {h : Held} {r : Reply} (x : s.Settling l b h r) :
    (s.answer l b r).hasReply l b r := by
  obtain ⟨held, stage, orphan, -⟩ | has := x
  · exact State.hasReply_answer r held stage orphan
  · exact has.answer l b r

namespace Lasting
variable {P : State → Prop} {c : Cause} (L : Lasting (.failed c) P) {s : State}
include L

theorem failReaders (rs : List Reader) (h : P s) : P (s.failReaders rs c) :=
  State.foldl_keeps P _ (fun _ rd h => L.answer rd.line rd.buf h) rs s h

theorem fillFailed (d : DriveId) (i : Nat) (h : P s) : P (s.fillFailed d i c) := L.failReaders _ (L.lines h rfl)

theorem emptyTrack (d : DriveId) (x y : Nat) (h : P s) : P (s.emptyTrack d x y) := by
  unfold State.emptyTrack
  split
  · exact L.lines h rfl
  · exact h

theorem dropHold (d : DriveId) (r : Request) (h : P s) : P (s.dropHold d r) := by
  unfold State.dropHold
  split
  · exact L.lines h rfl
  · exact h

theorem failRequest (d : DriveId) (r : Request) (h : P s) : P (s.failRequest d c r) := by
  unfold State.failRequest
  split
  · exact h
  next l _ =>
    split
    · exact L.fillFailed d _ h
    · next b _ _ =>
      have answered := L.answer l b (L.lines (t := (s.dropHold d r).dropWaiter d l b) (L.dropHold d r h) rfl)
      dsimp only
      split
      · exact L.emptyTrack d _ _ answered
      · exact answered
    · exact L.answer _ _ (L.lines h rfl)
    · exact L.answer _ _ h
    · exact L.answer _ _ h
    · exact h

theorem failPending (p : Option PendingVolume) (h : P s) : P (s.failPending c p) := by
  unfold State.failPending
  split
  · exact L.answer _ _ h
  · exact L.answer _ _ h
  · exact h

theorem restoreArea (d : DriveId) (r : Request) (h : P s) : P (s.restoreArea d r) := by
  unfold State.restoreArea
  split
  · exact L.lines h rfl
  · exact L.lines h rfl
  · exact h

end Lasting

theorem Lasting.prepareFailed {P : State → Prop} {c : Cause} (L : Lasting (.failed c) P) {s : State} (d : DriveId) (h : P s) :
    P (s.prepareFailed d c) := L.failPending _ (L.lines h rfl)

theorem Lasting.dropVolumeRequest {P : State → Prop} (L : Lasting (.failed .driveFault) P) {s : State} (d : DriveId) (r : Request)
    (h : P s) : P (s.dropVolumeRequest d r) := by
  unfold State.dropVolumeRequest
  split
  · dsimp only
    split
    · exact L.emptyTrack d _ _ (L.lines h rfl)
    · exact L.lines h rfl
  · dsimp only
    split
    · exact L.emptyTrack d _ _ (L.prepareFailed d h)
    · exact L.prepareFailed d h
  · exact L.emptyTrack d _ _ (L.prepareFailed d h)
  · exact h

theorem Lasting.emptyRegion {P : State → Prop} (L : Lasting (.failed .removed) P) {s : State} (d : DriveId) (h : P s) :
    P (s.emptyRegion d) := L.failReaders _ (L.lines h rfl)

theorem Lasting.loseWaiter {P : State → Prop} (L : Lasting (.failed .removed) P) {s : State} (w : Waiter) (h : P s) :
    P (s.loseWaiter w) := by
  unfold State.loseWaiter
  split
  · exact h
  · exact L.answer _ _ h

theorem Lasting.loseVolume {P : State → Prop} (L : Lasting (.failed .removed) P) {s : State} (d : DriveId) (h : P s) :
    P (s.loseVolume d) :=
  L.failPending _ (State.foldl_keeps P _ (fun _ w h => L.loseWaiter w h) _ _ (L.lines h rfl))

/-! ### The requests of a queue, answered in turn (R88) -/

/-- In a run of operations that each leave `P`, one that makes `Q` of it, which all leave too, makes `Q`. -/
theorem State.foldl_reaches {α : Type} {f : State → α → State} {P Q : State → Prop} (keepsP : ∀ s a, P s → P (f s a))
    (keepsQ : ∀ s a, Q s → Q (f s a)) {xs : List α} {a : α} (here : a ∈ xs) (makes : ∀ s, P s → Q (f s a)) {s : State}
    (start : P s) : Q (xs.foldl f s) := by
  obtain ⟨before, after, rfl⟩ := List.append_of_mem here
  rw [List.foldl_append, List.foldl_cons]
  exact State.foldl_keeps Q f keepsQ _ _ (makes _ (State.foldl_keeps P f keepsP _ _ start))

/-- The readers of a fill that fails are answered. -/
theorem State.failReaders_answers {s : State} {l : Line} {b : BufId} {h : Held} {c : Cause} {rs : List Reader} {rd : Reader}
    (here : rd ∈ rs) (line : rd.line = l) (buf : rd.buf = b) (start : s.Settling l b h (.failed c)) :
    (s.failReaders rs c).hasReply l b (.failed c) := by
  subst line buf
  have L := Lasting.settling rd.line rd.buf h (.failed c)
  have K := Lasting.hasReply (.failed c) rd.line rd.buf (.failed c)
  exact State.foldl_reaches (P := fun s => s.Settling rd.line rd.buf h (.failed c))
    (Q := fun s => s.hasReply rd.line rd.buf (.failed c)) (fun _ x p => L.answer x.line x.buf p) (fun _ x p => K.answer x.line x.buf p) here
    (fun _ p => p.answer) start

/-- A desk's request that leaves the queue is answered. -/
theorem State.failRequest_answers {s : State} {d : DriveId} {l : Line} {b : BufId} {h : Held} {c : Cause} {r : Request}
    (origin : r.origin = .desk l) (buffer : r.kind.buffer = some b) (start : s.Settling l b h (.failed c)) :
    (s.failRequest d c r).hasReply l b (.failed c) := by
  have L := Lasting.settling l b h (.failed c)
  have K := Lasting.hasReply (.failed c) l b (.failed c)
  unfold State.failRequest
  rw [origin]
  cases kind : r.kind <;> simp only [kind, ReqKind.buffer, reduceCtorEq, Option.some.injEq] at buffer <;> subst buffer
  case write b _ =>
    have answered := (L.lines (t := (s.dropHold d r).dropWaiter d l b) (L.dropHold d r start) rfl).answer
    dsimp only
    split
    · exact K.emptyTrack d _ _ answered
    · exact answered
  case sweep => exact (L.lines (t := s.setSweepFlag d false) start rfl).answer
  all_goals exact start.answer

/-- Every desk's request of a list is answered when the list is withdrawn. -/
theorem State.failRequests_answer {s : State} {d : DriveId} {l : Line} {b : BufId} {h : Held} {c : Cause} {xs : List Request}
    {r : Request} (here : r ∈ xs) (origin : r.origin = .desk l) (buffer : r.kind.buffer = some b)
    (start : s.Settling l b h (.failed c)) :
    (xs.foldl (fun s r => s.failRequest d c r) s).hasReply l b (.failed c) :=
  State.foldl_reaches (P := fun s => s.Settling l b h (.failed c)) (Q := fun s => s.hasReply l b (.failed c))
    (fun _ x p => (Lasting.settling l b h (.failed c)).failRequest d x p)
    (fun _ x p => (Lasting.hasReply (.failed c) l b (.failed c)).failRequest d x p) here
    (fun _ p => State.failRequest_answers origin buffer p) start

/-! ### The frames of fills that fail (R101, R104) -/

@[simp] theorem State.failReaders_region (s : State) (rs : List Reader) (c : Cause) (d : DriveId) :
    (s.failReaders rs c).region d = s.region d :=
  State.foldl_keeps (fun t => t.region d = s.region d) (fun s (rd : Reader) => s.answer rd.line rd.buf (.failed c)) (fun _ _ h => h) rs s rfl

/-- A track in doubt is no FILLING one: a frame with readers stays. -/
theorem State.emptyTrack_readers (s : State) (d : DriveId) (x y : Nat) :
    ((s.emptyTrack d x y).region d).state = (s.region d).state
      ∧ ∀ i rd, rd ∈ ((s.region d).frame i).readers → ((s.emptyTrack d x y).region d).frame i = (s.region d).frame i := by
  unfold State.emptyTrack
  split
  next j found =>
    obtain ⟨lt, valid, -⟩ := frameWhere_spec found
    obtain ⟨c, h, n, conds, at_j⟩ : ∃ c h n conds, (s.region d).frame j = .valid c h n conds := by
      cases at_j : (s.region d).frame j <;> simp_all [Frame.validFor]
    rw [State.region_modRegion_self, Region.setFrame, at_j]
    refine ⟨rfl, fun i rd reads => ?_⟩
    have ne : j ≠ i := by
      rintro rfl
      simp [at_j, Frame.readers] at reads
    show ((lowerAbove n (s.region d).frames).set j .empty).getD i .empty = _
    unfold Region.frame at reads ⊢
    rw [List.getD_eq_getElem?_getD, List.getElem?_set_ne ne, lowerAbove, List.getElem?_map]
    rw [List.getD_eq_getElem?_getD] at reads ⊢
    cases at_i : (s.region d).frames[i]? with
    | none => rfl
    | some f =>
      cases f <;> simp_all [Frame.readers]
  next => exact ⟨rfl, fun _ _ _ => rfl⟩

/-- A request that is not frame `i`'s fill leaves the frame, with the readers it has (in a CLOSING region any fill shuts
it). -/
theorem State.failRequest_readers {s : State} {d : DriveId} {c : Cause} {r : Request} {i : Nat} {rd : Reader}
    (reads : rd ∈ ((s.region d).frame i).readers) (other : r.kind ≠ .fill i)
    (open_ : (s.region d).state ≠ .closing ∨ ∀ j, r.kind ≠ .fill j) :
    ((s.failRequest d c r).region d).state = (s.region d).state
      ∧ ((s.failRequest d c r).region d).frame i = (s.region d).frame i := by
  have hold : (s.dropHold d r).region d = s.region d := by
    unfold State.dropHold
    split <;> rfl
  unfold State.failRequest
  split
  · exact ⟨rfl, rfl⟩
  next l _ =>
    split
    next j kind =>
      have running := open_.resolve_right fun no => no j kind
      have ne : j ≠ i := fun e => other (e ▸ kind)
      rw [State.fillFailed, State.failReaders_region, State.region_modRegion_self, Region.unfilled]
      split
      · contradiction
      · exact ⟨rfl, by simp [Region.frame, List.getD_eq_getElem?_getD, List.getElem?_set_ne ne]⟩
    next b k kind =>
      dsimp only
      split
      · obtain ⟨state, frames⟩ := State.emptyTrack_readers (((s.dropHold d r).dropWaiter d l b).answer l b (.failed c)) d
          r.cylinder r.head
        have same : (((s.dropHold d r).dropWaiter d l b).answer l b (.failed c)).region d = s.region d := hold
        rw [same] at state frames
        exact ⟨state, frames i rd reads⟩
      · exact ⟨congrArg _ hold, congrArg (Region.frame · i) hold⟩
    all_goals exact ⟨rfl, rfl⟩

/-- A reader that waits on a frame, or has its reply. -/
def State.Reading (s : State) (d : DriveId) (i : Nat) (rd : Reader) (h : Held) (c : Cause) (state : RegionState) : Prop :=
  (s.Settling rd.line rd.buf h (.failed c) ∧ (s.region d).state = state ∧ rd ∈ ((s.region d).frame i).readers)
    ∨ s.hasReply rd.line rd.buf (.failed c)

/-- The fill of the frame itself answers the reader. -/
theorem State.Reading.own {s : State} {d : DriveId} {i : Nat} {rd : Reader} {h : Held} {c : Cause} {state : RegionState}
    (x : s.Reading d i rd h c state) {r : Request} (origin : r.origin ≠ .volume) (own : r.kind = .fill i) :
    (s.failRequest d c r).hasReply rd.line rd.buf (.failed c) := by
  obtain ⟨waits, -, reads⟩ | has := x
  · unfold State.failRequest
    split
    · contradiction
    · rw [own]
      exact State.failReaders_answers reads rfl rfl ((Lasting.settling rd.line rd.buf h (.failed c)).lines waits rfl)
  · exact (Lasting.hasReply (.failed c) rd.line rd.buf (.failed c)).failRequest d r has

theorem State.Reading.failRequest {s : State} {d : DriveId} {i : Nat} {rd : Reader} {h : Held} {c : Cause} {state : RegionState}
    (x : s.Reading d i rd h c state) {r : Request} (origin : r.origin ≠ .volume)
    (lone : state ≠ .closing ∨ ∀ j, r.kind = .fill j → j = i) : (s.failRequest d c r).Reading d i rd h c state := by
  by_cases own : r.kind = .fill i
  · exact .inr (x.own origin own)
  · obtain ⟨waits, here, reads⟩ | has := x
    · have lone : (s.region d).state ≠ .closing ∨ ∀ j, r.kind ≠ .fill j := by
        rw [here]
        exact lone.imp id fun (one : ∀ j, r.kind = .fill j → j = i) j kind => own (one j kind ▸ kind)
      obtain ⟨kept, frame⟩ := State.failRequest_readers (c := c) reads own lone
      exact .inl ⟨(Lasting.settling rd.line rd.buf h (.failed c)).failRequest d r waits, kept.trans here, frame ▸ reads⟩
    · exact .inr ((Lasting.hasReply (.failed c) rd.line rd.buf (.failed c)).failRequest d r has)

/-- A reader waits on through the requests withdrawn, or is answered. -/
theorem State.Reading.failRequests {d : DriveId} {i : Nat} {rd : Reader} {h : Held} {c : Cause} {state : RegionState}
    {xs : List Request} (desks : ∀ x ∈ xs, x.origin ≠ .volume)
    (lone : state ≠ .closing ∨ ∀ x ∈ xs, ∀ j, x.kind = .fill j → j = i) {s : State} (x : s.Reading d i rd h c state) :
    (xs.foldl (fun s r => s.failRequest d c r) s).Reading d i rd h c state := by
  induction xs generalizing s with
  | nil => exact x
  | cons y ys ih =>
    exact ih (fun z hz => desks z (List.mem_cons_of_mem _ hz)) (lone.imp id fun one z hz => one z (List.mem_cons_of_mem _ hz))
      (x.failRequest (desks y (List.mem_cons_self ..)) (lone.imp id fun one => one y (List.mem_cons_self ..)))

/-- The readers of a fill are answered when its request is withdrawn. -/
theorem State.Reading.answered {s : State} {d : DriveId} {i : Nat} {rd : Reader} {h : Held} {c : Cause} {state : RegionState}
    {xs : List Request} {r : Request} (here : r ∈ xs) (desks : ∀ x ∈ xs, x.origin ≠ .volume) (kind : r.kind = .fill i)
    (lone : state ≠ .closing ∨ ∀ x ∈ xs, ∀ j, x.kind = .fill j → j = i) (x : s.Reading d i rd h c state) :
    (xs.foldl (fun s r => s.failRequest d c r) s).hasReply rd.line rd.buf (.failed c) := by
  have K := Lasting.hasReply (.failed c) rd.line rd.buf (.failed c)
  obtain ⟨before, after, rfl⟩ := List.append_of_mem here
  rw [List.foldl_append, List.foldl_cons]
  have reading := x.failRequests (xs := before) (fun y hy => desks y (List.mem_append_left _ hy))
    (lone.imp id fun one y hy => one y (List.mem_append_left _ hy))
  exact State.foldl_keeps (fun s => s.hasReply rd.line rd.buf (.failed c)) _ (fun _ y p => K.failRequest d y p) _ _
    (reading.own (desks r here) kind)

/-! ### What answering leaves alone -/

/-- Only the lines, the regions, the volumes and the sweep flags differ, and a sweep flag of drive `d` that is off stays so. -/
structure State.Aside (s t : State) (d : DriveId) : Prop where
  drives  : t.drives = s.drives
  cw      : t.cw = s.cw
  cfg     : t.cfg = s.cfg
  part    : t.part = s.part
  clock   : t.clock = s.clock
  mem     : t.mem = s.mem
  arrival : t.arrival = s.arrival
  pending : t.pending = s.pending
  channel : t.channel = { s.channel with sweepFlag := t.channel.sweepFlag }
  flag    : s.channel.sweepFlag.get d = false → t.channel.sweepFlag.get d = false
  others  : ∀ e, e ≠ d → t.channel.sweepFlag.get e = s.channel.sweepFlag.get e

theorem State.Aside.refl (s : State) (d : DriveId) : s.Aside s d :=
  ⟨rfl, rfl, rfl, rfl, rfl, rfl, rfl, rfl, rfl, id, fun _ _ => rfl⟩

namespace State.Aside
variable {s t : State} {d : DriveId} (h : s.Aside t d)
include h

/-- A step on lines, regions and volumes alone. -/
theorem step {u : State} (e : u = { t with lines := u.lines, regions := u.regions, vols := u.vols }) : s.Aside u d := by
  have channel : u.channel = t.channel := (congrArg State.channel e).trans rfl
  exact ⟨(congrArg State.drives e).trans h.drives, (congrArg State.cw e).trans h.cw, (congrArg State.cfg e).trans h.cfg,
    (congrArg State.part e).trans h.part, (congrArg State.clock e).trans h.clock, (congrArg State.mem e).trans h.mem,
    (congrArg State.arrival e).trans h.arrival, (congrArg State.pending e).trans h.pending,
    channel ▸ h.channel, channel ▸ h.flag, channel ▸ h.others⟩

theorem failReaders (rs : List Reader) (c : Cause) : s.Aside (t.failReaders rs c) d :=
  State.foldl_keeps (fun u => s.Aside u d) (fun s (rd : Reader) => s.answer rd.line rd.buf (.failed c))
    (fun _ _ k => k.step rfl) rs t h

theorem emptyTrack (x y : Nat) : s.Aside (t.emptyTrack d x y) d := by
  unfold State.emptyTrack
  split
  · exact h.step rfl
  · exact h

theorem dropHold (r : Request) : s.Aside (t.dropHold d r) d := by
  unfold State.dropHold
  split
  · exact h.step rfl
  · exact h

theorem setSweepFlag : s.Aside (t.setSweepFlag d false) d :=
  ⟨h.drives, h.cw, h.cfg, h.part, h.clock, h.mem, h.arrival, h.pending,
    congrArg (fun c : Channel => { c with sweepFlag := t.channel.sweepFlag.set d.val false d.isLt }) h.channel,
    fun _ => (vector_get_set ..).trans (if_pos rfl), fun e ne => (vector_get_set_ne _ ne _).trans (h.others e ne)⟩

theorem failRequest (c : Cause) (r : Request) : s.Aside (t.failRequest d c r) d := by
  unfold State.failRequest
  split
  · exact h
  next l _ =>
    split
    · exact State.Aside.failReaders (h.step rfl) _ c
    · next b _ _ =>
      have answered : s.Aside (((t.dropHold d r).dropWaiter d l b).answer l b (.failed c)) d := (h.dropHold r).step rfl
      dsimp only
      split
      · exact answered.emptyTrack _ _
      · exact answered
    · exact h.setSweepFlag.step rfl
    · exact h.step rfl
    · exact h.step rfl
    · exact h

theorem failPending (c : Cause) (p : Option PendingVolume) : s.Aside (t.failPending c p) d := by
  unfold State.failPending
  split
  · exact h.step rfl
  · exact h.step rfl
  · exact h

theorem loseVolume : s.Aside (t.loseVolume d) d := by
  refine State.Aside.failPending (State.foldl_keeps (fun u => s.Aside u d) _ (fun u w k => ?_) _ _ (h.step rfl)) .removed _
  unfold State.loseWaiter
  split
  · exact k
  · exact k.step rfl

theorem emptyRegion : s.Aside (t.emptyRegion d) d := State.Aside.failReaders (h.step rfl) _ _

theorem restoreArea (r : Request) : s.Aside (t.restoreArea d r) d := by
  unfold State.restoreArea
  split
  · exact h.step rfl
  · exact h.step rfl
  · exact h

theorem prepareFailed (c : Cause) : s.Aside (t.prepareFailed d c) d := State.Aside.failPending (h.step rfl) c _

theorem dropVolumeRequest (r : Request) : s.Aside (t.dropVolumeRequest d r) d := by
  unfold State.dropVolumeRequest
  split
  · dsimp only
    split
    · exact State.Aside.emptyTrack (h.step rfl) _ _
    · exact h.step rfl
  · dsimp only
    split
    · exact (h.prepareFailed _).emptyTrack _ _
    · exact h.prepareFailed _
  · exact (h.prepareFailed _).emptyTrack _ _
  · exact h

end State.Aside

/-! ### The channel lets a drive go (R68) -/

/-- Taking back what an operation had taught changes margin records alone. -/
theorem State.unlearn_eq (s : State) (d : DriveId) : s.unlearn d
    = { s with channel := { s.channel with outer := (s.unlearn d).channel.outer, inner := (s.unlearn d).channel.inner } } := by
  have step (t : State) (x : Zone × Margin)
      (h : t = { s with channel := { s.channel with outer := t.channel.outer, inner := t.channel.inner } }) :
      t.setMargin d x.1 (x.2.adjust t.cfg.strobeMin t.cfg.strobeMax) = { s with channel := { s.channel with
        outer := (t.setMargin d x.1 (x.2.adjust t.cfg.strobeMin t.cfg.strobeMax)).channel.outer,
        inner := (t.setMargin d x.1 (x.2.adjust t.cfg.strobeMin t.cfg.strobeMax)).channel.inner } } := by
    rw [h]
    cases x.1 <;> rfl
  unfold State.unlearn
  split
  · exact State.foldl_keeps (fun t => t = { s with channel := { s.channel with outer := t.channel.outer, inner := t.channel.inner } })
      _ step _ s rfl
  · rfl

/-- The channel and the carriage's unload count when drive `d` is let go. -/
theorem State.abortChannel_eq (s : State) (d : DriveId) : ∃ n ups downs,
    s.abortChannel d = { s with
      drives := s.drives.set d.val { s.drive d with pos := { (s.drive d).pos with unload := n } } d.isLt
      channel := { s.channel with
        state := if s.channel.granted = some d then .idle else s.channel.state
        granted := if s.channel.granted = some d then none else s.channel.granted
        gate := if s.channel.granted = some d then none else s.channel.gate
        outer := ups, inner := downs
        asking := s.channel.asking.set d.val false d.isLt
        ops := s.channel.ops.set d.val none d.isLt
        sweepFlag := s.channel.sweepFlag.set d.val false d.isLt } } := by
  unfold State.abortChannel
  by_cases granted : s.channel.granted = some d
  · simp only [granted, if_true]
    refine ⟨0, ((s.endGrant d).unlearn d).channel.outer, ((s.endGrant d).unlearn d).channel.inner, ?_⟩
    rw [State.unlearn_eq]
    rfl
  · simp only [granted, if_false]
    refine ⟨(s.drive d).pos.unload, (s.unlearn d).channel.outer, (s.unlearn d).channel.inner, ?_⟩
    rw [State.unlearn_eq]
    have same : s.drives.set d.val (s.drive d) d.isLt = s.drives := Vector.set_getElem_self d.isLt
    rw [show ({ s.drive d with pos := { (s.drive d).pos with unload := (s.drive d).pos.unload } } : DriveSeq) = s.drive d from rfl,
      same]
    rfl

@[simp] theorem State.abortChannel_lines (s : State) (d : DriveId) : (s.abortChannel d).lines = s.lines := by
  obtain ⟨_, _, _, e⟩ := s.abortChannel_eq d
  rw [e]

@[simp] theorem State.abortChannel_vols (s : State) (d : DriveId) : (s.abortChannel d).vols = s.vols := by
  obtain ⟨_, _, _, e⟩ := s.abortChannel_eq d
  rw [e]

@[simp] theorem State.abortChannel_vol (s : State) (d e : DriveId) : (s.abortChannel d).vol e = s.vol e := by
  rw [State.vol, State.abortChannel_vols]
  rfl

@[simp] theorem State.abortChannel_region (s : State) (d e : DriveId) : (s.abortChannel d).region e = s.region e := by
  obtain ⟨_, _, _, eq⟩ := s.abortChannel_eq d
  rw [eq]
  rfl

/-- Besides the unload count the drive sequencer does not see its operation cut off. -/
theorem State.abortChannel_drive (s : State) (d : DriveId) :
    ∃ n, (s.abortChannel d).drive d = { s.drive d with pos := { (s.drive d).pos with unload := n } } := by
  obtain ⟨n, _, _, e⟩ := s.abortChannel_eq d
  refine ⟨n, ?_⟩
  rw [e]
  exact (vector_get_set ..).trans (if_pos rfl)

theorem State.abortChannel_queue (s : State) (d : DriveId) : ((s.abortChannel d).drive d).queue = (s.drive d).queue := by
  obtain ⟨_, e⟩ := s.abortChannel_drive d
  rw [e]

/-- The channel that has let drive `d` go: its own outputs deasserted, nothing kept of the operation. -/
structure Channel.LetGo (c e : Channel) (d : DriveId) : Prop where
  granted : e.granted = if c.granted = some d then none else c.granted
  gate    : e.gate = if c.granted = some d then none else c.gate
  asking  : e.asking.get d = false
  op      : e.ops.get d = none
  flag    : e.sweepFlag.get d = false

theorem State.abortChannel_letGo (s : State) (d : DriveId) : s.channel.LetGo (s.abortChannel d).channel d := by
  obtain ⟨_, _, _, e⟩ := s.abortChannel_eq d
  rw [e]
  exact ⟨rfl, rfl, (vector_get_set ..).trans (if_pos rfl), (vector_get_set ..).trans (if_pos rfl),
    (vector_get_set ..).trans (if_pos rfl)⟩

theorem Channel.LetGo.not_granted {c e : Channel} {d : DriveId} (l : c.LetGo e d) : e.granted ≠ some d := by
  rw [l.granted]
  split
  · simp
  · assumption

/-- No output of a drive that the channel is not granted to is asserted by the channel (R44, R11). -/
theorem State.outputs_of_not_granted {s : State} {d : DriveId} (h : s.channel.granted ≠ some d) :
    s.writeGate d = false ∧ s.lowCurrent d = false := by
  simp [State.writeGate, State.lowCurrent, h]

/-! ### The margin records of an operation cut off (R68 item 4) -/

theorem State.margin_setMargin (s : State) (d e : DriveId) (z y : Zone) (m : Margin) :
    (s.setMargin d z m).margin e y = if d = e ∧ z = y then m else s.margin e y := by
  cases z <;> cases y <;> by_cases same : d = e <;>
    simp [State.margin, State.setMargin, State.modChannel, same, vector_get_set]

/-- Records put back in turn: the record of a zone that one names alone is that one, adjusted, and every other stays. -/
theorem State.putBack_margins (d : DriveId) (undo : List (Zone × Margin)) (s : State) :
    let t := undo.foldl (fun s x => s.setMargin d x.1 (x.2.adjust s.cfg.strobeMin s.cfg.strobeMax)) s
    (∀ e z, (e ≠ d ∨ ∀ m, (z, m) ∉ undo) → t.margin e z = s.margin e z)
      ∧ ∀ z m, (z, m) ∈ undo → (∀ m', (z, m') ∈ undo → m' = m) →
          t.margin d z = m.adjust s.cfg.strobeMin s.cfg.strobeMax := by
  induction undo generalizing s with
  | nil => exact ⟨fun _ _ _ => rfl, fun _ _ here => absurd here List.not_mem_nil⟩
  | cons x rest ih =>
    obtain ⟨kept, back⟩ := ih (s.setMargin d x.1 (x.2.adjust s.cfg.strobeMin s.cfg.strobeMax))
    refine ⟨fun e z other => ?_, fun z m here one => ?_⟩
    · have away : ¬ (d = e ∧ x.1 = z) := by
        rintro ⟨rfl, rfl⟩
        exact (other.resolve_left fun ne => ne rfl) x.2 (List.mem_cons_self ..)
      refine (kept e z (other.imp id fun no m there => no m (List.mem_cons_of_mem _ there))).trans ?_
      rw [State.margin_setMargin, if_neg away]
    · by_cases later : ∃ m', (z, m') ∈ rest
      · obtain ⟨m', there⟩ := later
        obtain rfl := one m' (List.mem_cons_of_mem _ there)
        exact back z m' there fun m'' h => one m'' (List.mem_cons_of_mem _ h)
      · obtain rfl : (z, m) = x := (List.mem_cons.mp here).resolve_right fun there => later ⟨m, there⟩
        refine (kept d z (.inr fun m' h => later ⟨m', h⟩)).trans ?_
        rw [State.margin_setMargin, if_pos ⟨rfl, rfl⟩]

theorem State.unlearn_margins (s : State) (d : DriveId) : s.MarginsBack (s.unlearn d) d := by
  unfold State.unlearn
  refine ⟨fun none e z => by rw [none], fun o op => ?_⟩
  rw [op]
  exact State.putBack_margins d o.undo s

theorem State.abortChannel_margins (s : State) (d : DriveId) : s.MarginsBack (s.abortChannel d) d := by
  unfold State.abortChannel
  split
  · exact State.unlearn_margins (s.endGrant d) d
  · exact s.unlearn_margins d

/-- Answering does not change a margin record. -/
theorem State.Aside.margin {s t : State} {d : DriveId} (h : s.Aside t d) (e : DriveId) (z : Zone) :
    t.margin e z = s.margin e z := by
  have channel := h.channel
  cases z <;> simp only [State.margin] <;> rw [channel]

/-! ### Removal (R35, R36) -/

/-- What a removal does outside the drive sequencer and the claims. -/
def State.removalAnswers (s : State) (d : DriveId) : State :=
  (((s.drive d).queue.filter fun r => r.origin != .volume).foldl (fun s r => s.failRequest d .removed r)
    ((s.abortChannel d).loseVolume d)).emptyRegion d

theorem State.removalAnswers_aside (s : State) (d : DriveId) : (s.abortChannel d).Aside (s.removalAnswers d) d :=
  State.Aside.emptyRegion (State.foldl_keeps (fun t => (s.abortChannel d).Aside t d) _ (fun _ r h => h.failRequest _ r) _ _
    (State.Aside.refl _ d).loseVolume)

/-- A removal, taken apart: the drive sequencer and the claims change once, after all the rest. -/
theorem State.removal_eq (s : State) (d : DriveId) (c : DriveCondition) : s.removal d c
    = ((s.removalAnswers d).modClaims fun w => w.volumeGone d).modDrive d fun u => u.removed c := by
  have drives := (State.Aside.refl (s.abortChannel d) d).loseVolume.drives
  have queue : (((s.abortChannel d).loseVolume d).drive d).queue = (s.drive d).queue := by
    rw [State.drive, drives]
    exact s.abortChannel_queue d
  unfold State.removal State.withdraw
  simp only [Bool.and_true, queue]
  unfold State.modQueue
  rw [State.foldl_modDrive fun s x => s.failRequest_modDrive d d _ .removed x]
  have region (t : State) (f : DriveSeq → DriveSeq) : (t.modDrive d f).emptyRegion d = (t.emptyRegion d).modDrive d f :=
    State.failReaders_modDrive (t.modRegion d Region.close) d f _ _
  have claims (t : State) (f : DriveSeq → DriveSeq) (g : ClaimUnit → ClaimUnit) :
      (t.modDrive d f).modClaims g = (t.modClaims g).modDrive d f := rfl
  dsimp only
  rw [region, claims, State.modDrive_modDrive]
  rfl

theorem State.removal_drive (s : State) (d : DriveId) (c : DriveCondition) : (s.removal d c).drive d = (s.drive d).removed c := by
  obtain ⟨n, e⟩ := s.abortChannel_drive d
  rw [State.removal_eq, State.drive_modDrive_self]
  show (State.drive { s.removalAnswers d with cw := _ } d).removed c = _
  have drives : (s.removalAnswers d).drive d = (s.abortChannel d).drive d := by
    rw [State.drive, (s.removalAnswers_aside d).drives]
    rfl
  exact (congrArg (DriveSeq.removed · c) (drives.trans e)).trans rfl

theorem State.removal_region (s : State) (d : DriveId) (c : DriveCondition) :
    ((s.removal d c).region d).state = .shut ∧ ((s.removal d c).region d).frames = [] := by
  rw [State.removal_eq]
  show ((s.removalAnswers d).region d).state = .shut ∧ ((s.removalAnswers d).region d).frames = []
  rw [State.removalAnswers, State.emptyRegion, State.failReaders_region, State.region_modRegion_self]
  exact ⟨rfl, rfl⟩

@[simp] theorem State.failReaders_vol (s : State) (rs : List Reader) (c : Cause) (d : DriveId) :
    (s.failReaders rs c).vol d = s.vol d :=
  State.foldl_keeps (fun t => t.vol d = s.vol d) (fun s (rd : Reader) => s.answer rd.line rd.buf (.failed c)) (fun _ _ h => h)
    rs s rfl

@[simp] theorem State.emptyTrack_vol (s : State) (d e : DriveId) (x y : Nat) : (s.emptyTrack d x y).vol e = s.vol e := by
  unfold State.emptyTrack
  split <;> rfl

@[simp] theorem State.failPending_vol (s : State) (c : Cause) (p : Option PendingVolume) (d : DriveId) :
    (s.failPending c p).vol d = s.vol d := by
  unfold State.failPending
  split <;> rfl

/-- Only a desk WRITE that fails changes the volume: a granule it held is released, its waiter goes (R88, R147). -/
theorem State.failRequest_vol (s : State) (d : DriveId) (c : Cause) (r : Request) :
    (s.failRequest d c r).vol d = s.vol d ∨ ∃ l b w, r.origin = .desk l ∧ r.kind = .write b w
      ∧ (s.failRequest d c r).vol d = { s.vol d with
          heldGranule := ((s.failRequest d c r).vol d).heldGranule
          waiters := (s.vol d).waiters.filter fun w => !(w.line == l && w.buf == b) }
      ∧ ((s.vol d).heldGranule = none → ((s.failRequest d c r).vol d).heldGranule = none) := by
  unfold State.failRequest
  split
  · exact .inl rfl
  next l origin =>
    split
    · exact .inl (State.failReaders_vol _ _ _ _)
    next b w kind =>
      refine .inr ⟨l, b, w, origin, kind, ?_⟩
      have vol : ((s.dropHold d r).vol d) = { s.vol d with heldGranule := ((s.dropHold d r).vol d).heldGranule }
          ∧ ((s.vol d).heldGranule = none → ((s.dropHold d r).vol d).heldGranule = none) := by
        unfold State.dropHold
        split
        · rw [State.vol_modVol_self]
          exact ⟨rfl, fun _ => rfl⟩
        · exact ⟨rfl, id⟩
      have dropped : (((s.dropHold d r).dropWaiter d l b).answer l b (.failed c)).vol d = { s.vol d with
          heldGranule := ((s.dropHold d r).vol d).heldGranule
          waiters := (s.vol d).waiters.filter fun w => !(w.line == l && w.buf == b) } := by
        show ((s.dropHold d r).dropWaiter d l b).vol d = _
        rw [State.dropWaiter, State.vol_modVol_self, vol.1]
      have whole : (if r.granted then (((s.dropHold d r).dropWaiter d l b).answer l b (.failed c)).emptyTrack d r.cylinder r.head
          else ((s.dropHold d r).dropWaiter d l b).answer l b (.failed c)).vol d
          = (((s.dropHold d r).dropWaiter d l b).answer l b (.failed c)).vol d := by
        split
        · exact State.emptyTrack_vol _ _ _ _ _
        · rfl
      dsimp only
      rw [whole, dropped]
      exact ⟨rfl, vol.2⟩
    all_goals exact .inl rfl

theorem State.dirtyAtLoss_iff (s : State) (d : DriveId) : s.dirtyAtLoss d = true ↔ (s.vol d).dirtyRemoval = true
    ∨ (s.vol d).dirtySet ≠ [] ∨ ∃ r ∈ (s.drive d).queue, r.kind.isWrite = true := by
  rw [State.dirtyAtLoss, Bool.or_eq_true, Bool.or_eq_true, or_assoc, List.any_eq_true, Bool.not_eq_true', ← Bool.not_eq_true,
    List.isEmpty_iff]

/-- The volume that a removal leaves (R123). -/
theorem State.removal_vol (s : State) (d : DriveId) (c : DriveCondition) : (s.removal d c).vol d
    = { freshVolume with label := (s.vol d).label, dirtyRemoval := s.dirtyAtLoss d } := by
  have lost (t : State) : (t.loseVolume d).vol d
      = { freshVolume with label := (t.vol d).label, dirtyRemoval := t.dirtyAtLoss d } := by
    unfold State.loseVolume
    dsimp only
    rw [State.failPending_vol]
    refine (State.foldl_keeps (fun u => u.vol d = (State.modVol t d fun v => { freshVolume with label := v.label, dirtyRemoval := t.dirtyAtLoss d }).vol d) _ (fun u w h => ?_) _ _ rfl).trans
      (State.vol_modVol_self ..)
    unfold State.loseWaiter
    split <;> exact h
  have dirty : (s.abortChannel d).dirtyAtLoss d = s.dirtyAtLoss d := by
    simp [State.dirtyAtLoss, State.abortChannel_queue]
  rw [State.removal_eq]
  show (s.removalAnswers d).vol d = _
  rw [State.removalAnswers, State.emptyRegion, State.failReaders_vol]
  refine State.foldl_keeps (fun u => u.vol d = { freshVolume with label := (s.vol d).label, dirtyRemoval := s.dirtyAtLoss d }) _
    (fun u r h => ?_) _ _ (by rw [lost, dirty, State.abortChannel_vol])
  obtain same | ⟨l, b, w, -, -, vol, held⟩ := u.failRequest_vol d .removed r
  · exact same.trans h
  · rw [vol, held (by rw [h]; rfl), h]
    rfl

theorem State.loseVolume_region (s : State) (d e : DriveId) : (s.loseVolume d).region e = s.region e := by
  have pending (t : State) (c : Cause) (p : Option PendingVolume) : (t.failPending c p).region e = t.region e := by
    unfold State.failPending
    split <;> rfl
  refine (pending ..).trans (State.foldl_keeps (fun u => u.region e = s.region e) _ (fun u w h => ?_) _ _ rfl)
  unfold State.loseWaiter
  split <;> exact h

theorem Request.desk_not_volume {r : Request} {l : Line} (origin : r.origin = .desk l) : (r.origin != .volume) = true := by
  rw [origin]
  rfl

/-- The readers of a frame are among the region's. -/
theorem Region.mem_allReaders {g : Region} {i : Nat} {rd : Reader} (reads : rd ∈ (g.frame i).readers) : rd ∈ g.allReaders := by
  refine List.mem_flatMap.mpr ⟨g.frame i, ?_, reads⟩
  have lt : i < g.frames.length := by
    by_contra out
    rw [Region.frame, List.getD_eq_default _ _ (Nat.not_lt.mp out)] at reads
    exact absurd reads List.not_mem_nil
  rw [Region.frame, List.getD_eq_getElem _ _ lt]
  exact List.getElem_mem lt

theorem Region.exists_frame_of_mem {g : Region} {rd : Reader} (reads : rd ∈ g.allReaders) :
    ∃ i, rd ∈ (g.frame i).readers := by
  obtain ⟨f, held, reads⟩ := List.mem_flatMap.mp reads
  obtain ⟨i, lt, rfl⟩ := List.getElem_of_mem held
  exact ⟨i, by rwa [Region.frame, List.getD_eq_getElem _ _ lt]⟩

/-- The requests of the queue that are a line's are answered (R36). -/
theorem State.removal_answers {s : State} {d : DriveId} {r : Request} {l : Line} {b : BufId} {h : Held} (c : DriveCondition)
    (here : r ∈ (s.drive d).queue) (origin : r.origin = .desk l) (buffer : r.kind.buffer = some b) (waits : s.Settling l b h (.failed .removed)) :
    (s.removal d c).hasReply l b (.failed .removed) := by
  have L := Lasting.settling l b h (.failed .removed)
  have K := Lasting.hasReply (.failed .removed) l b (.failed .removed)
  have start := L.loseVolume (s := s.abortChannel d) d (L.lines waits (s.abortChannel_lines d))
  have gone := State.failRequests_answer (d := d)
    (List.mem_filter (p := fun r => r.origin != .volume).mpr ⟨here, Request.desk_not_volume origin⟩) origin buffer start
  rw [State.removal_eq]
  exact K.lines (K.emptyRegion d gone) rfl

/-- The readers of an open region, or of a CLOSING one's fill, are answered (R36, R105). -/
theorem State.removal_reads {s : State} {d : DriveId} {i : Nat} {rd : Reader} {h : Held} (c : DriveCondition)
    (reads : rd ∈ ((s.region d).frame i).readers)
    (lone : (s.region d).state ≠ .closing
      ∨ ∃ r ∈ (s.drive d).queue, r.origin ≠ .volume ∧ r.kind = .fill i ∧ ∀ x j, x ∈ (s.drive d).queue → x.kind = .fill j → x = r)
    (waits : s.Settling rd.line rd.buf h (.failed .removed)) : (s.removal d c).hasReply rd.line rd.buf (.failed .removed) := by
  have L := Lasting.settling rd.line rd.buf h (.failed .removed)
  have K := Lasting.hasReply (.failed .removed) rd.line rd.buf (.failed .removed)
  have region : ((s.abortChannel d).loseVolume d).region d = s.region d := by
    rw [State.loseVolume_region, State.abortChannel_region]
  have start : ((s.abortChannel d).loseVolume d).Reading d i rd h .removed (s.region d).state :=
    .inl ⟨L.loseVolume (s := s.abortChannel d) d (L.lines waits (s.abortChannel_lines d)), congrArg _ region, region ▸ reads⟩
  rw [State.removal_eq]
  refine K.lines (s := s.removalAnswers d) ?_ rfl
  have desks : ∀ x ∈ (s.drive d).queue.filter (fun r => r.origin != .volume), x.origin ≠ .volume :=
    fun x h => by simpa using (List.mem_filter.mp h).2
  obtain running | ⟨r, here, origin, kind, one⟩ := lone
  · obtain ⟨waits, -, reads⟩ | has := start.failRequests desks (.inl running)
    · exact State.failReaders_answers (Region.mem_allReaders reads) rfl rfl (L.lines waits rfl)
    · exact K.emptyRegion d has
  · refine K.emptyRegion d (start.answered (List.mem_filter.mpr ⟨here, by simpa using origin⟩) desks kind (.inr fun x hx j fill => ?_))
    have same := one x j (List.mem_filter.mp hx).1 fill
    rw [same, kind] at fill
    exact (ReqKind.fill.inj fill).symm

/-- Every write-back waiter whose data WRITE is not in the queue is answered (R36, R123). -/
theorem State.removal_waiters {s : State} {d : DriveId} {w : Waiter} {h : Held} (c : DriveCondition) (here : w ∈ (s.vol d).waiters)
    (kind : w.kind ≠ .extending none) (waits : s.Settling w.line w.buf h (.failed .removed)) :
    (s.removal d c).hasReply w.line w.buf (.failed .removed) := by
  have L := Lasting.settling w.line w.buf h (.failed .removed)
  have K := Lasting.hasReply (.failed .removed) w.line w.buf (.failed .removed)
  have answers (t : State) (x : t.Settling w.line w.buf h (.failed .removed)) :
      (t.loseWaiter w).hasReply w.line w.buf (.failed .removed) := by
    unfold State.loseWaiter
    split
    · contradiction
    · exact x.answer
  have lost : ((s.abortChannel d).loseVolume d).hasReply w.line w.buf (.failed .removed) := by
    refine K.failPending _ (State.foldl_reaches (P := fun s => s.Settling w.line w.buf h (.failed .removed))
      (Q := fun s => s.hasReply w.line w.buf (.failed .removed)) (fun _ x p => L.loseWaiter x p) (fun _ x p => K.loseWaiter x p)
      (a := w) ?_ answers (L.lines waits (s.abortChannel_lines d)))
    rw [State.abortChannel_vol]
    exact here
  rw [State.removal_eq]
  exact K.lines (K.emptyRegion d (State.foldl_keeps (fun s => s.hasReply w.line w.buf (.failed .removed)) _
    (fun _ r p => K.failRequest d r p) _ _ lost)) rfl

/-- The EJECT or PREPARE VOLUME that waits is answered (R36). -/
theorem State.removal_pending {s : State} {d : DriveId} {l : Line} {b : BufId} {clamped : Bool} {h : Held} (c : DriveCondition)
    (pending : (s.vol d).pendingReq = some (.eject l b) ∨ (s.vol d).pendingReq = some (.prepare l b clamped))
    (waits : s.Settling l b h (.failed .removed)) : (s.removal d c).hasReply l b (.failed .removed) := by
  have L := Lasting.settling l b h (.failed .removed)
  have K := Lasting.hasReply (.failed .removed) l b (.failed .removed)
  have lost : ((s.abortChannel d).loseVolume d).hasReply l b (.failed .removed) := by
    have start : State.Settling _ l b h (.failed .removed) := State.foldl_keeps (fun t => t.Settling l b h (.failed .removed)) _
      (fun _ w p => L.loseWaiter w p) (s.vol d).waiters
      (State.modVol (s.abortChannel d) d fun v => { freshVolume with label := v.label, dirtyRemoval := (s.abortChannel d).dirtyAtLoss d })
      (L.lines waits (s.abortChannel_lines d))
    unfold State.loseVolume
    dsimp only
    rw [State.abortChannel_vol]
    obtain eq | eq := pending <;> rw [eq] <;> exact start.answer
  rw [State.removal_eq]
  exact K.lines (K.emptyRegion d (State.foldl_keeps (fun s => s.hasReply l b (.failed .removed)) _
    (fun _ r p => K.failRequest d r p) _ _ lost)) rfl

/-- The rest of the unit through a removal. -/
theorem State.removal_rest (s : State) (d : DriveId) (c : DriveCondition) :
    (s.removal d c).channel = { (s.abortChannel d).channel with sweepFlag := (s.removal d c).channel.sweepFlag }
      ∧ s.channel.LetGo (s.removal d c).channel d ∧ (s.removal d c).cw = s.cw.volumeGone d
      ∧ (s.removal d c).arrival = s.arrival := by
  have aside := s.removalAnswers_aside d
  have letGo := s.abortChannel_letGo d
  obtain ⟨_, _, _, e⟩ := s.abortChannel_eq d
  rw [State.removal_eq]
  have channel := aside.channel
  refine ⟨channel, ?_, ?_, ?_⟩
  · show s.channel.LetGo (s.removalAnswers d).channel d
    have flag := aside.flag letGo.flag
    rw [channel] at flag ⊢
    exact ⟨letGo.granted, letGo.gate, letGo.asking, letGo.op, flag⟩
  · show (s.removalAnswers d).cw.volumeGone d = _
    rw [aside.cw, e]
  · show (s.removalAnswers d).arrival = _
    rw [aside.arrival, e]

theorem State.MarginsBack.of_channel {s t u : State} {d : DriveId} (h : s.MarginsBack t d)
    (same : ∀ e z, u.margin e z = t.margin e z) : s.MarginsBack u d :=
  ⟨fun none e z => (same e z).trans (h.1 none e z), fun o op =>
    ⟨fun e z other => (same e z).trans ((h.2 o op).1 e z other), fun z m here one => (same d z).trans ((h.2 o op).2 z m here one)⟩⟩

theorem State.removal_margins (s : State) (d : DriveId) (c : DriveCondition) : s.MarginsBack (s.removal d c) d := by
  refine (s.abortChannel_margins d).of_channel fun e z => ?_
  rw [State.removal_eq]
  exact (s.removalAnswers_aside d).margin e z

/-- Settles O39: the removal taken apart, each clause by its lemma. -/
theorem removalClearsTheDrive : Obligations.RemovalClearsTheDrive := by
  unfold Obligations.RemovalClearsTheDrive
  intro s d live condition
  have run : exec (.readyDrops d) s = .next ((s.setReady d false).removal d .empty) := by
    simp [exec, execReadyDrops, live, condition]
  refine ⟨_, run, ?_⟩
  generalize start : s.setReady d false = u
  have drive : u.drive d = { s.drive d with levels := { (s.drive d).levels with ready := false } } := by
    rw [← start]
    exact State.drive_modDrive_self ..
  have queue : (u.drive d).queue = (s.drive d).queue := by rw [drive]
  have vol : u.vol d = s.vol d := by rw [← start]; rfl
  have region : u.region d = s.region d := by rw [← start]; rfl
  have buffer (l : Line) (b : BufId) : u.buffer l b = s.buffer l b := by rw [← start]; rfl
  have within : s.Within (u.removal d .empty) d := by
    rw [← start]
    exact State.Within.removal (State.Within.modDrive (State.Within.refl s d) _) .empty
  obtain ⟨channel, letGo, claims, arrival⟩ := u.removal_rest d .empty
  obtain ⟨gate, low⟩ := State.outputs_of_not_granted letGo.not_granted
  have after : (u.removal d .empty).drive d = { s.drive d with
      levels := { (s.drive d).levels with ready := false }, condition := .empty, index := clearedTiming, noIndexTimer := false,
      pos := (s.drive d).pos.toUnknown, reportDue := false, reportHeld := false, queue := [] } := by
    rw [State.removal_drive, drive]
    rfl
  have volume := u.removal_vol d .empty
  have dirty : u.dirtyAtLoss d = s.dirtyAtLoss d := by rw [State.dirtyAtLoss, State.dirtyAtLoss, vol, queue]
  rw [vol, dirty] at volume
  have waits {l : Line} {b : BufId} {h : Held} (held : s.buffer l b = some h) (stage : h.stage = .inProgress)
      (orphan : h.orphan = false) (reply : h.reply = none) : u.Settling l b h (.failed .removed) :=
    .inl ⟨(buffer l b).trans held, stage, orphan, reply⟩
  obtain ⟨shut, frames⟩ := u.removal_region d .empty
  rw [after, volume]
  refine ⟨rfl, rfl, rfl, rfl, rfl, rfl, rfl, rfl, rfl, rfl, letGo.not_granted, gate, low, ?_, letGo.asking, letGo.op, letGo.flag,
    shut, frames, rfl, ?_, ?_, ?_, ?_, ?_, ?_, ?_, ?_, within.others, within.cfg, within.clock, within.part, ?_, ?_, within.pending⟩
  · simp [State.busyLamp, after, volume, freshVolume, Volume.dirtySet]
  · exact s.dirtyAtLoss_iff d
  · rw [claims, ← start]
    rfl
  · exact fun r l b h here origin kind held stage orphan reply =>
      State.removal_answers .empty (queue ▸ here) origin kind (waits held stage orphan reply)
  · intro rd h running reads held stage orphan reply
    obtain ⟨i, reads⟩ := Region.exists_frame_of_mem reads
    exact State.removal_reads .empty (region ▸ reads) (.inl (region ▸ running)) (waits held stage orphan reply)
  · exact fun r i rd h _ here origin kind one reads held stage orphan reply =>
      State.removal_reads .empty (region ▸ reads) (.inr ⟨r, queue ▸ here, origin, kind, fun x j hx => one x j (queue ▸ hx)⟩)
        (waits held stage orphan reply)
  · exact fun w h here kind ⟨held, stage, orphan⟩ reply =>
      State.removal_waiters .empty (vol ▸ here) kind (waits held stage orphan reply)
  · exact fun l b h clamped pending ⟨held, stage, orphan⟩ reply =>
      State.removal_pending .empty (vol ▸ pending) (waits held stage orphan reply)
  · have back := u.removal_margins d .empty
    rw [← start] at back ⊢
    exact back
  · rw [State.removal_mem, ← start]
    rfl
  · rw [arrival, ← start]
    rfl

end Sys2Proof.Machine
end

section
/-! Settlement of the statements on drive faults and CLEAR DRIVE (section 2.8). -/
namespace Sys2Proof.Machine

/-! ### Folds over the requests of a queue -/

theorem State.foldl_keeps_mem {α : Type} {P : State → Prop} {f : State → α → State} {xs : List α}
    (step : ∀ s a, a ∈ xs → P s → P (f s a)) {s : State} (start : P s) : P (xs.foldl f s) := by
  induction xs generalizing s with
  | nil => exact start
  | cons x xs ih =>
    exact ih (fun s a h => step s a (List.mem_cons_of_mem _ h)) (step s x (List.mem_cons_self ..) start)

theorem State.foldl_reaches_mem {α : Type} {P Q : State → Prop} {f : State → α → State} {xs : List α}
    (keepsP : ∀ s a, a ∈ xs → P s → P (f s a)) (keepsQ : ∀ s a, a ∈ xs → Q s → Q (f s a)) {a : α} (here : a ∈ xs)
    (makes : ∀ s, P s → Q (f s a)) {s : State} (start : P s) : Q (xs.foldl f s) := by
  obtain ⟨before, after, rfl⟩ := List.append_of_mem here
  rw [List.foldl_append, List.foldl_cons]
  exact State.foldl_keeps_mem (fun s x h => keepsQ s x (List.mem_append_right _ (List.mem_cons_of_mem _ h)))
    (makes _ (State.foldl_keeps_mem (fun s x h => keepsP s x (List.mem_append_left _ h)) start))

/-! ### What a fault does outside the drive sequencer (R38, R39) -/

/-- What the operations of a fault on each of its requests leave. -/
structure FaultKeeps (d : DriveId) (q : List Request) (P : State → Prop) : Prop where
  desk : ∀ t r, r ∈ q → r.origin ≠ .volume → P t → P (t.failRequest d .driveFault r)
  area : ∀ t r, r ∈ q → r.origin = .volume → P t → P (t.restoreArea d r)
  drop : ∀ t r, r ∈ q → r.origin = .volume → r.survives = false → P t → P (t.dropVolumeRequest d r)

theorem FaultKeeps.and {d : DriveId} {q : List Request} {P Q : State → Prop} (A : FaultKeeps d q P) (B : FaultKeeps d q Q) :
    FaultKeeps d q fun t => P t ∧ Q t :=
  ⟨fun t r h o x => ⟨A.desk t r h o x.1, B.desk t r h o x.2⟩, fun t r h o x => ⟨A.area t r h o x.1, B.area t r h o x.2⟩,
    fun t r h o g x => ⟨A.drop t r h o g x.1, B.drop t r h o g x.2⟩⟩

theorem Lasting.faultKeeps {P : State → Prop} (L : Lasting (.failed .driveFault) P) (d : DriveId) (q : List Request) :
    FaultKeeps d q P :=
  ⟨fun _ r _ _ => L.failRequest d r, fun _ r _ _ => L.restoreArea d r, fun _ r _ _ _ => L.dropVolumeRequest d r⟩

section
variable {s : State} {d : DriveId} {P Q : State → Prop}

/-- The desks' requests that a fault answers. -/
def State.faultDesks (s : State) (d : DriveId) : State :=
  ((s.drive d).queue.filter fun r => r.origin != .volume).foldl (fun s r => s.failRequest d .driveFault r) (s.abortChannel d)

/-- The areas of the mount reads restored after it. -/
def State.faultAreas (s : State) (d : DriveId) : State :=
  (((s.drive d).queue.filter fun r => r.origin == .volume).filter fun r => r.state != .queued).foldl
    (fun s r => s.restoreArea d r) (s.faultDesks d)

theorem State.faultAnswers_eq (s : State) (d : DriveId) : s.faultAnswers d
    = (((s.drive d).queue.filter fun r => r.origin == .volume).filter fun r => !r.survives).foldl
        (fun s r => s.dropVolumeRequest d r) (s.faultAreas d) := by
  simp only [State.faultAnswers, State.faultAreas, State.faultDesks, State.abortChannel_queue]

theorem mem_desks {q : List Request} {r : Request} : r ∈ q.filter (fun r => r.origin != .volume) ↔ r ∈ q ∧ r.origin ≠ .volume := by
  simp

theorem mem_areas {q : List Request} {r : Request} : r ∈ (q.filter fun r => r.origin == .volume).filter (fun r => r.state != .queued)
    ↔ r ∈ q ∧ r.origin = .volume ∧ r.state ≠ .queued := by
  simp [and_comm]

theorem mem_drops {q : List Request} {r : Request} : r ∈ (q.filter fun r => r.origin == .volume).filter (fun r => !r.survives)
    ↔ r ∈ q ∧ r.origin = .volume ∧ r.survives = false := by
  simp [and_comm]

namespace FaultKeeps
variable (K : FaultKeeps d (s.drive d).queue P)
include K

theorem desks (start : P (s.abortChannel d)) : P (s.faultDesks d) :=
  State.foldl_keeps_mem (fun t r here => K.desk t r (mem_desks.mp here).1 (mem_desks.mp here).2) start

theorem areas (start : P (s.faultDesks d)) : P (s.faultAreas d) :=
  State.foldl_keeps_mem (fun t r here => K.area t r (mem_areas.mp here).1 (mem_areas.mp here).2.1) start

theorem drops (start : P (s.faultAreas d)) : P (s.faultAnswers d) := by
  rw [State.faultAnswers_eq]
  exact State.foldl_keeps_mem (fun t r here => K.drop t r (mem_drops.mp here).1 (mem_drops.mp here).2.1 (mem_drops.mp here).2.2) start

theorem answers (start : P (s.abortChannel d)) : P (s.faultAnswers d) := K.drops (K.areas (K.desks start))

/-- A volume request that goes makes `Q` of `P`. -/
theorem reachesDrop (J : FaultKeeps d (s.drive d).queue Q) {r : Request} (here : r ∈ (s.drive d).queue)
    (volume : r.origin = .volume) (goes : r.survives = false) (makes : ∀ t, P t → Q (t.dropVolumeRequest d r))
    (start : P (s.abortChannel d)) : Q (s.faultAnswers d) := by
  rw [State.faultAnswers_eq]
  exact State.foldl_reaches_mem (P := P)
    (fun t r here => K.drop t r (mem_drops.mp here).1 (mem_drops.mp here).2.1 (mem_drops.mp here).2.2)
    (fun t r here => J.drop t r (mem_drops.mp here).1 (mem_drops.mp here).2.1 (mem_drops.mp here).2.2)
    (mem_drops.mpr ⟨here, volume, goes⟩) makes (K.areas (K.desks start))

/-- The area of a selected mount read, restored, makes `Q` of `P`. -/
theorem reachesArea (J : FaultKeeps d (s.drive d).queue Q) {r : Request} (here : r ∈ (s.drive d).queue)
    (volume : r.origin = .volume) (selected : r.state ≠ .queued) (makes : ∀ t, P t → Q (t.restoreArea d r))
    (start : P (s.abortChannel d)) : Q (s.faultAnswers d) :=
  J.drops (State.foldl_reaches_mem (P := P) (fun t r here => K.area t r (mem_areas.mp here).1 (mem_areas.mp here).2.1)
    (fun t r here => J.area t r (mem_areas.mp here).1 (mem_areas.mp here).2.1)
    (mem_areas.mpr ⟨here, volume, selected⟩) makes (K.desks start))

end FaultKeeps
end

theorem State.faultAnswers_aside (s : State) (d : DriveId) : (s.abortChannel d).Aside (s.faultAnswers d) d :=
  FaultKeeps.answers (P := fun t => (s.abortChannel d).Aside t d)
    ⟨fun _ r _ _ h => h.failRequest _ r, fun _ r _ _ h => h.restoreArea r, fun _ r _ _ _ h => h.dropVolumeRequest r⟩
    (State.Aside.refl _ d)

theorem State.fault_drive (s : State) (d : DriveId) (c : FaultCause) : (s.fault d c).drive d = (s.drive d).afterFault c := by
  obtain ⟨n, e⟩ := s.abortChannel_drive d
  rw [State.fault_eq, State.drive_modDrive_self, State.drive, State.faultAnswers_drives]
  exact (congrArg (DriveSeq.afterFault · c) e).trans rfl

theorem State.fault_margins (s : State) (d : DriveId) (c : FaultCause) : s.MarginsBack (s.fault d c) d := by
  refine (s.abortChannel_margins d).of_channel fun e z => ?_
  rw [State.fault_eq]
  exact (s.faultAnswers_aside d).margin e z

/-- The rest of the unit through a fault. -/
theorem State.fault_rest (s : State) (d : DriveId) (c : FaultCause) :
    s.channel.LetGo (s.fault d c).channel d ∧ (s.fault d c).cw = s.cw ∧ (s.fault d c).arrival = s.arrival
      ∧ (s.fault d c).mem = s.mem := by
  have aside := s.faultAnswers_aside d
  have letGo := s.abortChannel_letGo d
  obtain ⟨_, _, _, e⟩ := s.abortChannel_eq d
  rw [State.fault_eq]
  refine ⟨?_, ?_, ?_, ?_⟩
  · show s.channel.LetGo (s.faultAnswers d).channel d
    have flag := aside.flag letGo.flag
    rw [aside.channel] at flag ⊢
    exact ⟨letGo.granted, letGo.gate, letGo.asking, letGo.op, flag⟩
  · exact aside.cw.trans (by rw [e])
  · exact aside.arrival.trans (by rw [e])
  · exact aside.mem.trans (by rw [e])

/-- A desk's request of the queue is answered (R38). -/
theorem State.fault_answers {s : State} {d : DriveId} {r : Request} {l : Line} {b : BufId} {h : Held} (c : FaultCause)
    (here : r ∈ (s.drive d).queue) (origin : r.origin = .desk l) (buffer : r.kind.buffer = some b) (waits : s.Open l b h) :
    (s.fault d c).hasReply l b (.failed .driveFault) := by
  have L := Lasting.settling l b h (.failed .driveFault)
  have K := Lasting.hasReply (.failed .driveFault) l b (.failed .driveFault)
  have start := L.lines (.inl waits) (s.abortChannel_lines d)
  have gone := State.failRequests_answer (d := d) (xs := (s.drive d).queue.filter fun r => r.origin != .volume)
    (mem_desks.mpr ⟨here, fun e => nomatch origin.symm.trans e⟩) origin buffer start
  have keeps := K.faultKeeps d (s.drive d).queue
  rw [State.fault_eq]
  exact K.lines (keeps.drops (keeps.areas gone)) rfl

/-- The readers of a fill of the queue are answered (R38, R101). -/
theorem State.fault_reads {s : State} {d : DriveId} {r : Request} {i : Nat} {rd : Reader} {h : Held} (c : FaultCause)
    (here : r ∈ (s.drive d).queue) (origin : r.origin ≠ .volume) (kind : r.kind = .fill i)
    (reads : rd ∈ ((s.region d).frame i).readers)
    (lone : (s.region d).state ≠ .closing ∨ ∀ x j, x ∈ (s.drive d).queue → x.kind = .fill j → x = r)
    (waits : s.Open rd.line rd.buf h) : (s.fault d c).hasReply rd.line rd.buf (.failed .driveFault) := by
  have L := Lasting.settling rd.line rd.buf h (.failed .driveFault)
  have K := Lasting.hasReply (.failed .driveFault) rd.line rd.buf (.failed .driveFault)
  have start : (s.abortChannel d).Reading d i rd h .driveFault (s.region d).state :=
    .inl ⟨L.lines (.inl waits) (s.abortChannel_lines d), congrArg _ (s.abortChannel_region d d),
      (s.abortChannel_region d d).symm ▸ reads⟩
  have gone := start.answered (xs := (s.drive d).queue.filter fun r => r.origin != .volume) (mem_desks.mpr ⟨here, origin⟩)
    (fun x hx => (mem_desks.mp hx).2) kind (lone.imp id fun (one : ∀ x j, x ∈ (s.drive d).queue → x.kind = .fill j → x = r) x hx j fill => by
      rw [one x j (mem_desks.mp hx).1 fill, kind] at fill
      exact (ReqKind.fill.inj fill).symm)
  have keeps := K.faultKeeps d (s.drive d).queue
  rw [State.fault_eq]
  exact K.lines (keeps.drops (keeps.areas gone)) rfl

/-! ### The volume through a fault (R39) -/

/-- The books of a volume when an INDEX-WRITE of sector `j` has gone (R151). -/
def Volume.uncovered (v : Volume) (j : Nat) : Volume :=
  { v with sectors := v.sectors.set j .dirty,
           waiters := v.waiters.map fun w => if w.sector = j then { w with covered := false } else w }

theorem State.indexRemoved_vol (s : State) (d : DriveId) (j : Nat) : (s.indexRemoved d j).vol d = (s.vol d).uncovered j := by
  rw [State.indexRemoved, State.vol_modVol_self, State.setSector, State.vol_modVol_self]
  rfl

theorem State.prepareFailed_vol (s : State) (d : DriveId) (c : Cause) :
    (s.prepareFailed d c).vol d = (s.vol d).toForeign .incomplete := by
  rw [State.prepareFailed, State.failPending_vol, State.vol_modVol_self]

/-- What a volume request that goes does to its volume. -/
def Volume.dropped (v : Volume) : ReqKind → Volume
  | .indexWrite j => v.uncovered j
  | .prepWrite _ | .formatTrack => v.toForeign .incomplete
  | _ => v

theorem State.dropVolumeRequest_vol (s : State) (d : DriveId) (r : Request) :
    (s.dropVolumeRequest d r).vol d = (s.vol d).dropped r.kind := by
  unfold State.dropVolumeRequest
  cases r.kind <;> dsimp only [Volume.dropped]
  case indexWrite j =>
    split
    · exact (State.emptyTrack_vol ..).trans (s.indexRemoved_vol d j)
    · exact s.indexRemoved_vol d j
  case prepWrite =>
    split
    · exact (State.emptyTrack_vol ..).trans (s.prepareFailed_vol d _)
    · exact s.prepareFailed_vol d _
  case formatTrack => exact (State.emptyTrack_vol ..).trans (s.prepareFailed_vol d _)

/-- What restoring the area of a mount read does to its volume. -/
def Volume.restored (v : Volume) (r : Request) : Volume :=
  match r.kind with
  | .labelRead => { v with labelArea := [] }
  | .indexLoad => { v with staging := v.staging.filter fun e => !(e.1 / r.profile.spt == r.head) }
  | _ => v

theorem State.restoreArea_vol (s : State) (d : DriveId) (r : Request) : (s.restoreArea d r).vol d = (s.vol d).restored r := by
  unfold State.restoreArea Volume.restored
  cases r.kind <;> first | exact State.vol_modVol_self .. | rfl

/-- What the operations of a fault leave of a volume. -/
theorem faultKeeps_vol {V : Volume → Prop} {d : DriveId} {q : List Request}
    (desk : ∀ v g l b, (∃ r ∈ q, ∃ w, r.origin = .desk l ∧ r.kind = .write b w) → V v →
      V { v with heldGranule := g, waiters := v.waiters.filter fun w => !(w.line == l && w.buf == b) })
    (area : ∀ v r, V v → V (v.restored r))
    (drop : ∀ v r, r ∈ q → r.origin = .volume → V v → V (v.dropped r.kind)) : FaultKeeps d q fun t => V (t.vol d) where
  desk t r here _ kept := by
    obtain same | ⟨l, b, w, origin, kind, vol, -⟩ := t.failRequest_vol d .driveFault r
    · exact same ▸ kept
    · rw [vol]
      exact desk _ _ l b ⟨r, here, w, origin, kind⟩ kept
  area t r _ _ kept := by
    show V _
    rw [State.restoreArea_vol]
    exact area _ r kept
  drop t r here volume _ kept := by
    show V _
    rw [State.dropVolumeRequest_vol]
    exact drop _ r here volume kept

theorem faultKeeps_labelArea (d : DriveId) (q : List Request) : FaultKeeps d q fun t => (t.vol d).labelArea = [] := by
  refine faultKeeps_vol (V := fun v => v.labelArea = []) (fun _ _ _ _ _ h => h) (fun v r h => ?_) (fun v r _ _ h => ?_)
  · unfold Volume.restored
    split <;> first | exact h | rfl
  · cases kind : r.kind <;> first | exact h | rfl

theorem faultKeeps_staging (d : DriveId) (q : List Request) (n k : Nat) :
    FaultKeeps d q fun t => ∀ e ∈ (t.vol d).staging, e.1 / n ≠ k := by
  refine faultKeeps_vol (V := fun v => ∀ e ∈ v.staging, e.1 / n ≠ k) (fun _ _ _ _ _ h => h) (fun v r h => ?_) (fun v r _ _ h => ?_)
  · unfold Volume.restored
    split
    · exact h
    · exact fun e here => h e (List.mem_filter.mp here).1
    · exact h
  · cases kind : r.kind <;> first | exact h | exact fun e here => absurd here List.not_mem_nil

/-- The books that a fault leaves a volume whose only writes are INDEX-WRITEs. -/
structure Volume.SameBooks (v w : Volume) : Prop where
  state   : w.state = v.state
  entries : w.entries = v.entries
  free    : w.free = v.free
  profile : w.profile = v.profile
  pending : w.pendingReq = v.pendingReq
  sectors : w.sectors.length = v.sectors.length

/-- Of the volume requests of a queue only INDEX-WRITEs write. -/
def OnlyIndexWrites (q : List Request) : Prop :=
  ∀ r ∈ q, r.origin = .volume → r.kind.isWrite = true → ∃ j, r.kind = .indexWrite j

/-- Besides INDEX-WRITEs no volume request of such a queue changes the volume when it goes. -/
theorem OnlyIndexWrites.dropped {q : List Request} (only : OnlyIndexWrites q) {r : Request} (here : r ∈ q) (volume : r.origin = .volume)
    (v : Volume) : (∃ j, r.kind = .indexWrite j ∧ v.dropped r.kind = v.uncovered j) ∨ v.dropped r.kind = v := by
  cases kind : r.kind
  case indexWrite j => exact .inl ⟨j, rfl, rfl⟩
  case formatTrack | prepWrite =>
    obtain ⟨j, is⟩ := only r here volume (by rw [kind]; rfl)
    exact absurd (kind.symm.trans is) (by simp)
  all_goals exact .inr rfl

theorem OnlyIndexWrites.books {q : List Request} (only : OnlyIndexWrites q) (d : DriveId) (v : Volume) :
    FaultKeeps d q fun t => v.SameBooks (t.vol d) := by
  refine faultKeeps_vol (V := fun w => v.SameBooks w) (fun _ _ _ _ _ h => ⟨h.1, h.2, h.3, h.4, h.5, h.6⟩) (fun w r h => ?_)
    (fun w r here volume h => ?_)
  · unfold Volume.restored
    split
    · exact ⟨h.1, h.2, h.3, h.4, h.5, h.6⟩
    · exact ⟨h.1, h.2, h.3, h.4, h.5, h.6⟩
    · exact h
  · obtain ⟨j, -, e⟩ | e := only.dropped here volume w <;> rw [e]
    · exact ⟨h.1, h.2, h.3, h.4, h.5, by simpa [Volume.uncovered] using h.6⟩
    · exact h

theorem Volume.sector_uncovered (v : Volume) (j k : Nat) :
    (v.uncovered j).sector k = if j = k ∧ k < v.sectors.length then .dirty else v.sector k := by
  simp only [Volume.sector, Volume.uncovered, List.getD_eq_getElem?_getD, List.getElem?_set]
  by_cases e : j = k
  · subst e
    by_cases lt : j < v.sectors.length <;> simp [lt]
  · simp [e]

theorem Volume.uncovered_waiter {v : Volume} {j : Nat} {w : Waiter} (here : w ∈ v.waiters) (sector : w.sector = j) :
    { w with covered := false } ∈ (v.uncovered j).waiters := List.mem_map.mpr ⟨w, here, if_pos sector⟩

theorem OnlyIndexWrites.dirty {q : List Request} (only : OnlyIndexWrites q) (d : DriveId) (j n : Nat) :
    FaultKeeps d q fun t => (t.vol d).sectors.length = n ∧ (j < n → (t.vol d).sector j = .dirty) := by
  refine faultKeeps_vol (V := fun w => w.sectors.length = n ∧ (j < n → w.sector j = .dirty)) (fun _ _ _ _ _ h => h) (fun w r h => ?_)
    (fun w r here volume h => ?_)
  · unfold Volume.restored
    split <;> exact h
  · obtain ⟨k, -, e⟩ | e := only.dropped here volume w <;> rw [e]
    · refine ⟨by simpa [Volume.uncovered] using h.1, fun lt => ?_⟩
      rw [Volume.sector_uncovered]
      split
      · rfl
      · exact h.2 lt
    · exact h

theorem OnlyIndexWrites.uncovered {q : List Request} (only : OnlyIndexWrites q) (d : DriveId) (j : Nat) :
    FaultKeeps d q fun t => ∀ w ∈ (t.vol d).waiters, w.sector = j → w.covered = false := by
  refine faultKeeps_vol (V := fun v => ∀ w ∈ v.waiters, w.sector = j → w.covered = false)
    (fun _ _ _ _ _ h w here => h w (List.mem_filter.mp here).1) (fun w r h => ?_) (fun v r here volume h => ?_)
  · unfold Volume.restored
    split <;> exact h
  · obtain ⟨k, -, e⟩ | e := only.dropped here volume v <;> rw [e]
    · intro w there sector
      obtain ⟨x, held, rfl⟩ := List.mem_map.mp there
      split at sector <;> simp_all
    · exact h

/-- Waiter `w` waits on, covered or not, or uncovered. -/
def Volume.Waits (v : Volume) (w : Waiter) : Prop := w ∈ v.waiters ∨ { w with covered := false } ∈ v.waiters

/-- A waiter whose WRITE is not in the queue waits on. -/
theorem OnlyIndexWrites.waits {q : List Request} (only : OnlyIndexWrites q) (d : DriveId) (w : Waiter)
    (none : ∀ x y, x ∈ q → x.origin = .desk w.line → x.kind ≠ .write w.buf y) :
    (FaultKeeps d q fun t => (t.vol d).Waits w) ∧ FaultKeeps d q fun t => { w with covered := false } ∈ (t.vol d).waiters := by
  have desk (v : Volume) (l : Line) (b : BufId) (write : ∃ r ∈ q, ∃ w, r.origin = .desk l ∧ r.kind = .write b w) (x : Waiter)
      (line : x.line = w.line) (buf : x.buf = w.buf) (here : x ∈ v.waiters) :
      x ∈ v.waiters.filter fun w => !(w.line == l && w.buf == b) := by
    refine List.mem_filter.mpr ⟨here, ?_⟩
    obtain ⟨r, there, y, origin, kind⟩ := write
    rw [line, buf, Bool.not_eq_true', Bool.and_eq_false_iff]
    by_contra both
    obtain ⟨rfl, rfl⟩ : w.line = l ∧ w.buf = b := by simpa using both
    exact none r y there origin kind
  have area (v : Volume) (r : Request) : (v.restored r).waiters = v.waiters := by
    unfold Volume.restored
    split <;> rfl
  have drop (v : Volume) (j : Nat) (x : Waiter) (h : x ∈ v.waiters) :
      x ∈ (v.uncovered j).waiters ∨ { x with covered := false } ∈ (v.uncovered j).waiters := by
    have mapped := List.mem_map_of_mem (f := fun w : Waiter => if w.sector = j then { w with covered := false } else w) h
    split at mapped
    · exact .inr mapped
    · exact .inl mapped
  constructor
  · refine faultKeeps_vol (V := fun v => v.Waits w) (fun v _ l b write h => h.imp (desk v l b write w rfl rfl) (desk v l b write _ rfl rfl))
      (fun v r h => ?_) (fun v r here volume h => ?_)
    · simpa only [Volume.Waits, area] using h
    · obtain ⟨j, -, e⟩ | e := only.dropped here volume v <;> rw [e]
      · obtain held | held := h
        · exact drop v j w held
        · exact .inr ((drop v j _ held).elim id id)
      · exact h
  · refine faultKeeps_vol (V := fun v => { w with covered := false } ∈ v.waiters) (fun v _ l b write h => desk v l b write _ rfl rfl h)
      (fun v r h => ?_) (fun v r here volume h => ?_)
    · exact (area v r).symm ▸ h
    · obtain ⟨j, -, e⟩ | e := only.dropped here volume v <;> rw [e]
      · exact (drop v j _ h).elim id id
      · exact h

/-- A preparation that has ended without success (R126). -/
def Volume.Failed (v : Volume) : Prop :=
  v.state = .foreign ∧ v.foreign = some .incomplete ∧ v.profile = none ∧ v.pendingReq = none

theorem faultKeeps_failed (d : DriveId) (q : List Request) : FaultKeeps d q fun t => (t.vol d).Failed := by
  refine faultKeeps_vol (V := Volume.Failed) (fun _ _ _ _ _ h => h) (fun v r h => ?_) (fun v r _ _ h => ?_)
  · unfold Volume.restored
    split <;> exact h
  · cases kind : r.kind <;> first | exact h | exact ⟨rfl, rfl, rfl, rfl⟩

/-- A request that a preparation waits for a reply of. -/
def State.Preparing (s : State) (d : DriveId) (l : Line) (b : BufId) (clamped : Bool) (h : Held) : Prop :=
  (s.vol d).pendingReq = some (.prepare l b clamped) ∧ s.Settling l b h (.failed .driveFault)
    ∨ s.hasReply l b (.failed .driveFault) ∧ (s.vol d).Failed

/-- A step of a preparation that goes answers the PREPARE VOLUME. -/
theorem State.Preparing.dropped {s : State} {d : DriveId} {l : Line} {b : BufId} {clamped : Bool} {h : Held}
    (x : s.Preparing d l b clamped h) {r : Request} (step : r.kind = .formatTrack ∨ ∃ st, r.kind = .prepWrite st) :
    (s.dropVolumeRequest d r).hasReply l b (.failed .driveFault) ∧ ((s.dropVolumeRequest d r).vol d).Failed := by
  have K := Lasting.hasReply (.failed .driveFault) l b (.failed .driveFault)
  have L := Lasting.settling l b h (.failed .driveFault)
  have failed : ((s.dropVolumeRequest d r).vol d).Failed := by
    rw [State.dropVolumeRequest_vol]
    obtain kind | ⟨st, kind⟩ := step <;> rw [kind] <;> exact ⟨rfl, rfl, rfl, rfl⟩
  refine ⟨?_, failed⟩
  obtain ⟨pending, waits⟩ | ⟨has, -⟩ := x
  · have answered : (s.prepareFailed d .driveFault).hasReply l b (.failed .driveFault) := by
      unfold State.prepareFailed
      rw [pending]
      exact (L.lines (t := s.modVol d fun v => v.toForeign .incomplete) waits rfl).answer
    unfold State.dropVolumeRequest
    obtain kind | ⟨st, kind⟩ := step <;> rw [kind] <;> dsimp only
    · exact K.emptyTrack d _ _ answered
    · split
      · exact K.emptyTrack d _ _ answered
      · exact answered
  · exact K.dropVolumeRequest d r has

theorem faultKeeps_preparing (d : DriveId) (q : List Request) (l : Line) (b : BufId) (clamped : Bool) (h : Held) :
    FaultKeeps d q fun t => t.Preparing d l b clamped h := by
  have K := (Lasting.hasReply (.failed .driveFault) l b (.failed .driveFault)).faultKeeps d q
  have L := (Lasting.settling l b h (.failed .driveFault)).faultKeeps d q
  have F := faultKeeps_failed d q
  constructor
  · intro t r here origin x
    refine x.imp (fun ⟨pending, waits⟩ => ⟨?_, L.desk t r here origin waits⟩)
      fun ⟨has, failed⟩ => ⟨K.desk t r here origin has, F.desk t r here origin failed⟩
    obtain same | ⟨_, _, _, -, -, vol, -⟩ := t.failRequest_vol d .driveFault r
    · rw [same, pending]
    · rw [vol, pending]
  · intro t r here origin x
    refine x.imp (fun ⟨pending, waits⟩ => ⟨?_, L.area t r here origin waits⟩)
      fun ⟨has, failed⟩ => ⟨K.area t r here origin has, F.area t r here origin failed⟩
    rw [State.restoreArea_vol, Volume.restored]
    split <;> exact pending
  · intro t r here origin goes x
    by_cases step : r.kind = .formatTrack ∨ ∃ st, r.kind = .prepWrite st
    · exact .inr (x.dropped step)
    · refine x.imp (fun ⟨pending, waits⟩ => ⟨?_, L.drop t r here origin goes waits⟩)
        fun ⟨has, failed⟩ => ⟨K.drop t r here origin goes has, F.drop t r here origin goes failed⟩
      rw [State.dropVolumeRequest_vol]
      cases kind : r.kind <;> first | exact pending | simp [kind] at step

/-! ### The fault whole -/

/-- What stays of a queue: the mount reads, QUEUED again, and the INDEX-WRITEs that were QUEUED (R39). -/
theorem mem_faultLeaves {q : List Request} {r : Request} : r ∈ faultLeaves q
    ↔ ∃ x ∈ q, x.origin = .volume ∧ x.survives = true ∧ x.requeued = r := by
  simp [faultLeaves, and_left_comm, and_comm]

/-- The command of a fault, taken apart: at most a level of the cable is taken before (R24, R23, R25, R28). -/
theorem exec_fault {s : State} {d : DriveId} {i : Instr} {cause : FaultCause} (live : s.part.extReset = false)
    (which : (i = .speedFault d ∧ cause = .speed ∧ (s.drive d).condition = .ready ∧ (s.drive d).index.miss = 2)
      ∨ (i = .noIndexTimeout d ∧ cause = .noIndex ∧ (s.drive d).condition = .speedCheck ∧ (s.drive d).noIndexTimer = true)
      ∨ ((i = .driveFaultAsserted d ∨ i = .senseLevelChange d .driveFault true) ∧ cause = .driveFault
          ∧ ((s.drive d).condition = .speedCheck ∨ (s.drive d).condition = .ready))
      ∨ (i = .recalStepEnd d ∧ cause = .trackZero ∧ (s.drive d).pos.state = .recalibrating
          ∧ (s.drive d).pos.stepTimer ≠ none ∧ (s.drive d).pos.remaining = 0 ∧ (s.drive d).levels.trackZero = false)) :
    exec i s = .next (s.fault d cause) ∨ exec i s = .next ((s.setSense d .driveFault true).fault d cause) := by
  have rises (condition : (s.drive d).condition = .speedCheck ∨ (s.drive d).condition = .ready) :
      (s.setSense d .driveFault true).driveFaultRises d = (s.setSense d .driveFault true).fault d .driveFault := by
    have same : ((s.setSense d .driveFault true).drive d).condition = (s.drive d).condition := by
      rw [State.setSense, State.drive_modDrive_self]
    unfold State.driveFaultRises
    dsimp only
    rw [same]
    exact if_pos ⟨live, condition⟩
  obtain ⟨rfl, rfl, ready, miss⟩ | ⟨rfl, rfl, check, timer⟩ | ⟨rfl | rfl, rfl, condition⟩
    | ⟨rfl, rfl, recal, step, zero, off⟩ := which
  · exact .inl (by simp [exec, execSpeedFault, ready, miss])
  · exact .inl (by simp [exec, execNoIndexTimeout, live, check, timer])
  · exact .inr (congrArg _ (rises condition))
  · exact .inr (congrArg _ ((if_pos ⟨rfl, rfl⟩).trans (rises condition)))
  · exact .inl (by simp [exec, execRecalStepEnd, recal, Option.isSome_iff_ne_none.mpr step, zero, off])

/-- Settles O40: the fault taken apart, each clause by its lemma. -/
theorem faultEndsServiceAndKeepsTheVolume : Obligations.FaultEndsServiceAndKeepsTheVolume := by
  unfold Obligations.FaultEndsServiceAndKeepsTheVolume
  intro s d i cause live which
  obtain ⟨u, run, f, start⟩ : ∃ u, exec i s = .next (u.fault d cause)
      ∧ ∃ f : DriveLevels → DriveLevels, u = s.modDrive d fun x => { x with levels := f x.levels } := by
    obtain run | run := exec_fault live which
    · refine ⟨s, run, id, ?_⟩
      have same : s.drives.set d.val (s.drive d) d.isLt = s.drives := Vector.set_getElem_self d.isLt
      exact (congrArg (fun v => ({ s with drives := v } : State)) same).symm
    · exact ⟨_, run, fun v => senseSet v .driveFault true, rfl⟩
  refine ⟨_, run, ?_⟩
  have drive : u.drive d = { s.drive d with levels := f (s.drive d).levels } := by rw [start]; exact State.drive_modDrive_self ..
  have queue : (u.drive d).queue = (s.drive d).queue := by rw [drive]
  have vol : u.vol d = s.vol d := by rw [start]; rfl
  have region : u.region d = s.region d := by rw [start]; rfl
  have buffer (l : Line) (b : BufId) : u.buffer l b = s.buffer l b := by rw [start]; rfl
  have within : s.Within (u.fault d cause) d := by
    rw [start]
    exact State.Within.fault (State.Within.modDrive (State.Within.refl s d) _) cause
  have waits {l : Line} {b : BufId} {h : Held} (progress : s.InProgress l b h) (reply : h.reply = none) : u.Open l b h :=
    ⟨(buffer l b).trans progress.1, progress.2.1, progress.2.2, reply⟩
  have after : (u.fault d cause).drive d = (u.drive d).afterFault cause := u.fault_drive d cause
  have left : ((u.fault d cause).drive d).queue = faultLeaves (s.drive d).queue := by
    rw [after, DriveSeq.afterFault, queue]
  have volume : (u.fault d cause).vol d = (u.faultAnswers d).vol d := by rw [State.fault_eq]; rfl
  have before : (u.abortChannel d).vol d = s.vol d := (u.abortChannel_vol d d).trans vol
  obtain ⟨letGo, claims, arrival, mem⟩ := u.fault_rest d cause
  obtain ⟨gate, -⟩ := State.outputs_of_not_granted letGo.not_granted
  refine ⟨by rw [after]; rfl, by rw [after]; rfl, by rw [after]; rfl, by rw [after]; rfl, by rw [after]; rfl, by rw [after]; rfl,
    letGo.not_granted, gate, letGo.asking, letGo.op, letGo.flag, ?_, ?_, ?_, ?_, ?_, ?_, ?_, ?_, within.others, within.cfg,
    within.clock, within.part, ?_, ?_, ?_, ?_⟩
  · rw [left]
    exact fun x => kept_of_mem_faultLeaves
  · intro r here origin queued kind
    rw [left]
    refine mem_faultLeaves.mpr ⟨r, here, origin, ?_, by simp [Request.requeued, queued]⟩
    obtain kind | kind | ⟨j, kind⟩ := kind <;> simp [Request.survives, kind, queued]
  · intro r here origin selected kind
    refine ⟨?_, fun label => ?_, fun load => ?_⟩
    · rw [left]
      refine mem_faultLeaves.mpr ⟨r, here, origin, ?_, by simp [Request.requeued, selected]⟩
      obtain kind | kind := kind <;> simp [Request.survives, kind]
    · rw [volume]
      refine FaultKeeps.reachesArea (P := fun _ => True) ⟨fun _ _ _ _ => id, fun _ _ _ _ => id, fun _ _ _ _ _ => id⟩
        (faultKeeps_labelArea d _) (queue ▸ here) origin selected (fun t _ => ?_) trivial
      rw [State.restoreArea_vol, Volume.restored, label]
    · rw [volume]
      refine FaultKeeps.reachesArea (P := fun _ => True) ⟨fun _ _ _ _ => id, fun _ _ _ _ => id, fun _ _ _ _ _ => id⟩
        (faultKeeps_staging d _ r.profile.spt r.head) (queue ▸ here) origin selected (fun t _ e there => ?_) trivial
      rw [State.restoreArea_vol, Volume.restored, load] at there
      simpa using (List.mem_filter.mp there).2
  · exact fun r l b h here origin kind progress reply =>
      State.fault_answers cause (queue ▸ here) origin kind (waits progress reply)
  · exact fun r k rd h here origin kind reads lone progress reply =>
      State.fault_reads cause (queue ▸ here) origin kind (region ▸ reads) (by rw [region, queue]; exact lone) (waits progress reply)
  · have back := u.fault_margins d cause
    rw [start] at back ⊢
    exact back
  · rw [claims, start]
    rfl
  · rw [after, drive]
    rfl
  · rw [mem, start]
    rfl
  · rw [arrival, start]
    rfl
  · intro only
    have only : OnlyIndexWrites (u.drive d).queue := fun r here => only r (queue ▸ here)
    have books : (s.vol d).SameBooks ((u.faultAnswers d).vol d) :=
      (only.books d (s.vol d)).answers (s := u) (by rw [before]; exact ⟨rfl, rfl, rfl, rfl, rfl, rfl⟩)
    rw [volume]
    refine ⟨books.state, books.entries, books.free, books.profile, books.pending, fun r j here origin kind selected => ?_⟩
    have goes : r.survives = false := by simp [Request.survives, kind, selected]
    have here' : r ∈ (u.drive d).queue := queue ▸ here
    have dropped (t : State) : (t.dropVolumeRequest d r).vol d = (t.vol d).uncovered j := by
      rw [State.dropVolumeRequest_vol, kind]
      rfl
    refine ⟨fun x there index => ?_, fun lt => ?_, ?_, fun w waiting sector none => ?_⟩
    · rw [left] at there
      obtain ⟨y, held, -, stays, rfl⟩ := mem_faultLeaves.mp there
      have kind' : y.requeued.kind = y.kind := by
        unfold Request.requeued
        split <;> rfl
      have queued : y.state = .queued := by simpa [Request.survives, kind' ▸ index] using stays
      rwa [Request.requeued, if_pos queued]
    · refine (FaultKeeps.reachesDrop (P := fun t => (s.vol d).SameBooks (t.vol d)) (only.books d (s.vol d))
        (only.dirty d j (s.vol d).sectors.length) here' origin goes (fun t same => ?_)
        (by rw [before]; exact ⟨rfl, rfl, rfl, rfl, rfl, rfl⟩)).2 lt
      rw [dropped, Volume.sector_uncovered]
      exact ⟨by simpa [Volume.uncovered] using same.sectors, fun lt => if_pos ⟨rfl, same.sectors ▸ lt⟩⟩
    · refine FaultKeeps.reachesDrop (P := fun _ => True) ⟨fun _ _ _ _ => id, fun _ _ _ _ => id, fun _ _ _ _ _ => id⟩
        (only.uncovered d j) here' origin goes (fun t _ w there sector => ?_) trivial
      rw [dropped] at there
      obtain ⟨x, -, rfl⟩ := List.mem_map.mp there
      split at sector <;> simp_all
    · obtain ⟨P, Q⟩ := only.waits d w fun x y here => none x y (queue ▸ here)
      refine FaultKeeps.reachesDrop P Q here' origin goes (fun t waits => ?_) (by rw [before]; exact .inl waiting)
      rw [dropped]
      obtain held | held := waits
      · exact Volume.uncovered_waiter held sector
      · exact Volume.uncovered_waiter (w := { w with covered := false }) held sector
  · intro r l b h clamped here origin step pending progress reply
    have goes : r.survives = false := by obtain kind | ⟨st, kind⟩ := step <;> simp [Request.survives, kind]
    have K := (Lasting.hasReply (.failed .driveFault) l b (.failed .driveFault)).faultKeeps d (u.drive d).queue
    have F := faultKeeps_failed d (u.drive d).queue
    have done : (u.faultAnswers d).hasReply l b (.failed .driveFault) ∧ ((u.faultAnswers d).vol d).Failed :=
      FaultKeeps.reachesDrop (faultKeeps_preparing d _ l b clamped h)
        (K.and F) (queue ▸ here) origin goes (fun t x => x.dropped step)
        (.inl ⟨by rw [before]; exact pending, (Lasting.settling l b h _).lines (.inl (waits progress reply)) (u.abortChannel_lines d)⟩)
    rw [volume]
    refine ⟨?_, done.2⟩
    rw [State.fault_eq]
    exact (Lasting.hasReply (.failed .driveFault) l b (.failed .driveFault)).lines done.1 rfl

/-! ### CLEAR DRIVE (R40) -/

/-- A queue that a fault has left loses nothing in another. -/
theorem faultLeaves_of_kept {q : List Request} (kept : ∀ r ∈ q, r.Kept) : faultLeaves q = q := by
  have volume : (q.filter fun r => r.origin == .volume) = q :=
    List.filter_eq_self.mpr fun r here => by simp [(kept r here).1]
  have survives : q.filter Request.survives = q := List.filter_eq_self.mpr fun r here => by
    obtain ⟨-, queued, kind | kind | ⟨j, kind⟩⟩ := kept r here <;> simp [Request.survives, kind, queued]
  have requeued : ∀ r ∈ q, r.requeued = id r := fun r here => if_pos (kept r here).2.1
  rw [faultLeaves, volume, survives, List.map_congr_left requeued, List.map_id]

/-- A fault of a drive with such a queue answers nobody. -/
theorem State.faultAnswers_of_kept {s : State} {d : DriveId} (kept : ∀ r ∈ (s.drive d).queue, r.Kept) :
    s.faultAnswers d = s.abortChannel d := by
  have desks : ((s.drive d).queue.filter fun r => r.origin != .volume) = [] :=
    List.filter_eq_nil_iff.mpr fun r here => by simp [(kept r here).1]
  have areas : (((s.drive d).queue.filter fun r => r.origin == .volume).filter fun r => r.state != .queued) = [] :=
    List.filter_eq_nil_iff.mpr fun r here => by simp [(kept r (List.mem_filter.mp here).1).2.1]
  have drops : (((s.drive d).queue.filter fun r => r.origin == .volume).filter fun r => !r.survives) = [] :=
    List.filter_eq_nil_iff.mpr fun r here => by
      obtain ⟨-, queued, kind | kind | ⟨j, kind⟩⟩ := kept r (List.mem_filter.mp here).1 <;> simp [Request.survives, kind, queued]
  rw [State.faultAnswers_eq, drops, State.faultAreas, areas, State.faultDesks, desks]
  rfl

/-- An answer depends on the lines and on what a line unit sees of the rest. -/
theorem State.answer_lines_congr {s t : State} (lines : t.lines = s.lines) {l : Line} (ctx : t.lineCtx l = s.lineCtx l) (b : BufId)
    (r : Reply) : (t.answer l b r).lines = (s.answer l b r).lines := by
  simp only [State.answer, State.modLine, State.line, lines, ctx]

theorem State.abortChannel_regions (s : State) (d : DriveId) : (s.abortChannel d).regions = s.regions := by
  obtain ⟨_, _, _, e⟩ := s.abortChannel_eq d
  rw [e]

theorem State.Waiting.hasReply_replied {s : State} {l : Line} {b : BufId} {code : Byte} {h : Held} (w : s.Waiting l b code h)
    (r : Reply) : (s.replied l b h r).hasReply l b r := by
  rw [← w.answer]
  refine State.hasReply_answer (h := { h with taken := true }) r ?_ w.stage w.owned
  show ((s.takenBy l b h).line l).bufs.get b = _
  rw [State.takenBy, State.line_modLine_self, LineUnit.setBuf_get_self]

/-- Settles O35. -/
theorem clearDriveLeavesFaulted : Obligations.ClearDriveLeavesFaulted := by
  unfold Obligations.ClearDriveLeavesFaulted
  intro s l b h w
  refine ⟨fun none => ?_, fun d drive => ⟨fun off => ?_, fun other => ?_, fun faulted low => ?_, fun faulted ready quiet => ?_,
    fun faulted ready fault queues => ?_⟩⟩
  · refine w.replies ?_
    simp only [none]
    rfl
  · refine w.replies ?_
    simp only [drive, State.takenBy_drive, off]
    rfl
  · refine w.replies ?_
    obtain c | c | c := other <;> simp only [drive, State.takenBy_drive, c] <;> rfl
  · refine congrArg Host.Outcome.next ((w.onRequest _).trans ?_)
    simp only [drive, State.takenBy_drive, faulted, State.enterByReady, low, Bool.false_eq_true, if_false, State.answer_modDrive]
    exact congrArg (State.modDrive · d _) (w.answer _)
  · refine congrArg Host.Outcome.next ((w.onRequest _).trans ?_)
    simp only [drive, State.takenBy_drive, faulted, State.enterByReady, ready, if_true, State.enterSpeedCheck, quiet,
      Bool.false_eq_true, if_false, State.answer_modDrive]
    exact congrArg (State.modDrive · d _) (w.answer _)
  · have run : exec (.clearDrive l b) s = .next ((((s.takenBy l b h).modDrive d fun u =>
        { u with condition := .speedCheck, index := clearedTiming, noIndexTimer := true }).fault d .driveFault).answer l b (.ok [])) := by
      refine congrArg Host.Outcome.next ((w.onRequest _).trans ?_)
      simp only [drive, State.takenBy_drive, faulted, State.enterByReady, ready, if_true, State.enterSpeedCheck, fault]
    refine ⟨_, run, ?_⟩
    generalize start : ((s.takenBy l b h).modDrive d fun u =>
      { u with condition := .speedCheck, index := clearedTiming, noIndexTimer := true }) = u
    have at_d : u.drive d = { s.drive d with condition := .speedCheck, index := clearedTiming, noIndexTimer := true } := by
      rw [← start, State.drive_modDrive_self, State.takenBy_drive]
    have kept : ∀ r ∈ (u.drive d).queue, r.Kept := by
      rw [at_d]
      exact queues d faulted
    have whole : u.fault d .driveFault = (u.abortChannel d).modDrive d fun x => x.afterFault .driveFault := by
      rw [State.fault_eq, State.faultAnswers_of_kept kept]
    have after : (u.fault d .driveFault).drive d = (u.drive d).afterFault .driveFault := u.fault_drive d _
    have within : s.Within ((u.fault d .driveFault).answer l b (.ok [])) d := by
      rw [← start]
      exact State.Within.answer (State.Within.fault (State.Within.modDrive
        (State.Within.modLine (State.Within.refl s d) l _) _) .driveFault) l b _
    have lines : ((u.fault d .driveFault).answer l b (.ok [])).lines = (s.replied l b h (.done false false [])).lines := by
      rw [← State.Waiting.answer w]
      refine State.answer_lines_congr ?_ ?_ b _
      · rw [whole, ← start]
        exact State.abortChannel_lines _ d
      · obtain ⟨_, _, _, e⟩ := u.abortChannel_eq d
        rw [whole, e, ← start]
        rfl
    refine ⟨by rw [State.answer_drive, after]; rfl, by rw [State.answer_drive, after]; rfl, ?_, lines, ?_,
      by rw [State.answer_drive, after]; rfl, by rw [State.answer_drive, after]; rfl, ?_, ?_, ?_, within.others⟩
    · exact (Lasting.hasReply (.done false false []) l b _).lines (w.hasReply_replied _) lines
    · rw [State.answer_drive, after, DriveSeq.afterFault, faultLeaves_of_kept kept, at_d]
    · rw [State.answer_vols, whole, ← start]
      exact State.abortChannel_vols _ d
    · rw [State.answer_regions, whole, ← start]
      exact State.abortChannel_regions _ d
    · rw [State.answer_cw, (u.fault_rest d .driveFault).2.1, ← start]
      rfl

end Sys2Proof.Machine
end

section
/-! Settlement of the statements on CONFIGURE (section 10.2). -/
namespace Sys2Proof.Machine

/-! ### The nearest legal value (R188, second pass) -/

/-- `x` is at least as near to `v` as `y`, and the lower of two as near. -/
def AsNear (v x y : Nat) : Prop :=
  cylinderDistance v x < cylinderDistance v y ∨ (cylinderDistance v x = cylinderDistance v y ∧ x ≤ y)

theorem AsNear.refl (v x : Nat) : AsNear v x x := .inr ⟨rfl, le_rfl⟩

theorem AsNear.trans {v x y z : Nat} (a : AsNear v x y) (b : AsNear v y z) : AsNear v x z := by
  unfold AsNear at *
  omega

/-- The search through the rest of an ascending list, from its best value so far. -/
theorem nearest_rest (v : Nat) (rest : List Nat) (best : Nat) (above : ∀ y ∈ rest, best < y) (rising : rest.Pairwise (· < ·)) :
    let found := rest.foldl (fun best y => if cylinderDistance v y < cylinderDistance v best then y else best) best
    found ∈ best :: rest ∧ ∀ y ∈ best :: rest, AsNear v found y := by
  induction rest generalizing best with
  | nil => exact ⟨List.mem_singleton.mpr rfl, fun y here => (List.mem_singleton.mp here) ▸ AsNear.refl v best⟩
  | cons x rest ih =>
    obtain ⟨low, rising⟩ := List.pairwise_cons.mp rising
    have head := above x (List.mem_cons_self ..)
    rw [List.foldl_cons]
    by_cases nearer : cylinderDistance v x < cylinderDistance v best
    · rw [if_pos nearer]
      obtain ⟨here, near⟩ := ih x low rising
      refine ⟨List.mem_cons_of_mem _ here, fun y held => ?_⟩
      obtain rfl | later := List.mem_cons.mp held
      · exact (near x (List.mem_cons_self ..)).trans (.inl nearer)
      · exact near y later
    · rw [if_neg nearer]
      obtain ⟨here, near⟩ := ih best (fun y held => above y (List.mem_cons_of_mem _ held)) rising
      refine ⟨?_, fun y held => ?_⟩
      · obtain same | later := List.mem_cons.mp here
        · rw [same]
          exact List.mem_cons_self ..
        · exact List.mem_cons_of_mem _ (List.mem_cons_of_mem _ later)
      have first := near best (List.mem_cons_self ..)
      obtain rfl | later := List.mem_cons.mp held
      · exact first
      · obtain rfl | last := List.mem_cons.mp later
        · refine first.trans ?_
          unfold AsNear
          omega
        · exact near y (List.mem_cons_of_mem _ last)

theorem nearest_spec (v : Nat) {xs : List Nat} (some : xs ≠ []) (rising : xs.Pairwise (· < ·)) :
    nearest v xs ∈ xs ∧ ∀ y ∈ xs, AsNear v (nearest v xs) y := by
  cases xs with
  | nil => exact absurd rfl some
  | cons x rest =>
    obtain ⟨above, rising⟩ := List.pairwise_cons.mp rising
    exact nearest_rest v rest x above rising

theorem nearest_mem (v : Nat) {xs : List Nat} (some : xs ≠ []) : nearest v xs ∈ xs := by
  cases xs with
  | nil => exact absurd rfl some
  | cons x rest =>
    have kept (ys : List Nat) (best : Nat) (sub : ∀ y ∈ ys, y ∈ x :: rest) (here : best ∈ x :: rest) :
        ys.foldl (fun best y => if cylinderDistance v y < cylinderDistance v best then y else best) best ∈ x :: rest := by
      induction ys generalizing best with
      | nil => exact here
      | cons y ys ih =>
        refine ih _ (fun z h => sub z (List.mem_cons_of_mem _ h)) ?_
        dsimp only
        split
        · exact sub y (List.mem_cons_self ..)
        · exact here
    exact kept rest x (fun y h => List.mem_cons_of_mem _ h) (List.mem_cons_self ..)

/-! ### A legal record (Table 10-1) -/

/-- A configuration record as Table 10-1 has it. -/
def ConfigRecord.Legal (c : ConfigRecord) : Prop :=
  10 ≤ c.silence ∧ c.silence ≤ 600 ∧ c.stepPeriod ∈ [3000, 6000, 10000, 15000]
    ∧ (10000 ≤ c.settle ∧ c.settle ≤ 30000 ∧ c.settle % 1000 = 0)
    ∧ (20000 ≤ c.headLoad ∧ c.headLoad ≤ 60000 ∧ c.headLoad % 5000 = 0)
    ∧ 1 ≤ c.unloadDelay ∧ c.unloadDelay ≤ 15 ∧ 30 ≤ c.innerStart ∧ c.innerStart ≤ 76 ∧ c.precomp ∈ [0, 125, 250]
    ∧ c.strobeMin.code ≤ c.strobeMax.code ∧ 1 ≤ c.bypass ∧ c.bypass ≤ 15 ∧ 1 ≤ c.period ∧ c.period ≤ 16

/-- An item taken or standing meets what both meet. -/
theorem pickNat_meets {P : Nat → Prop} {old : Nat} {f : Nat → Nat} (new : ∀ v, P (f v)) (standing : P old) (body : List Byte)
    (off : Nat) (two : Bool) : P (pickNat body off old f two) := by
  unfold pickNat
  split
  · exact new _
  · exact standing

theorem clampTo_meets {lo hi : Nat} (range : lo ≤ hi) (v : Nat) : lo ≤ clampTo lo hi v ∧ clampTo lo hi v ≤ hi := by
  unfold clampTo
  omega

theorem settle_meets (v : Nat) : 10000 ≤ nearest v settleValues ∧ nearest v settleValues ≤ 30000
    ∧ nearest v settleValues % 1000 = 0 := by
  obtain ⟨i, below, e⟩ := List.mem_map.mp (nearest_mem v (xs := settleValues) (by simp [settleValues]))
  have := List.mem_range.mp below
  omega

theorem headLoad_meets (v : Nat) : 20000 ≤ nearest v headLoadValues ∧ nearest v headLoadValues ≤ 60000
    ∧ nearest v headLoadValues % 5000 = 0 := by
  obtain ⟨i, below, e⟩ := List.mem_map.mp (nearest_mem v (xs := headLoadValues) (by simp [headLoadValues]))
  have := List.mem_range.mp below
  omega

theorem laterStrobe_le (a b : Strobe) : a.code ≤ (laterStrobe a b).code := by cases a <;> cases b <;> decide

/-- The allowed strobe range of a record taken is a range. -/
theorem ConfigRecord.taken_range (c : ConfigRecord) (body : List Byte) (standing : c.strobeMin.code ≤ c.strobeMax.code
    ∨ (c.taken body).strobeMin ≠ c.strobeMin ∨ (c.taken body).strobeMax ≠ c.strobeMax) :
    (c.taken body).strobeMin.code ≤ (c.taken body).strobeMax.code := by
  by_cases given : flagAt body offStrobe = true
  · simp only [ConfigRecord.taken, given, if_true]
    exact laterStrobe_le _ _
  · simp only [ConfigRecord.taken, given, Bool.false_eq_true, if_false, ne_eq, not_true_eq_false, or_self, or_false] at standing ⊢
    exact standing

/-- The record taken is legal (R188). -/
theorem ConfigRecord.Legal.taken {c : ConfigRecord} (legal : c.Legal) (body : List Byte) : (c.taken body).Legal := by
  obtain ⟨silenceLow, silenceHigh, step, settle, load, unloadLow, unloadHigh, innerLow, innerHigh, precomp, strobes, bypassLow,
    bypassHigh, periodLow, periodHigh⟩ := legal
  have silence := pickNat_meets (P := fun n => 10 ≤ n ∧ n ≤ 600) (clampTo_meets (by omega)) ⟨silenceLow, silenceHigh⟩ body offSilence true
  have unload := pickNat_meets (P := fun n => 1 ≤ n ∧ n ≤ 15) (clampTo_meets (by omega)) ⟨unloadLow, unloadHigh⟩ body offUnload false
  have inner := pickNat_meets (P := fun n => 30 ≤ n ∧ n ≤ 76) (clampTo_meets (by omega)) ⟨innerLow, innerHigh⟩ body offInner false
  have bypass := pickNat_meets (P := fun n => 1 ≤ n ∧ n ≤ 15) (clampTo_meets (by omega)) ⟨bypassLow, bypassHigh⟩ body offBypass false
  have period := pickNat_meets (P := fun n => 1 ≤ n ∧ n ≤ 16) (clampTo_meets (by omega)) ⟨periodLow, periodHigh⟩ body offPeriod false
  have settle := pickNat_meets (P := fun n => 10000 ≤ n ∧ n ≤ 30000 ∧ n % 1000 = 0) settle_meets settle body offSettle true
  have load := pickNat_meets (P := fun n => 20000 ≤ n ∧ n ≤ 60000 ∧ n % 5000 = 0) headLoad_meets load body offHeadLoad true
  exact ⟨silence.1, silence.2,
    pickNat_meets (fun v => nearest_mem v (xs := stepValues) (by simp [stepValues])) step body offStep true,
    settle, load,
    unload.1, unload.2, inner.1, inner.2,
    pickNat_meets (fun v => nearest_mem v (xs := precompValues) (by simp [precompValues])) precomp body offPrecomp true,
    c.taken_range body (.inl strobes), bypass.1, bypass.2, period.1, period.2⟩

/-- Settles O31. -/
theorem configureTakesALegalRecord : Obligations.ConfigureTakesALegalRecord := by
  unfold Obligations.ConfigureTakesALegalRecord
  refine ⟨fun c body => ⟨fun r => ?_, fun legal _ => ConfigRecord.Legal.taken legal body⟩, fun v xs some rising => nearest_spec v some rising⟩
  show (defaultConfig r).Legal
  simp [ConfigRecord.Legal, defaultConfig, Strobe.code]

/-! ### The record applied (R188) -/

/-- A record taken by the blocks, but for the drives in use (R62, R81, R89). -/
def State.configured (s : State) (new : ConfigRecord) : State :=
  { s with
    cfg := new
    drives := s.drives.map fun u => u.reconfigured new.bypass (s.cfg.period != new.period)
    channel := if s.cfg.strobeMin = new.strobeMin ∧ s.cfg.strobeMax = new.strobeMax then s.channel
      else (State.adjustMargins { s with cfg := new }).channel }

theorem State.applyConfig_eq (s : State) (new : ConfigRecord) :
    s.applyConfig new = (s.configured new).eachDrive fun t d => t.applyInUse s.cfg.drivesInUse d := by
  unfold State.applyConfig State.configured
  dsimp only
  rw [State.eachDrive_modDrive]
  split <;> rfl

theorem State.configured_drive (s : State) (new : ConfigRecord) (d : DriveId) : (s.configured new).drive d
    = { s.drive d with
        queue := (s.drive d).queue.map fun r => { r with passed := min new.bypass r.passed }
        patternStep := if new.period = s.cfg.period then (s.drive d).patternStep else 0 } := by
  refine (State.drive_mapDrives { s with cfg := new } _ d).trans ?_
  unfold DriveSeq.reconfigured
  by_cases same : new.period = s.cfg.period
  · simp [same, State.drive]
  · simp [same, Ne.symm same, State.drive]

theorem State.configured_margin (s : State) (new : ConfigRecord) (d : DriveId) (z : Zone) : (s.configured new).margin d z
    = if new.strobeMin = s.cfg.strobeMin ∧ new.strobeMax = s.cfg.strobeMax then s.margin d z
      else (s.margin d z).adjust new.strobeMin new.strobeMax := by
  have turned : (s.cfg.strobeMin = new.strobeMin ∧ s.cfg.strobeMax = new.strobeMax)
      ↔ new.strobeMin = s.cfg.strobeMin ∧ new.strobeMax = s.cfg.strobeMax := by rw [eq_comm, @eq_comm _ s.cfg.strobeMax]
  simp only [State.configured, turned]
  split
  · cases z <;> rfl
  · cases z <;> simp [State.margin, State.adjustMargins, State.modChannel, Vector.get] <;> rfl

theorem State.configured_op (s : State) (new : ConfigRecord) (d : DriveId) : (s.configured new).op d
    = if new.strobeMin = s.cfg.strobeMin ∧ new.strobeMax = s.cfg.strobeMax then s.op d
      else (s.op d).map fun o => { o with undo := o.undo.map fun x => (x.1, x.2.adjust new.strobeMin new.strobeMax) } := by
  have turned : (s.cfg.strobeMin = new.strobeMin ∧ s.cfg.strobeMax = new.strobeMax)
      ↔ new.strobeMin = s.cfg.strobeMin ∧ new.strobeMax = s.cfg.strobeMax := by rw [eq_comm, @eq_comm _ s.cfg.strobeMax]
  simp only [State.configured, turned]
  split
  · rfl
  · simp only [State.op, State.adjustMargins, State.modChannel, Vector.get, OpRecord.adjustUndo]
    simp only [Vector.toArray_ofFn, Array.getElem_ofFn]
    rfl

/-- Besides the margin records the channel does not see a new record. -/
theorem State.configured_channel (s : State) (new : ConfigRecord) : (s.configured new).channel = { s.channel with
    outer := (s.configured new).channel.outer, inner := (s.configured new).channel.inner, ops := (s.configured new).channel.ops } := by
  unfold State.configured
  dsimp only
  split <;> rfl

theorem State.modLine_modLine (s : State) (l : Line) (f g : LineUnit → LineUnit) :
    (s.modLine l f).modLine l g = s.modLine l fun u => g (f u) := by
  rw [State.modLine, State.line_modLine_self]
  simp only [State.modLine, Vector.set_set]

/-- Whether its reply goes at the old rate is noted with a CONFIGURE before it is answered (R182 item 1). -/
theorem State.Waiting.answer_keepRate {s : State} {l : Line} {b : BufId} {code : Byte} {h : Held} (w : s.Waiting l b code h)
    (changed : Bool) (r : Reply) :
    ((s.takenBy l b h).keepRate l b changed).answer l b r = s.replied l b { h with oldRate := changed } r := by
  have noted : (s.modLine l fun u => u.setBuf b (some { h with oldRate := changed })).Waiting l b code
      { h with oldRate := changed } := by
    refine ⟨w.live, ?_, w.named, w.stage, w.untaken, w.owned, ?_⟩
    · show ((State.modLine s l _).line l).bufs.get b = _
      rw [State.line_modLine_self, LineUnit.setBuf_get_self]
    · rw [State.line_modLine_self]
      exact w.sending
  have same : (s.takenBy l b h).keepRate l b changed
      = (s.modLine l fun u => u.setBuf b (some { h with oldRate := changed })).takenBy l b { h with oldRate := changed } := by
    simp only [State.takenBy, State.keepRate, State.modLine_modLine, LineUnit.setBuf_get_self, LineUnit.setBuf_setBuf]
  rw [same, noted.answer, State.replied, State.modLine_modLine, State.replied]
  refine State.modLine_congr ?_
  simp only [LineUnit.replied, LineUnit.setBuf, Vector.set_set]
  rfl

/-- The DONE reply of a CONFIGURE joins its line's order before the record is applied (R188, R182 item 1). -/
theorem State.Waiting.configure {s : State} {l : Line} {b : BufId} {h : Held} (w : s.Waiting l b codeConfigure h)
    (legal : configRefused h.body = false) : exec (.configure l b) s = .next ((s.replied l b
      { h with oldRate := decide (s.cfg.rates.get l ≠ (s.cfg.taken h.body).rates.get l) }
      (.done ((clampedItems h.body).any id) false ((s.cfg.taken h.body).encode ++ be2 (setNat (clampedItems h.body))))).applyConfig
        (s.cfg.taken h.body)) := by
  refine congrArg Host.Outcome.next ((w.onRequest _).trans ?_)
  simp only [legal, Bool.false_eq_true, if_false, State.takenBy_cfg]
  have changed : (s.cfg.rates.get l != (s.cfg.taken h.body).rates.get l)
      = decide (s.cfg.rates.get l ≠ (s.cfg.taken h.body).rates.get l) := by
    rw [Bool.eq_iff_iff]
    simp
  rw [w.answer_keepRate, configReply, changed]

/-- A change of the drives in use that leaves a drive as it is does nothing to it. -/
theorem State.applyInUse_same {s : State} {before : BitVec 4} {d : DriveId} (same : before.getLsbD d.val = s.cfg.drivesInUse.getLsbD d.val) :
    s.applyInUse before d = s := by
  simp only [State.applyInUse, driveInUse, same, Bool.and_not_self, Bool.not_and_self, Bool.false_eq_true, if_false]

/-- Settles O32. -/
theorem configureAppliesTheRecord : Obligations.ConfigureAppliesTheRecord := by
  unfold Obligations.ConfigureAppliesTheRecord
  intro s l b h w
  refine ⟨fun refused => ?_, ?_⟩
  · refine w.replies ?_
    simp only [refused, if_true]
    rfl
  · intro legal absent new
    have sameDrives : new.drivesInUse = s.cfg.drivesInUse := by
      simp [new, ConfigRecord.taken, flagAt, offDrives, absent]
    refine ⟨_, w.configure legal, ?_⟩
    have none : (s.replied l b { h with oldRate := decide (s.cfg.rates.get l ≠ new.rates.get l) }
        (.done ((clampedItems h.body).any id) false (new.encode ++ be2 (setNat (clampedItems h.body))))).applyConfig new
        = (s.replied l b { h with oldRate := decide (s.cfg.rates.get l ≠ new.rates.get l) }
        (.done ((clampedItems h.body).any id) false (new.encode ++ be2 (setNat (clampedItems h.body))))).configured new := by
      rw [State.applyConfig_eq]
      exact State.eachDrive_id fun d => State.applyInUse_same (congrArg (BitVec.getLsbD · d.val) sameDrives.symm)
    rw [none]
    exact ⟨rfl, sameDrives, rfl, State.configured_drive _ new, State.configured_margin _ new, State.configured_op _ new,
      State.configured_channel _ new, rfl⟩

/-! ### A drive taken out of use or brought back (R20) -/

theorem State.Within.applyInUse {s t : State} {d : DriveId} (h : s.Within t d) (before : BitVec 4) :
    s.Within (t.applyInUse before d) d := by
  unfold State.applyInUse
  dsimp only
  split
  · exact h.takeOffline
  · split
    · exact h.enterByReady
    · exact h

/-- The three things that a change of the drives in use can do to a drive. -/
theorem State.applyInUse_cases (s : State) (before : BitVec 4) (d : DriveId) :
    (before.getLsbD d.val = true ∧ s.cfg.drivesInUse.getLsbD d.val = false ∧ s.applyInUse before d = s.takeOffline d)
      ∨ (before.getLsbD d.val = false ∧ s.cfg.drivesInUse.getLsbD d.val = true ∧ s.applyInUse before d = s.enterByReady d)
      ∨ s.applyInUse before d = s := by
  unfold State.applyInUse driveInUse
  cases s.part.straps.drivesPresent.get d <;> cases old : before.getLsbD d.val <;>
    cases new : s.cfg.drivesInUse.getLsbD d.val <;> simp

/-- A strap-set drive that leaves the set in use is removed (R20 item 1). -/
theorem State.applyInUse_off {s : State} {before : BitVec 4} {d : DriveId} (present : s.part.straps.drivesPresent.get d = true)
    (was : before.getLsbD d.val = true) (now : s.cfg.drivesInUse.getLsbD d.val = false) :
    s.applyInUse before d = s.takeOffline d := by
  simp only [State.applyInUse, driveInUse, present, was, now, Bool.and_true, Bool.and_false, Bool.not_false, if_true]

theorem State.applyInUse_on {s : State} {before : BitVec 4} {d : DriveId} (present : s.part.straps.drivesPresent.get d = true)
    (was : before.getLsbD d.val = false) (now : s.cfg.drivesInUse.getLsbD d.val = true) :
    s.applyInUse before d = s.enterByReady d := by
  simp only [State.applyInUse, driveInUse, present, was, now, Bool.and_true, Bool.and_false, Bool.not_false, Bool.not_true,
    Bool.false_eq_true, if_false, if_true]

/-- What SPEED-CHECK or EMPTY by READY is, with DRIVE-FAULT deasserted (R20, R25). -/
theorem State.enterByReady_quiet {s : State} {d : DriveId} (quiet : (s.drive d).levels.driveFault = false) :
    s.enterByReady d = s.modDrive d fun u =>
      if u.levels.ready then { u with condition := .speedCheck, index := clearedTiming, noIndexTimer := true }
      else { u with condition := .empty } := by
  unfold State.enterByReady State.enterSpeedCheck
  simp only [quiet, Bool.false_eq_true, if_false]
  split
  next ready => simp only [State.modDrive, ready, if_true]
  next ready => simp only [State.modDrive, ready, Bool.false_eq_true, if_false]

/-- Entering a condition by READY, a fault at most (R20, R25). -/
theorem State.enterByReady_cases (s : State) (d : DriveId) : (∃ f : DriveSeq → DriveSeq, s.enterByReady d = s.modDrive d f
      ∧ (f (s.drive d)).queue = (s.drive d).queue ∧ (f (s.drive d)).levels = (s.drive d).levels)
    ∨ (s.drive d).levels.driveFault = true ∧ s.enterByReady d = (s.modDrive d fun u =>
        { u with condition := .speedCheck, index := clearedTiming, noIndexTimer := true }).fault d .driveFault := by
  by_cases ready : (s.drive d).levels.ready = true
  · by_cases fault : (s.drive d).levels.driveFault = true
    · refine .inr ⟨fault, ?_⟩
      rw [State.enterByReady, if_pos ready, State.enterSpeedCheck]
      exact if_pos fault
    · refine .inl ⟨_, State.enterByReady_quiet (Bool.eq_false_iff.mpr fault), ?_, ?_⟩ <;> rw [if_pos ready]
  · exact .inl ⟨_, if_neg ready, rfl, rfl⟩

theorem State.modPos_margin (s : State) (d e : DriveId) (f : Positioner → Positioner) (z : Zone) :
    (s.modPos d f).margin e z = s.margin e z := by cases z <;> rfl

theorem State.takeOffline_margin (s : State) (d e : DriveId) (z : Zone) :
    (s.takeOffline d).margin e z = (s.removal d .offline).margin e z := State.modPos_margin ..

theorem State.takeOffline_op (s : State) (d e : DriveId) : (s.takeOffline d).op e = (s.removal d .offline).op e :=
  State.modPos_op ..

/-- With no operation kept of a drive its margin records stay whatever becomes of it. -/
theorem State.applyInUse_margins {s : State} {d : DriveId} (none : s.op d = none) (before : BitVec 4) :
    (∀ z, (s.applyInUse before d).margin d z = s.margin d z) ∧ (s.applyInUse before d).op d = s.op d := by
  obtain ⟨-, -, e⟩ | ⟨-, -, e⟩ | e := s.applyInUse_cases before d <;> rw [e]
  · obtain ⟨kept, -⟩ := s.removal_margins d .offline
    obtain ⟨-, letGo, -⟩ := s.removal_rest d .offline
    exact ⟨fun z => (s.takeOffline_margin d d z).trans (kept none d z), (s.takeOffline_op d d).trans (letGo.op.trans none.symm)⟩
  · obtain ⟨f, e, -, -⟩ | ⟨-, e⟩ := s.enterByReady_cases d <;> rw [e]
    · exact ⟨fun _ => rfl, rfl⟩
    · generalize start : (s.modDrive d fun u => { u with condition := .speedCheck, index := clearedTiming, noIndexTimer := true }) = u
      have margin (z : Zone) : u.margin d z = s.margin d z := by rw [← start]; rfl
      have op : u.op d = s.op d := by rw [← start]; rfl
      exact ⟨fun z => ((u.fault_margins d .driveFault).1 (op.trans none) d z).trans (margin z),
        (u.fault_rest d .driveFault).1.op.trans none.symm⟩
  · exact ⟨fun _ => rfl, rfl⟩

/-! ### Margin records in a new strobe range (R62) -/

theorem Strobe.code_injective {a b : Strobe} (h : a.code = b.code) : a = b := by cases a <;> cases b <;> simp_all [Strobe.code]

theorem clampStrobe_low {lo hi x : Strobe} (below : x.code < lo.code) : clampStrobe lo hi x = lo :=
  if_pos (by simpa [strobeLe] using below.le)

theorem clampStrobe_high {lo hi x : Strobe} (range : lo.code ≤ hi.code) (above : hi.code < x.code) : clampStrobe lo hi x = hi := by
  rw [clampStrobe, if_neg (by simp [strobeLe]; omega), if_pos (by simp [strobeLe]; omega)]

theorem clampStrobe_inside {lo hi x : Strobe} (low : lo.code ≤ x.code) (high : x.code ≤ hi.code) : clampStrobe lo hi x = x := by
  unfold clampStrobe
  simp only [strobeLe, decide_eq_true_eq]
  split
  · exact Strobe.code_injective (by omega)
  · split
    · exact Strobe.code_injective (by omega)
    · rfl

theorem clampStrobe_range {lo hi : Strobe} (range : lo.code ≤ hi.code) (x : Strobe) :
    lo.code ≤ (clampStrobe lo hi x).code ∧ (clampStrobe lo hi x).code ≤ hi.code := by
  by_cases low : x.code < lo.code
  · rw [clampStrobe_low low]
    exact ⟨le_rfl, range⟩
  · by_cases high : hi.code < x.code
    · rw [clampStrobe_high range high]
      exact ⟨range, le_rfl⟩
    · rw [clampStrobe_inside (by omega) (by omega)]
      omega

theorem Margin.adjust_preferred (m : Margin) (lo hi : Strobe) : (m.adjust lo hi).preferred = clampStrobe lo hi m.preferred := by
  unfold Margin.adjust
  dsimp only
  split
  next same => exact same.symm
  next => rfl

theorem Margin.adjust_lean {m : Margin} {lo hi : Strobe} (x : Strobe) : (m.adjust lo hi).lean x
    = if clampStrobe lo hi m.preferred = m.preferred ∧ lo.code ≤ x.code ∧ x.code ≤ hi.code then m.lean x else 0 := by
  have leans (m : Margin) (e n l : Nat) : ({ m with leanEarly := e, leanNormal := n, leanLate := l } : Margin).lean x
      = match x with | .early => e | .normal => n | .late => l := by cases x <;> rfl
  unfold Margin.adjust
  dsimp only
  split
  next same =>
    rw [leans]
    cases x <;> simp [same, strobeLe, Strobe.code, Margin.lean] <;> cases lo <;> cases hi <;> simp
  next changed => cases x <;> simp [changed, Margin.lean]

theorem Margin.ext_lean {m n : Margin} (preferred : m.preferred = n.preferred) (lean : ∀ x, m.lean x = n.lean x) : m = n := by
  have early : m.leanEarly = n.leanEarly := lean .early
  have normal : m.leanNormal = n.leanNormal := lean .normal
  have late : m.leanLate = n.leanLate := lean .late
  cases m
  cases n
  simp_all

/-- Adjusted twice, a margin record is as adjusted once. -/
theorem Margin.adjust_adjust (m : Margin) {lo hi : Strobe} (range : lo.code ≤ hi.code) :
    (m.adjust lo hi).adjust lo hi = m.adjust lo hi := by
  have inside := clampStrobe_range range m.preferred
  refine Margin.ext_lean ?_ fun x => ?_
  · rw [Margin.adjust_preferred, Margin.adjust_preferred, clampStrobe_inside inside.1 inside.2]
  · rw [Margin.adjust_lean, Margin.adjust_preferred, if_congr (and_iff_right (clampStrobe_inside inside.1 inside.2)) rfl rfl,
      Margin.adjust_lean]
    split
    · rfl
    · next out => rw [if_neg fun h => out h.2]

/-- Settles O33: the drive's own turn leaves its margin records under each of the statement's conditions. -/
theorem marginsFollowTheStrobeRange : Obligations.MarginsFollowTheStrobeRange := by
  unfold Obligations.MarginsFollowTheStrobeRange
  intro s l b h w legal new lo hi changed
  have range : lo ≤ hi := s.cfg.taken_range h.body (.inr changed)
  refine ⟨_, w.configure legal, ?_⟩
  generalize start : s.replied l b { h with oldRate := decide (s.cfg.rates.get l ≠ (s.cfg.taken h.body).rates.get l) }
    (.done ((clampedItems h.body).any id) false ((s.cfg.taken h.body).encode ++ be2 (setNat (clampedItems h.body)))) = u
  have cfg : u.cfg = s.cfg := by rw [← start]; rfl
  have op (d : DriveId) : u.op d = s.op d := by rw [← start]; rfl
  have margin (d : DriveId) (z : Zone) : u.margin d z = s.margin d z := by rw [← start]; rfl
  have drive (d : DriveId) : u.drive d = s.drive d := by rw [← start]; rfl
  rw [State.applyConfig_eq, cfg]
  have taken : ((u.configured new).eachDrive fun t d => t.applyInUse s.cfg.drivesInUse d).cfg = new :=
    State.eachDrive_keeps (fun t => t.cfg = new) _ (fun t d h => (State.Within.applyInUse (.refl t d) _).cfg.trans h) _ rfl
  refine ⟨taken, range, fun o tried x next => ?_, ?_⟩
  · have allowed := List.find?_some next
    rw [taken] at allowed
    simpa [ConfigRecord.allows, strobeLe] using (Bool.and_eq_true_iff.mp allowed).2
  · intro d z which m m'
    obtain ⟨v, ⟨vm, vo, vd, vc⟩, after⟩ := State.eachDrive_turn (f := fun t d => t.applyInUse s.cfg.drivesInUse d)
      (fun d s t => (∀ z, t.margin d z = s.margin d z) ∧ t.op d = s.op d ∧ t.drive d = s.drive d ∧ t.cfg = s.cfg)
      (fun _ _ => ⟨fun _ => rfl, rfl, rfl, rfl⟩)
      (fun _ _ _ _ a b => ⟨fun z => (b.1 z).trans (a.1 z), b.2.1.trans a.2.1, b.2.2.1.trans a.2.2.1, b.2.2.2.trans a.2.2.2⟩)
      (fun t d e ne => by
        have within := State.Within.applyInUse (.refl t d) s.cfg.drivesInUse
        exact ⟨fun z => within.margins e z (Ne.symm ne), within.ops e (Ne.symm ne), within.others.drives e (Ne.symm ne),
          within.cfg⟩) (u.configured new) d
    have turn : (∀ z, (v.applyInUse s.cfg.drivesInUse d).margin d z = v.margin d z)
        ∧ (v.applyInUse s.cfg.drivesInUse d).op d = v.op d := by
      obtain none | absent | ⟨now, still⟩ := which
      · refine State.applyInUse_margins ?_ _
        rw [vo, State.configured_op, op, none]
        split <;> rfl
      · have same : v.cfg.drivesInUse = s.cfg.drivesInUse := by
          rw [vc]
          simp [State.configured, new, ConfigRecord.taken, flagAt, offDrives, absent]
        rw [State.applyInUse_same (by rw [same])]
        exact ⟨fun _ => rfl, rfl⟩
      · by_cases given : byteAt h.body 0 = 0
        · have same : v.cfg.drivesInUse = s.cfg.drivesInUse := by
            rw [vc]
            simp [State.configured, new, ConfigRecord.taken, flagAt, offDrives, given]
          rw [State.applyInUse_same (by rw [same])]
          exact ⟨fun _ => rfl, rfl⟩
        · have used : v.cfg.drivesInUse.getLsbD d.val = true := by
            rw [vc]
            simpa [State.configured, new, ConfigRecord.taken, flagAt, offDrives, given] using now
          obtain was | quiet := still
          · rw [State.applyInUse_same (was.trans used.symm)]
            exact ⟨fun _ => rfl, rfl⟩
          · obtain ⟨-, off, -⟩ | ⟨-, -, e⟩ | e := v.applyInUse_cases s.cfg.drivesInUse d
            · exact absurd (used.symm.trans off) (by simp)
            · rw [e, State.enterByReady_quiet (by rw [vd, State.configured_drive, drive]; exact quiet)]
              exact ⟨fun z => by cases z <;> rfl, rfl⟩
            · rw [e]
              exact ⟨fun _ => rfl, rfl⟩
    have differs : ¬ (new.strobeMin = u.cfg.strobeMin ∧ new.strobeMax = u.cfg.strobeMax) := by
      rw [cfg]
      exact fun ⟨low, high⟩ => changed.elim (· low) (· high)
    have adjusted : m' = m.adjust new.strobeMin new.strobeMax := by
      refine (after.1 z).trans ((turn.1 z).trans ((vm z).trans ?_))
      rw [State.configured_margin, if_neg differs, margin]
    have kept : ((u.configured new).eachDrive fun t d => t.applyInUse s.cfg.drivesInUse d).op d = (s.op d).map fun o =>
        { o with undo := o.undo.map fun x => (x.1, x.2.adjust new.strobeMin new.strobeMax) } := by
      refine after.2.1.trans (turn.2.trans (vo.trans ?_))
      rw [State.configured_op, if_neg differs, op]
    have preferred : m'.preferred = clampStrobe new.strobeMin new.strobeMax m.preferred := by
      rw [adjusted, Margin.adjust_preferred]
    refine ⟨fun below => preferred.trans (clampStrobe_low below), fun above => preferred.trans (clampStrobe_high range above),
      fun low high => preferred.trans (clampStrobe_inside low high), fun moved x => ?_, fun stays x => ?_, kept⟩
    · rw [adjusted, Margin.adjust_lean, if_neg fun same => moved (preferred.trans same.1)]
    · rw [adjusted, Margin.adjust_lean]
      simp only [preferred.symm.trans stays, true_and]
      rfl

/-! ### What a drive taken out of use or brought back leaves of another (R20) -/

/-- The drives brought back with DRIVE-FAULT asserted have an empty queue. -/
def State.Still (s : State) (before : BitVec 4) : Prop :=
  ∀ e : DriveId, before.getLsbD e.val = false → (s.drive e).levels.driveFault = true → (s.drive e).queue = []

/-- What becomes of drive `d` and of the desks while the other drives are taken out of use or brought back. -/
structure State.Beyond (before : BitVec 4) (s t : State) (d : DriveId) : Prop where
  drive   : t.drive d = s.drive d
  region  : t.region d = s.region d
  vol     : t.vol d = s.vol d
  op      : t.op d = s.op d
  asking  : t.channel.asking.get d = s.channel.asking.get d
  margin  : ∀ z, t.margin d z = s.margin d z
  flag    : t.channel.sweepFlag.get d = s.channel.sweepFlag.get d
  granted : s.channel.granted ≠ some d → t.channel.granted ≠ some d
  cfg     : t.cfg = s.cfg
  part    : t.part = s.part
  clock   : t.clock = s.clock
  mem     : t.mem = s.mem
  arrival : t.arrival = s.arrival
  pending : t.pending = s.pending
  claims  : ∀ c ∈ t.cw.claims, c ∈ s.cw.claims
  alone   : (∀ e : DriveId, e ≠ d → before.getLsbD e.val = s.cfg.drivesInUse.getLsbD e.val) → t.cw = s.cw
  replies : ∀ l b r, s.hasReply l b r → t.hasReply l b r
  still   : s.Still before → t.Still before
  waits   : s.Still before → ∀ l b h, s.Settling l b h (.failed .removed) → t.Settling l b h (.failed .removed)

theorem State.Beyond.refl (before : BitVec 4) (s : State) (d : DriveId) : State.Beyond before s s d :=
  ⟨rfl, rfl, rfl, rfl, rfl, fun _ => rfl, rfl, id, rfl, rfl, rfl, rfl, rfl, rfl, fun _ => id, fun _ => rfl, fun _ _ _ => id, id,
    fun _ _ _ _ => id⟩

theorem State.Beyond.trans {before : BitVec 4} {s t u : State} {d : DriveId} (a : State.Beyond before s t d)
    (b : State.Beyond before t u d) : State.Beyond before s u d :=
  ⟨b.drive.trans a.drive, b.region.trans a.region, b.vol.trans a.vol, b.op.trans a.op, b.asking.trans a.asking,
    fun z => (b.margin z).trans (a.margin z), b.flag.trans a.flag, fun h => b.granted (a.granted h), b.cfg.trans a.cfg,
    b.part.trans a.part, b.clock.trans a.clock, b.mem.trans a.mem, b.arrival.trans a.arrival, b.pending.trans a.pending,
    fun c h => a.claims c (b.claims c h), fun h => (b.alone (a.cfg ▸ h)).trans (a.alone h),
    fun l b' r h => b.replies l b' r (a.replies l b' r h), fun h => b.still (a.still h),
    fun h l b' x y => b.waits (a.still h) l b' x (a.waits h l b' x y)⟩

theorem Lasting.removal {P : State → Prop} (L : Lasting (.failed .removed) P) {s : State} (d : DriveId) (c : DriveCondition)
    (h : P s) : P (s.removal d c) := by
  rw [State.removal_eq]
  exact L.lines (L.emptyRegion d (State.foldl_keeps P _ (fun _ r p => L.failRequest d r p) _ _
    (L.loseVolume d (L.lines h (s.abortChannel_lines d))))) rfl

theorem Lasting.fault {P : State → Prop} (L : Lasting (.failed .driveFault) P) {s : State} (d : DriveId) (c : FaultCause)
    (h : P s) : P (s.fault d c) := by
  rw [State.fault_eq]
  exact L.lines ((L.faultKeeps d _).answers (L.lines h (s.abortChannel_lines d))) rfl

/-- The channel's part of another drive through a removal. -/
theorem State.removal_others (s : State) (d : DriveId) (c : DriveCondition) {e : DriveId} (ne : e ≠ d) :
    (s.removal d c).channel.sweepFlag.get e = s.channel.sweepFlag.get e
      ∧ (s.channel.granted ≠ some e → (s.removal d c).channel.granted ≠ some e) := by
  have aside := s.removalAnswers_aside d
  obtain ⟨_, _, _, eq⟩ := s.abortChannel_eq d
  have letGo := (s.removal_rest d c).2.1
  constructor
  · rw [State.removal_eq]
    refine (aside.others e ne).trans ?_
    rw [eq]
    exact vector_get_set_ne _ ne _
  · intro free
    rw [letGo.granted]
    split
    · simp
    · exact free

theorem State.fault_others (s : State) (d : DriveId) (c : FaultCause) {e : DriveId} (ne : e ≠ d) :
    (s.fault d c).channel.sweepFlag.get e = s.channel.sweepFlag.get e
      ∧ (s.channel.granted ≠ some e → (s.fault d c).channel.granted ≠ some e) := by
  have aside := s.faultAnswers_aside d
  obtain ⟨_, _, _, eq⟩ := s.abortChannel_eq d
  have letGo := (s.fault_rest d c).1
  constructor
  · rw [State.fault_eq]
    refine (aside.others e ne).trans ?_
    rw [eq]
    exact vector_get_set_ne _ ne _
  · intro free
    rw [letGo.granted]
    split
    · simp
    · exact free

theorem ClaimUnit.volumeGone_claims (c : ClaimUnit) (d : DriveId) :
    (c.volumeGone d).claims = c.claims.filter fun r => r.drive != d := rfl

/-- Taking drive `d` out of use, or bringing it back, leaves drive `e` alone. -/
theorem State.applyInUse_beyond (s : State) (before : BitVec 4) {d e : DriveId} (ne : d ≠ e) :
    State.Beyond before s (s.applyInUse before d) e := by
  have within := State.Within.applyInUse (.refl s d) before
  have other : e ≠ d := Ne.symm ne
  -- what each of the two gives of the channel's flags, the claims and the desks suffices
  have enough (flag : (s.applyInUse before d).channel.sweepFlag.get e = s.channel.sweepFlag.get e)
      (granted : s.channel.granted ≠ some e → (s.applyInUse before d).channel.granted ≠ some e)
      (arrival : (s.applyInUse before d).arrival = s.arrival) (claims : ∀ c ∈ (s.applyInUse before d).cw.claims, c ∈ s.cw.claims)
      (alone : before.getLsbD d.val = s.cfg.drivesInUse.getLsbD d.val → (s.applyInUse before d).cw = s.cw)
      (replies : ∀ l b r, s.hasReply l b r → (s.applyInUse before d).hasReply l b r)
      (still : s.Still before → before.getLsbD d.val = false → ((s.applyInUse before d).drive d).levels.driveFault = true →
        ((s.applyInUse before d).drive d).queue = [])
      (waits : s.Still before → ∀ l b h, s.Settling l b h (.failed .removed) →
        (s.applyInUse before d).Settling l b h (.failed .removed)) : State.Beyond before s (s.applyInUse before d) e :=
    ⟨within.others.drives e other, within.others.regions e other, within.others.vols e other, within.ops e other,
      within.asking e other, fun z => within.margins e z other, flag, granted, within.cfg, within.part, within.clock,
      State.applyInUse_mem .., arrival, within.pending, claims, fun h => alone (h d ne), replies,
      fun h x old fault => by
        by_cases here : x = d
        · subst here
          exact still h old fault
        · rw [within.others.drives x here] at fault ⊢
          exact h x old fault, waits⟩
  obtain ⟨was, now, eq⟩ | ⟨was, now, eq⟩ | eq := s.applyInUse_cases before d
  · obtain ⟨flag, granted⟩ := s.removal_others d .offline other
    obtain ⟨-, -, claims, arrival⟩ := s.removal_rest d .offline
    have drive := s.removal_drive d .offline
    have lasts {P : State → Prop} (L : Lasting (.failed .removed) P) (h : P s) : P (s.takeOffline d) :=
      L.lines (L.removal d .offline h) (State.modPos_lines ..)
    have queue : ((s.takeOffline d).drive d).queue = [] := by
      rw [State.takeOffline, State.modPos, State.drive_modDrive_self, drive]
      rfl
    rw [eq] at enough ⊢
    refine enough ?_ ?_ ?_ ?_ (fun same => absurd (was.symm.trans (same.trans now)) (by simp)) (fun l b r => lasts (.hasReply _ l b r))
      (fun _ _ _ => queue) (fun _ l b h => lasts (.settling l b h _))
    all_goals unfold State.takeOffline
    · rw [State.modPos_channel]
      exact flag
    · rw [State.modPos_channel]
      exact granted
    · exact (State.modPos_arrival ..).trans arrival
    · rw [State.modPos_cw, claims, ClaimUnit.volumeGone_claims]
      exact fun c held => (List.mem_filter.mp held).1
  · rw [eq] at enough ⊢
    obtain ⟨f, turn, queue, levels⟩ | ⟨fault, turn⟩ := s.enterByReady_cases d <;> rw [turn] at enough ⊢
    · refine enough rfl id rfl (fun _ => id) (fun _ => rfl) (fun _ _ _ => id) (fun still old fault => ?_) (fun _ _ _ _ => id)
      rw [State.drive_modDrive_self] at fault ⊢
      rw [queue]
      exact still d old (levels ▸ fault)
    · generalize start : (s.modDrive d fun u => { u with condition := .speedCheck, index := clearedTiming, noIndexTimer := true }) = u
        at enough ⊢
      have lines : u.lines = s.lines := by rw [← start]; rfl
      have flags : u.channel = s.channel := by rw [← start]; rfl
      have queue : (u.drive d).queue = (s.drive d).queue := by rw [← start, State.drive_modDrive_self]
      obtain ⟨flag, granted⟩ := u.fault_others d .driveFault other
      obtain ⟨-, claims, arrival, -⟩ := u.fault_rest d .driveFault
      have cw : u.cw = s.cw := by rw [← start]; rfl
      refine enough (flags ▸ flag) (flags ▸ granted) (arrival.trans (by rw [← start]; rfl)) (by rw [claims, cw]; exact fun _ => id)
        (fun _ => claims.trans cw) (fun l b r has => ?_) (fun still old _ => ?_) (fun still l b h waits => ?_)
      · exact (Lasting.hasReply (.failed .driveFault) l b r).fault d _ ((Lasting.hasReply (.failed .driveFault) l b r).lines has lines)
      · rw [State.fault_drive, DriveSeq.afterFault, queue, still d old fault]
        rfl
      · have none : ∀ r ∈ (u.drive d).queue, r.Kept := by
          rw [queue, still d was fault]
          exact fun r here => absurd here List.not_mem_nil
        refine (Lasting.settling l b h (.failed .removed)).lines waits ?_
        rw [State.fault_eq, State.faultAnswers_of_kept none]
        exact (State.abortChannel_lines u d).trans lines
  · rw [eq]
    exact .refl before s e

theorem State.replied_buffer_ne (s : State) {l m : Line} {b c : BufId} (h : Held) (r : Reply) (ne : (m, c) ≠ (l, b)) :
    (s.replied l b h r).buffer m c = s.buffer m c := by
  show ((s.replied l b h r).line m).bufs.get c = _
  by_cases line : l = m
  · subst line
    rw [State.replied, State.line_modLine_self]
    exact vector_get_set_ne _ (fun e => ne (by rw [e])) _
  · rw [State.replied, State.line_modLine_ne _ line]
    rfl

/-- The operation record of a drive, adjusted or not, puts back what its record said, in the range then allowed. -/
theorem State.configured_putBack {s v t : State} {d : DriveId} {new : ConfigRecord}
    (range : ¬ (new.strobeMin = s.cfg.strobeMin ∧ new.strobeMax = s.cfg.strobeMax) → new.strobeMin.code ≤ new.strobeMax.code)
    (cfg : v.cfg = new) (kept : v.op d = (s.configured new).op d) (back : v.MarginsBack t d) :
    (s.op d = none → ∀ z, t.margin d z = v.margin d z)
      ∧ ∀ o, s.op d = some o → ∀ z, ((∀ m, (z, m) ∉ o.undo) → t.margin d z = v.margin d z)
        ∧ ∀ m, (z, m) ∈ o.undo → (∀ m', (z, m') ∈ o.undo → m' = m) →
            t.margin d z = m.adjust new.strobeMin new.strobeMax := by
  obtain ⟨nothing, taught⟩ := back
  rw [kept] at nothing taught
  rw [cfg] at taught
  refine ⟨fun none z => nothing ?_ d z, fun o some z => ?_⟩
  · rw [State.configured_op, none]
    split <;> rfl
  · by_cases same : new.strobeMin = s.cfg.strobeMin ∧ new.strobeMax = s.cfg.strobeMax
    · obtain ⟨kept, put⟩ := taught o (by rw [State.configured_op, if_pos same, some])
      exact ⟨fun no => kept d z (.inr no), put z⟩
    · obtain ⟨kept, put⟩ := taught { o with undo := o.undo.map fun x => (x.1, x.2.adjust new.strobeMin new.strobeMax) }
        (by rw [State.configured_op, if_neg same, some]; rfl)
      refine ⟨fun no => kept d z (.inr fun m here => ?_), fun m here one => ?_⟩
      · obtain ⟨⟨y, n⟩, held, e⟩ := List.mem_map.mp here
        obtain ⟨rfl, -⟩ := Prod.mk.inj e
        exact no n held
      · refine (put z (m.adjust new.strobeMin new.strobeMax) (List.mem_map.mpr ⟨(z, m), here, rfl⟩) fun m' there => ?_).trans
          (m.adjust_adjust (range same))
        obtain ⟨⟨y, n⟩, held, e⟩ := List.mem_map.mp there
        obtain ⟨rfl, rfl⟩ := Prod.mk.inj e
        rw [one n held]

/-- Settles O34: the drive's own turn is a removal or an entry by READY, and the turns of the others leave it alone. -/
theorem drivesInUseFollowTheConfiguration : Obligations.DrivesInUseFollowTheConfiguration := by
  unfold Obligations.DrivesInUseFollowTheConfiguration
  intro s l b h d w legal given present was now
  refine ⟨_, w.configure legal, ?_⟩
  generalize reply : (Reply.done ((clampedItems h.body).any id) false
    ((s.cfg.taken h.body).encode ++ be2 (setNat (clampedItems h.body)))) = q
  generalize noted : { h with oldRate := decide (s.cfg.rates.get l ≠ (s.cfg.taken h.body).rates.get l) } = k
  have bits : (s.cfg.taken h.body).drivesInUse = BitVec.ofNat 4 (byteAt h.body 1) := by
    simp [ConfigRecord.taken, flagAt, offDrives, given]
  rw [State.applyConfig_eq]
  obtain ⟨v, early, late⟩ := State.eachDrive_turn (f := fun t d => t.applyInUse s.cfg.drivesInUse d)
    (fun d s' t => State.Beyond s.cfg.drivesInUse s' t d) (fun d s' => .refl _ s' d) (fun _ _ _ _ => State.Beyond.trans)
    (fun t d e ne => t.applyInUse_beyond s.cfg.drivesInUse ne) ((s.replied l b k q).configured (s.cfg.taken h.body)) d
  change State.Beyond _ _ ((((s.replied l b k q).configured (s.cfg.taken h.body)).eachDrive fun t d =>
    t.applyInUse (s.replied l b k q).cfg.drivesInUse d)) d at late
  generalize ((s.replied l b k q).configured (s.cfg.taken h.body)).eachDrive
    (fun t d => t.applyInUse (s.replied l b k q).cfg.drivesInUse d) = t at late ⊢
  have drive : v.drive d = { s.drive d with
      queue := (s.drive d).queue.map fun r => { r with passed := min (s.cfg.taken h.body).bypass r.passed }
      patternStep := if (s.cfg.taken h.body).period = s.cfg.period then (s.drive d).patternStep else 0 } :=
    early.drive.trans (State.configured_drive _ _ d)
  have vol : v.vol d = s.vol d := early.vol
  have region : v.region d = s.region d := early.region
  have used : v.cfg.drivesInUse.getLsbD d.val = now := by
    rw [early.cfg]
    exact congrArg (BitVec.getLsbD · d.val) bits
  have taken : (v.applyInUse s.cfg.drivesInUse d).cfg = s.cfg.taken h.body :=
    (State.Within.applyInUse (.refl v d) _).cfg.trans early.cfg
  have straps : v.part.straps.drivesPresent.get d = true := by
    rw [early.part]
    exact present
  refine ⟨(congrArg ConfigRecord.drivesInUse (late.cfg.trans taken)).trans bits, ?_, fun out back off quiet => ?_, fun same => ?_⟩
  · intro inUse gone new ranged still asked
    rw [State.applyInUse_off straps inUse (used.trans gone)] at late
    have removed := v.removal_drive d .offline
    obtain ⟨-, letGo, claims, arrival⟩ := v.removal_rest d .offline
    obtain ⟨shut, frames⟩ := v.removal_region d .offline
    have volume := v.removal_vol d .offline
    have margins := v.removal_margins d .offline
    have after : t.drive d = { s.drive d with
        condition := .offline, index := clearedTiming, noIndexTimer := false, reportDue := false, reportHeld := false, queue := []
        pos := freshPositioner
        patternStep := if new.period = s.cfg.period then (s.drive d).patternStep else 0 } := by
      rw [late.drive, State.takeOffline, State.modPos, State.drive_modDrive_self, removed, drive]
      rfl
    have kept := late.vol.trans ((State.modPos_vol ..).trans volume)
    have dirty : v.dirtyAtLoss d = true ↔ (s.vol d).dirtyRemoval = true ∨ (s.vol d).dirtySet ≠ []
        ∨ ∃ r ∈ (s.drive d).queue, r.kind.isWrite = true := by
      rw [State.dirtyAtLoss_iff, vol, drive]
      simp
    have free : t.channel.granted ≠ some d := late.granted (by rw [State.takeOffline, State.modPos_channel]; exact letGo.not_granted)
    obtain ⟨gate, low⟩ := State.outputs_of_not_granted free
    have range (changed : ¬ (new.strobeMin = s.cfg.strobeMin ∧ new.strobeMax = s.cfg.strobeMax)) :
        new.strobeMin.code ≤ new.strobeMax.code :=
      s.cfg.taken_range h.body (.inr ((not_and_or.mp changed).imp id id))
    have margin (z : Zone) : t.margin d z = (v.removal d .offline).margin d z := (late.margin z).trans (v.takeOffline_margin d d z)
    have start (z : Zone) : v.margin d z = ranged (s.margin d z) :=
      (early.margin z).trans (State.configured_margin (s.replied l b k q) new d z)
    obtain ⟨none, taught⟩ := State.configured_putBack (s := s.replied l b k q) range early.cfg early.op margins
    have within : v.Within (v.takeOffline d) d := .takeOffline (.refl v d)
    have bitsNow (e : DriveId) (same : s.cfg.drivesInUse.getLsbD e.val = t.cfg.drivesInUse.getLsbD e.val) :
        s.cfg.drivesInUse.getLsbD e.val = new.drivesInUse.getLsbD e.val :=
      same.trans (by rw [late.cfg, within.cfg, early.cfg]; rfl)
    refine ⟨by rw [after]; rfl, by rw [after]; rfl, by rw [after]; rfl, by rw [after]; rfl, free, gate, low,
      by simp [State.busyLamp, after], ?_, ?_, ?_, ?_, ?_, ?_, ?_, ?_, ?_, ?_, ?_, ?_, ?_, ?_, ?_, ?_, ?_⟩
    · rw [late.asking, State.takeOffline, State.modPos_channel]
      exact letGo.asking
    · rw [late.op, State.takeOffline_op]
      exact letGo.op
    · rw [late.flag, State.takeOffline, State.modPos_channel]
      exact letGo.flag
    · rw [late.region, State.takeOffline, State.modPos_region]
      exact shut
    · rw [late.region, State.takeOffline, State.modPos_region]
      exact frames
    · rw [kept, vol]
    · rw [kept]
      exact dirty
    · intro c held
      have held := late.claims c held
      rw [State.takeOffline, State.modPos_cw, claims, ClaimUnit.volumeGone_claims] at held
      simpa using (List.mem_filter.mp held).2
    · intro others
      refine (late.alone fun e ne => (bitsNow e (others e ne)).trans (by rw [within.cfg, early.cfg]; rfl)).trans ?_
      rw [State.takeOffline, State.modPos_cw, claims, early.alone fun e ne => bitsNow e (others e ne)]
      rfl
    · intro empty
      have before : State.Still ((s.replied l b k q).configured new) s.cfg.drivesInUse := fun e unused fault => by
        rw [State.configured_drive] at fault ⊢
        exact List.map_eq_nil_iff.mpr (empty e unused fault)
      have waits {m : Line} {c : BufId} (ask : asked m c) : ∃ y, v.Settling m c y (.failed .removed) := by
        obtain ⟨ne, y, ⟨held, stage, orphan⟩, none⟩ := ask
        exact ⟨y, early.waits before m c y (.inl ⟨(State.replied_buffer_ne s k q ne).trans held, stage, orphan, none⟩)⟩
      have has {m : Line} {c : BufId} (answered : (v.removal d .offline).hasReply m c (.failed .removed)) :
          t.hasReply m c (.failed .removed) :=
        late.replies m c _ ((Lasting.hasReply (.failed .removed) m c _).lines answered (State.modPos_lines ..))
      have queued {r : Request} (here : r ∈ (s.drive d).queue) :
          { r with passed := min (s.cfg.taken h.body).bypass r.passed } ∈ (v.drive d).queue := by
        rw [drive]
        exact List.mem_map.mpr ⟨r, here, rfl⟩
      refine ⟨fun r m c here origin kind ask => ?_, fun rd running reads ask => ?_, fun r i rd _ here origin kind one reads ask => ?_,
        fun w here kind ask => ?_, fun m c clamped pending ask => ?_⟩ <;> obtain ⟨y, waits⟩ := waits ask
      · exact has (State.removal_answers .offline (queued here) origin kind waits)
      · obtain ⟨i, reads⟩ := Region.exists_frame_of_mem reads
        exact has (State.removal_reads .offline (region ▸ reads) (.inl (region ▸ running)) waits)
      · refine has (State.removal_reads .offline (region ▸ reads) (.inr ⟨_, queued here, origin, kind, fun x j there fill => ?_⟩) waits)
        rw [drive] at there
        obtain ⟨x', held, rfl⟩ := List.mem_map.mp there
        rw [one x' j held fill]
      · exact has (State.removal_waiters .offline (vol ▸ here) kind waits)
      · exact has (State.removal_pending .offline (vol ▸ pending) waits)
    · exact fun op z => (margin z).trans ((none op z).trans (start z))
    · exact fun o op z => ⟨fun no => (margin z).trans (((taught o op z).1 no).trans (start z)),
        fun m here one => (margin z).trans ((taught o op z).2 m here one)⟩
    · exact late.clock.trans (within.clock.trans early.clock)
    · exact late.part.trans (within.part.trans early.part)
    · exact late.mem.trans (((State.modPos_mem ..).trans (State.removal_mem ..)).trans early.mem)
    · exact late.arrival.trans (((State.modPos_arrival ..).trans arrival).trans early.arrival)
    · exact late.pending.trans (within.pending.trans early.pending)
  · rw [late.drive, State.applyInUse_on straps out (used.trans back), State.enterByReady_quiet (by rw [drive]; exact quiet),
      State.drive_modDrive_self, drive]
    cases (s.drive d).levels.ready <;> rfl
  · rw [State.applyInUse_same (same.trans used.symm)] at late
    exact ⟨late.vol.trans vol, late.region.trans region, late.drive.trans drive⟩

end Sys2Proof.Machine
end

section
/-! Settlement of the statements on the events of a drive and its positioner (Chapter 2). -/
namespace Sys2Proof.Machine

/-! ### Updates of a drive sequencer -/

theorem State.modDrive_congr {s : State} {d : DriveId} {f g : DriveSeq → DriveSeq} (h : f (s.drive d) = g (s.drive d)) :
    s.modDrive d f = s.modDrive d g := by rw [State.modDrive, State.modDrive, h]

theorem State.modPos_congr {s : State} {d : DriveId} {f g : Positioner → Positioner} (h : f (s.drive d).pos = g (s.drive d).pos) :
    s.modPos d f = s.modPos d g := State.modDrive_congr (by rw [h])

theorem State.modPos_modPos (s : State) (d : DriveId) (f g : Positioner → Positioner) :
    (s.modPos d f).modPos d g = s.modPos d fun p => g (f p) := State.modDrive_modDrive ..

theorem State.drive_modPos_self (s : State) (d : DriveId) (f : Positioner → Positioner) :
    (s.modPos d f).drive d = { s.drive d with pos := f (s.drive d).pos } := State.drive_modDrive_self ..

theorem State.selected_modPos (s : State) (d : DriveId) (f : Positioner → Positioner) :
    ((s.modPos d f).drive d).selected = (s.drive d).selected := by
  rw [State.drive_modPos_self]
  rfl

/-! ### Levels (R19, R21, R25) -/

/-- SPEED-CHECK is entered quietly without DRIVE-FAULT (R21, R23). -/
theorem State.enterSpeedCheck_quiet {s : State} {d : DriveId} (quiet : (s.drive d).levels.driveFault = false) :
    s.enterSpeedCheck d = s.modDrive d fun u =>
      { u with condition := .speedCheck, index := clearedTiming, noIndexTimer := true } :=
  if_neg (by simp [quiet])

theorem State.enterSpeedCheck_faults {s : State} {d : DriveId} (fault : (s.drive d).levels.driveFault = true) :
    s.enterSpeedCheck d = (s.modDrive d fun u =>
      { u with condition := .speedCheck, index := clearedTiming, noIndexTimer := true }).fault d .driveFault := if_pos fault

/-- DRIVE-FAULT rising is acted on in SPEED-CHECK and READY alone (R25). -/
theorem State.driveFaultRises_idle {s : State} {d : DriveId}
    (c : (s.drive d).condition = .empty ∨ (s.drive d).condition = .offline ∨ (s.drive d).condition = .faulted) :
    s.driveFaultRises d = s := by
  refine if_neg fun ⟨_, running⟩ => ?_
  obtain c | c | c := c <;> simp [c] at running

/-- Settles O38. -/
theorem driveLevelsAreTaken : Obligations.DriveLevelsAreTaken := by
  unfold Obligations.DriveLevelsAreTaken
  intro s d live c
  have levels : ((s.setReady d true).drive d) = { s.drive d with levels := { (s.drive d).levels with ready := true } } :=
    State.drive_modDrive_self ..
  refine ⟨fun empty low quiet => ?_, fun empty low fault => ?_, fun other => ?_, fun idle => ?_, fun idle => ?_,
    fun level => ⟨rfl, rfl, rfl⟩, rfl⟩
  · refine congrArg Host.Outcome.next ((if_pos ⟨live, low, empty⟩).trans ?_)
    rw [State.enterSpeedCheck_quiet (by rw [levels]; exact quiet), State.setReady, State.modDrive_modDrive]
    rfl
  · refine ⟨_, congrArg Host.Outcome.next ((if_pos ⟨live, low, empty⟩).trans
      (State.enterSpeedCheck_faults (by rw [levels]; exact fault))), ?_⟩
    rw [State.fault_drive, State.drive_modDrive_self, levels]
    exact ⟨rfl, rfl, rfl⟩
  · exact congrArg Host.Outcome.next (if_neg fun ⟨_, _, empty⟩ => other empty)
  · refine congrArg Host.Outcome.next (if_neg fun ⟨_, running⟩ => ?_)
    have idle : (s.drive d).condition = .empty ∨ (s.drive d).condition = .offline := idle
    obtain idle | idle := idle <;> simp [idle] at running
  · have same : ((s.setSense d .driveFault true).drive d).condition = (s.drive d).condition := by
      rw [State.setSense, State.drive_modDrive_self]
    exact congrArg Host.Outcome.next (State.driveFaultRises_idle (by rw [same]; exact idle))

/-! ### Index pulses (R22, R26, R31, R81) -/

/-- The channel does not see a pulse of a drive that it is not granted to (R47). -/
theorem State.channelPulse_elsewhere {s : State} {d : DriveId} (free : s.channel.granted ≠ some d) : s.channelPulse d = s := by
  unfold State.channelPulse
  split
  · rfl
  next v serving =>
    refine if_pos fun e => free ?_
    rw [← e]
    exact (State.Serving.of_service serving).granted

/-- Granted, an operation without an open gate counts the pulse (R47). -/
theorem State.Serving.channelPulse {s : State} {d : DriveId} {r : Request} {o : OpRecord} (v : s.Serving d r o)
    (gate : s.channel.gate = none) (noFormat : r.kind.isFormat = false) (noSweep : r.kind.isSweep = false) :
    s.channelPulse d = s.setOp d (some { o with pulses := min 2 (o.pulses + 1) }) := by
  simp [State.channelPulse, v.service, gate, noFormat, noSweep]

/-- An idle loaded head counts toward its unload delay (R31). -/
theorem DriveSeq.countIdle_eq (u : DriveSeq) (delay : Nat) : u.countIdle delay = { u with
    pos := if u.pos.state = .onTrack ∧ u.selected = none then { u.pos with unload := min delay (u.pos.unload + 1) } else u.pos } := by
  unfold DriveSeq.countIdle
  split <;> rfl

/-- Settles O41. -/
theorem indexPulsesTimeAndCount : Obligations.IndexPulsesTimeAndCount := by
  unfold Obligations.IndexPulsesTimeAndCount
  intro s d us live c t0 outside timed counted
  have index : (s.drive d).index.pulse us = timed := by
    unfold IndexTiming.pulse IndexTiming.period IndexTiming.outside inWindow
    cases seen : (s.drive d).index.pulseSeen <;> simp [timed, t0, outside, seen]
    split <;> simp_all
  have counts : ((s.modDrive d fun u => { u with index := u.index.pulse us }).modDrive d fun u => u.revolved s.cfg)
      = s.modDrive d counted := by
    rw [State.modDrive_modDrive]
    refine State.modDrive_congr ((DriveSeq.countIdle_eq _ _).trans ?_)
    simp only [index]
    rfl
  refine ⟨fun check => ?_, fun ready free => ?_, fun noCheck noReady => ?_, fun r o ready granted selected op gate noFormat noSweep => ?_,
    fun ready seen => ?_⟩
  · simp only [exec, execIndexPulse, live, c] at *
    simp only [check, Bool.false_eq_true, false_or, ne_eq, not_true_eq_false, false_and, if_false, reduceCtorEq]
    exact congrArg Host.Outcome.next (State.modDrive_congr (by rw [index]))
  · have run : exec (.indexPulse d us) s = .next ((s.modDrive d counted).channelPulse d) := by
      simp only [exec, execIndexPulse, live, counts]
      simp [show (s.drive d).condition = .ready from ready]
    rw [run, State.channelPulse_elsewhere (s := s.modDrive d counted) free]
  · simp [exec, execIndexPulse, show (s.drive d).condition ≠ .speedCheck from noCheck,
      show (s.drive d).condition ≠ .ready from noReady]
  · have run : exec (.indexPulse d us) s = .next ((s.modDrive d counted).channelPulse d) := by
      simp only [exec, execIndexPulse, live, counts]
      simp [show (s.drive d).condition = .ready from ready]
    have serving : (s.modDrive d counted).Serving d r o :=
      ⟨granted, by rw [State.drive_modDrive_self]; exact selected, op⟩
    rw [run, serving.channelPulse gate noFormat noSweep]
  · refine congrArg Host.Outcome.next ((if_pos ⟨ready, seen⟩).trans (State.modDrive_congr ?_))
    simp only [IndexTiming.outside, outside]
    rw [show (s.drive d).index.pulseSeen = true from seen]

/-! ### Recalibration and the mount that follows (R23, R27, R113) -/

/-- The report that a drive is ready places nothing but QUEUED requests and leaves the positioner alone (R27, R113). -/
theorem State.reportReady_keeps (s : State) (d : DriveId) :
    ((s.reportReady d).drive d).selected = (s.drive d).selected ∧ ((s.reportReady d).drive d).pos = (s.drive d).pos := by
  have placed {u v : DriveSeq} (q : List Request) (e : v = { u with queue := u.queue ++ q }) (queued : ∀ r ∈ q, r.state = .queued) :
      v.selected = u.selected ∧ v.pos = u.pos := by
    subst e
    refine ⟨?_, rfl⟩
    have none : q.find? (fun r => r.state != .queued) = none := List.find?_eq_none.mpr fun r new => by simp [queued r new]
    simp only [DriveSeq.selected, List.find?_append, none, Option.or_none]
  have due : ((s.modDrive d fun u => { u with reportDue := false }).drive d) = { s.drive d with reportDue := false } :=
    State.drive_modDrive_self ..
  unfold State.reportReady
  split
  · exact ⟨rfl, rfl⟩
  · split
    · rw [State.drive_modDrive_self]
      exact ⟨rfl, rfl⟩
    · unfold State.mountReport
      split
      · by_cases room : ((s.modDrive d fun u => { u with reportDue := false }).drive d).volumeFree = true
        · refine placed (u := { s.drive d with reportDue := false }) _ ((State.beginMount_drive room).trans (by rw [due])) ?_
          exact fun r here => (List.mem_singleton.mp here) ▸ rfl
        · rw [State.beginMount, State.placeVolume, if_neg (by simpa [State.resetMargins] using room)]
          have same : ((((s.modDrive d fun u => { u with reportDue := false }).modVol d fun _ =>
              { freshVolume with state := .mounting }).resetMargins d).drive d) = { s.drive d with reportDue := false } := due
          rw [same]
          exact ⟨rfl, rfl⟩
      · rw [due]
        exact ⟨rfl, rfl⟩
      · rw [due]
        exact ⟨rfl, rfl⟩
      · obtain ⟨q, drive, -, offered, -⟩ := ((s.modDrive d fun u => { u with reportDue := false }).offers_offered d).queue
        exact placed (u := { s.drive d with reportDue := false }) q (drive.trans (by rw [due]))
          fun r here => by obtain ⟨_, -, -, queued⟩ := offered r here; exact queued

/-- With no request selected no move begins (R29). -/
theorem State.beginMove_idle {s : State} {d : DriveId} (idle : (s.drive d).selected = none) : s.beginMove d = s := by
  simp only [State.beginMove, idle]

/-- Settles O42. -/
theorem speedReachedRecalibratesToZero : Obligations.SpeedReachedRecalibratesToZero := by
  unfold Obligations.SpeedReachedRecalibratesToZero
  refine ⟨fun s d live check run quiet => ⟨fun off => ?_, fun on startUp empty => ?_⟩,
    fun s d tm recal => ⟨fun step => ⟨fun zero => ?_, fun off left => ?_, fun off last => ?_⟩, fun settle => ?_⟩⟩
  · refine congrArg Host.Outcome.next ((if_pos ⟨live, check, run⟩).trans ?_)
    have entered : s.enterReady d = (s.modDrive d fun u => { u with
        condition := .ready, noIndexTimer := false, reportDue := true, reportHeld := false, pos := u.pos.toUnknown }).recalibrate d :=
      if_neg (by simp [quiet])
    rw [entered, State.recalibrate, if_neg (by rw [State.drive_modDrive_self]; simp [off]), State.modPos, State.modDrive_modDrive]
    rfl
  · refine congrArg Host.Outcome.next ((if_pos ⟨live, check, run⟩).trans ?_)
    have entered : s.enterReady d = (s.modDrive d fun u => { u with
        condition := .ready, noIndexTimer := false, reportDue := true, reportHeld := false, pos := u.pos.toUnknown }).recalibrate d :=
      if_neg (by simp [quiet])
    rw [entered, State.recalibrate, if_pos (by rw [State.drive_modDrive_self]; exact on), State.restedAtZero, State.modPos_modPos,
      State.modPos, State.modDrive_modDrive, State.reportReady, if_neg (by rw [State.drive_modDrive_self]; simp),
      if_pos (by exact startUp), State.modDrive_modDrive,
      State.beginMove_idle (by rw [State.drive_modDrive_self]; simp [DriveSeq.selected, empty])]
    rfl
  · refine congrArg Host.Outcome.next ((if_pos ⟨recal, Option.isSome_iff_exists.mpr ⟨tm, step⟩⟩).trans (if_pos zero))
  · refine congrArg Host.Outcome.next ((if_pos ⟨recal, Option.isSome_iff_exists.mpr ⟨tm, step⟩⟩).trans ((if_neg (by simp [off])).trans (if_neg left)))
  · refine ⟨_, congrArg Host.Outcome.next ((if_pos ⟨recal, Option.isSome_iff_exists.mpr ⟨tm, step⟩⟩).trans ((if_neg (by simp [off])).trans (if_pos last))), ?_⟩
    rw [State.fault_drive]
    exact ⟨rfl, rfl, rfl⟩
  · refine ⟨_, congrArg Host.Outcome.next (if_pos ⟨recal, Option.isSome_iff_exists.mpr ⟨tm, settle⟩⟩), ?_⟩
    have atRest := State.drive_modPos_self s d fun p => p.atZero 0
    refine ⟨fun idle => ?_, fun idle due => ?_, fun due running noVolume empty => ?_⟩
    · have idle : ((s.modPos d fun p => p.atZero 0).drive d).selected = none := (State.selected_modPos ..).trans idle
      obtain ⟨kept, pos⟩ := State.reportReady_keeps (s.modPos d fun p => p.atZero 0) d
      have still := kept.trans idle
      rw [State.restedAtZero, State.beginMove_idle still, pos, atRest]
      rfl
    · have silent : (s.modPos d fun p => p.atZero 0).reportReady d = s.modPos d fun p => p.atZero 0 :=
        if_pos (by rw [atRest]; exact due)
      rw [State.restedAtZero, silent, State.beginMove_idle ((State.selected_modPos ..).trans idle), atRest]
      rfl
    · generalize start : ((s.modPos d fun p => p.atZero 0).modDrive d fun u => { u with reportDue := false }) = u
      have drive : u.drive d = { s.drive d with pos := (s.drive d).pos.atZero 0, reportDue := false } := by
        rw [← start, State.drive_modDrive_self, atRest]
      have vol : u.vol d = s.vol d := by rw [← start]; rfl
      have room : (u.drive d).volumeFree = true := by
        simp [drive, DriveSeq.volumeFree, DriveSeq.volumePlaces, empty]
      have mounts : s.restedAtZero d 0 = u.beginMount d := by
        rw [State.restedAtZero, State.reportReady, if_neg (by rw [atRest]; simp [due]), if_neg (by exact running), start, State.mountReport, vol,
          noVolume]
        refine State.beginMove_idle ?_
        rw [State.beginMount_drive room, drive]
        simp [empty, DriveSeq.selected, labelRequest, Request.fresh]
      have placed : u.beginMount d
          = ((u.modVol d fun _ => { freshVolume with state := .mounting }).resetMargins d).place d labelRequest :=
        if_pos room
      have within : s.Within (u.beginMount d) d := by
        rw [← start]
        exact .beginMount (.modDrive (.modPos (.refl s d) _) _)
      rw [mounts]
      refine ⟨by rw [State.beginMount_drive room, drive], State.beginMount_vol u d,
        ⟨{ labelRequest with arrival := u.arrival }, by rw [State.beginMount_drive room, drive]; simp [empty], rfl, rfl, rfl, rfl, rfl,
          rfl, rfl, by rw [← start]; rfl⟩, fun z => ?_, within.others, ?_⟩
      · rw [placed]
        show State.margin ((u.modVol d fun _ => { freshVolume with state := .mounting }).resetMargins d) d z = _
        rw [State.resetMargins, State.margin_setMargin, State.margin_setMargin]
        cases z <;> simp [← start]
      · rw [placed, ← start]
        rfl

/-! ### Moves (R29 to R32) -/

/-- A drive with a request asks, but for a write during the long inhibit (R43, R66). -/
theorem State.ask_asks {s : State} {d : DriveId} {r : Request} (selected : (s.drive d).selected = some r)
    (may : s.channel.longInhibit = false ∨ r.kind.isWrite = false) : s.ask d = s.setAsking d true := by
  simp only [State.ask, selected]
  refine if_neg ?_
  obtain h | h := may <;> simp [h]

/-- Settles O43. -/
theorem movesEndOnTrack : Obligations.MovesEndOnTrack := by
  unfold Obligations.MovesEndOnTrack
  intro s d tm c r p0 onTrack
  have arrives (f : Positioner → Positioner) (selected : (s.drive d).selected = some r)
      (may : s.channel.longInhibit = false ∨ r.kind.isWrite = false) : (s.modPos d f).arrive d = onTrack f := by
    rw [State.arrive, State.modPos_modPos, State.ask_asks ((State.selected_modPos ..).trans selected) may]
  refine ⟨fun moving step at_c left => ?_, fun moving step last => ?_, fun selected may => ⟨fun settling settle load => ?_,
    fun settling settle load => ?_, fun moving step load => ?_⟩, fun settling settle load => ?_, fun load waits => ?_,
    fun track idle delay => ?_, fun early => ?_, fun recal settle due selected => ?_⟩
  · refine congrArg Host.Outcome.next ((if_pos ⟨moving, Option.isSome_iff_exists.mpr ⟨tm, step⟩⟩).trans ((if_neg left).trans (State.modPos_congr ?_)))
    simp only [Positioner.stepPulse]
    rw [show (s.drive d).pos.cylinder = some c from at_c]
    rfl
  · exact congrArg Host.Outcome.next ((if_pos ⟨moving, Option.isSome_iff_exists.mpr ⟨tm, step⟩⟩).trans (if_pos last))
  · exact congrArg Host.Outcome.next ((if_pos ⟨settling, Option.isSome_iff_exists.mpr ⟨tm, settle⟩⟩).trans ((if_pos (Option.isNone_iff_eq_none.mpr load)).trans
      (arrives _ selected may)))
  · exact congrArg Host.Outcome.next ((if_pos (Option.isSome_iff_exists.mpr ⟨tm, load⟩)).trans ((if_pos (.inl ⟨settling, settle⟩)).trans
      (arrives _ selected may)))
  · exact congrArg Host.Outcome.next ((if_pos (Option.isSome_iff_exists.mpr ⟨tm, load⟩)).trans ((if_pos (.inr ⟨moving, step⟩)).trans
      (arrives _ selected may)))
  · exact congrArg Host.Outcome.next ((if_pos ⟨settling, Option.isSome_iff_exists.mpr ⟨tm, settle⟩⟩).trans (if_neg (mt Option.isNone_iff_eq_none.mp load)))
  · refine congrArg Host.Outcome.next ((if_pos (Option.isSome_iff_exists.mpr ⟨tm, load⟩)).trans (if_neg ?_))
    have waits : (s.drive d).pos.state = .settling ∧ (s.drive d).pos.settleTimer ≠ none
        ∨ (s.drive d).pos.state = .moving ∧ (s.drive d).pos.stepTimer ≠ none := waits
    obtain ⟨state, timer⟩ | ⟨state, timer⟩ := waits <;> simp [state, timer]
  · exact congrArg Host.Outcome.next (if_pos ⟨track, idle, delay⟩)
  · exact congrArg Host.Outcome.next (if_neg fun ⟨_, _, delay⟩ => absurd early (Nat.not_lt.mpr delay))
  · refine congrArg Host.Outcome.next ((if_pos ⟨recal, Option.isSome_iff_exists.mpr ⟨tm, settle⟩⟩).trans ?_)
    have atRest := State.drive_modPos_self s d fun p => p.atZero 0
    have silent : (s.modPos d fun p => p.atZero 0).reportReady d = s.modPos d fun p => p.atZero 0 :=
      if_pos (by rw [atRest]; exact due)
    have selected : ((s.modPos d fun p => p.atZero 0).drive d).selected = some r := (State.selected_modPos ..).trans selected
    have pos : ((s.modPos d fun p => p.atZero 0).drive d).pos = (s.drive d).pos.atZero 0 := by rw [atRest]
    have moves : (s.modPos d fun p => p.atZero 0).beginMove d
        = (s.modPos d fun p => p.atZero 0).modPos d fun p => p.moveTo r.cylinder 0 s.cfg := by
      unfold State.beginMove
      dsimp only
      rw [selected, pos]
      exact (if_neg fun h => nomatch h.1).trans (if_pos (Or.inr rfl))
    rw [State.restedAtZero, silent, moves, State.modPos_modPos]
    refine State.modPos_congr ?_
    unfold Positioner.moveTo
    by_cases zero : r.cylinder = 0
    · simp [Positioner.enterMoving, Positioner.atZero, Positioner.toUnknown, freshPositioner, cylinderDistance, zero]
    · simp [Positioner.enterMoving, Positioner.atZero, Positioner.toUnknown, freshPositioner, cylinderDistance, zero,
        Positioner.stepPulse, Nat.pos_of_ne_zero zero]
      omega

end Sys2Proof.Machine
end

section
/-! Settlement of the statements on selection and on the channel's grant (Chapter 4, section 3.1). -/
namespace Sys2Proof.Machine

/-! ### The requests that may be selected (R76) -/

/-- Request `i` of a queue is QUEUED and barred by no older one (R76). -/
def Candidate (q : List Request) (i : Nat) (r : Request) : Prop :=
  q[i]? = some r ∧ r.state = .queued ∧ ∀ j y, j < i → q[j]? = some y → y.bars r = false

/-- The candidates behind the requests `older` of a queue. -/
theorem mem_candidates_after {i : Nat} {r : Request} (older rest : List Request) : (i, r) ∈ candidates older rest
    ↔ older.length ≤ i ∧ Candidate (older ++ rest) i r := by
  induction rest generalizing older with
  | nil =>
    refine ⟨fun here => absurd here List.not_mem_nil, fun ⟨low, here, _⟩ => ?_⟩
    rw [List.append_nil, List.getElem?_eq_none low] at here
    cases here
  | cons x rest ih =>
    have tail := ih (older ++ [x])
    rw [List.length_append, List.length_singleton, List.append_assoc, List.singleton_append] at tail
    have here : Candidate (older ++ x :: rest) older.length x ↔ x.state = .queued ∧ older.any (fun o => o.bars x) = false := by
      unfold Candidate
      rw [List.getElem?_append_right le_rfl, Nat.sub_self, List.getElem?_cons_zero]
      simp only [true_and, List.any_eq_false, Bool.not_eq_true]
      refine and_congr_right fun _ => ⟨fun h y hy => ?_, fun h j y lt at_j => ?_⟩
      · obtain ⟨j, lt, rfl⟩ := List.getElem_of_mem hy
        exact h j _ lt (by rw [List.getElem?_append_left lt, List.getElem?_eq_getElem lt])
      · rw [List.getElem?_append_left lt] at at_j
        exact h y (List.mem_of_getElem? at_j)
    have split : older.length ≤ i ∧ Candidate (older ++ x :: rest) i r
        ↔ (i = older.length ∧ r = x ∧ Candidate (older ++ x :: rest) older.length x)
          ∨ (older.length + 1 ≤ i ∧ Candidate (older ++ x :: rest) i r) := by
      constructor
      · rintro ⟨low, found⟩
        obtain rfl | later := Nat.eq_or_lt_of_le low
        · have at_i := found.1
          rw [List.getElem?_append_right le_rfl, Nat.sub_self, List.getElem?_cons_zero] at at_i
          obtain rfl := Option.some.inj at_i
          exact .inl ⟨rfl, rfl, found⟩
        · exact .inr ⟨later, found⟩
      · rintro (⟨rfl, rfl, found⟩ | ⟨later, found⟩)
        · exact ⟨le_rfl, found⟩
        · exact ⟨by omega, found⟩
    rw [split, here, ← tail, candidates]
    split
    next first => simp [first]
    next absent => exact (or_iff_right fun h => absent h.2.2).symm

theorem mem_candidates {i : Nat} {r : Request} {q : List Request} : (i, r) ∈ candidates [] q ↔ Candidate q i r := by
  simp [mem_candidates_after]

/-- The candidates stand in the order of their positions. -/
theorem candidates_rising (older rest : List Request) : (candidates older rest).Pairwise fun x y => x.1 < y.1 := by
  induction rest generalizing older with
  | nil => exact List.Pairwise.nil
  | cons x rest ih =>
    rw [candidates]
    split
    · refine List.pairwise_cons.mpr ⟨fun y later => ?_, ih _⟩
      have := ((mem_candidates_after (i := y.1) (r := y.2) _ _).mp later).1
      simp only [List.length_append, List.length_singleton] at this
      exact this
    · exact ih _

/-! ### The one chosen (R77 to R79) -/

/-- The first of a rising list that a predicate holds of. -/
theorem find?_of_lowest {α : Type} {place : α → Nat} {xs : List α} (rising : xs.Pairwise fun x y => place x < place y)
    {p : α → Bool} {x : α} (here : x ∈ xs) (holds : p x = true) (low : ∀ y ∈ xs, p y = true → place x ≤ place y) :
    xs.find? p = some x := by
  induction xs with
  | nil => exact absurd here List.not_mem_nil
  | cons y ys ih =>
    obtain ⟨later, rising⟩ := List.pairwise_cons.mp rising
    obtain rfl | here := List.mem_cons.mp here
    · exact List.find?_cons_of_pos holds
    · have no : ¬ p y = true := fun yes => absurd (low y (List.mem_cons_self ..) yes) (Nat.not_le.mpr (later x here))
      rw [List.find?_cons_of_neg no]
      exact ih rising here fun z hz => low z (List.mem_cons_of_mem _ hz)

theorem cheapest_none {cost : Request → Nat} {xs : List (Nat × Request)} : cheapest cost xs = none ↔ xs = [] := by
  cases xs with
  | nil => exact ⟨fun _ => rfl, fun _ => rfl⟩
  | cons x rest =>
    refine ⟨fun h => ?_, fun h => nomatch h⟩
    rw [cheapest] at h
    split at h
    · split at h <;> cases h
    · cases h

theorem cheapest_mem {cost : Request → Nat} {xs : List (Nat × Request)} {z : Nat × Request} (found : cheapest cost xs = some z) :
    z ∈ xs := by
  induction xs generalizing z with
  | nil => cases found
  | cons x rest ih =>
    rw [cheapest] at found
    split at found
    next y later =>
      split at found <;> obtain rfl := Option.some.inj found
      · exact List.mem_cons_of_mem _ (ih later)
      · exact List.mem_cons_self ..
    next =>
      obtain rfl := Option.some.inj found
      exact List.mem_cons_self ..

/-- The cheapest of a rising list, the first of two as cheap (R79). -/
theorem cheapest_of_best {cost : Request → Nat} {xs : List (Nat × Request)} (rising : xs.Pairwise fun x y => x.1 < y.1)
    {x : Nat × Request} (here : x ∈ xs) (best : ∀ y ∈ xs, cost x.2 ≤ cost y.2 ∧ (cost y.2 = cost x.2 → x.1 ≤ y.1)) :
    cheapest cost xs = some x := by
  induction xs with
  | nil => exact absurd here List.not_mem_nil
  | cons y ys ih =>
    obtain ⟨later, rising⟩ := List.pairwise_cons.mp rising
    rw [cheapest]
    obtain rfl | here := List.mem_cons.mp here
    · split
      next z found =>
        have member := cheapest_mem found
        exact if_neg (Nat.not_lt.mpr (best z (List.mem_cons_of_mem _ member)).1)
      next => rfl
    · rw [ih rising here fun z hz => best z (List.mem_cons_of_mem _ hz)]
      obtain ⟨cheaper, tie⟩ := best y (List.mem_cons_self ..)
      refine if_pos (Nat.lt_of_le_of_ne cheaper fun same => ?_)
      exact absurd (tie same.symm) (Nat.not_le.mpr (later x here))

/-! ### The queue after a selection (R80) -/

theorem selectAt_getElem? (limit k : Nat) (q : List Request) (i : Nat) : (selectAt limit k q)[i]? = q[i]?.map fun x =>
    if i = k then { x with state := .selected }
    else if i < k ∧ x.state = .queued ∧ x.passed < limit then { x with passed := x.passed + 1 } else x := by
  induction q generalizing k i with
  | nil => cases k <;> rfl
  | cons r rest ih =>
    cases k with
    | zero =>
      cases i with
      | zero => rfl
      | succ i => simp [selectAt]
    | succ k =>
      cases i with
      | zero => simp [selectAt]
      | succ i => simp [selectAt, ih]

theorem selectAt_length (limit k : Nat) (q : List Request) : (selectAt limit k q).length = q.length := by
  induction q generalizing k with
  | nil => cases k <;> rfl
  | cons r rest ih => cases k <;> simp [selectAt, ih]

/-- The request selected is the only one not QUEUED. -/
theorem selected_selectAt {limit k : Nat} {q : List Request} {r : Request} (idle : ∀ x ∈ q, x.state = .queued) (here : q[k]? = some r) :
    (selectAt limit k q).find? (fun x => x.state != .queued) = some { r with state := .selected } := by
  induction q generalizing k with
  | nil => cases here
  | cons x rest ih =>
    cases k with
    | zero =>
      obtain rfl := Option.some.inj here
      rfl
    | succ k =>
      have first := idle x (List.mem_cons_self ..)
      rw [selectAt, List.find?_cons_of_neg (by split <;> simp [first])]
      exact ih (fun y hy => idle y (List.mem_cons_of_mem _ hy)) here

/-- The choice of the service order (R77 to R79). -/
theorem choose_index {cfg : ConfigRecord} {step k : Nat} {cost : Request → Nat} {q : List Request} {r : Request}
    (which : ((Candidate q k r ∧ r.passed = cfg.bypass) ∧ ∀ i x, Candidate q i x ∧ x.passed = cfg.bypass → k ≤ i)
      ∨ ((∀ i x, ¬ (Candidate q i x ∧ x.passed = cfg.bypass)) ∧ (Candidate q k r ∧ r.eligible cfg step = true)
          ∧ ∀ i x, Candidate q i x ∧ x.eligible cfg step = true → cost r ≤ cost x ∧ (cost x = cost r → k ≤ i))
      ∨ ((∀ i x, ¬ (Candidate q i x ∧ x.passed = cfg.bypass)) ∧ (∀ i x, ¬ (Candidate q i x ∧ x.eligible cfg step = true))
          ∧ Candidate q k r ∧ ∀ i x, Candidate q i x → cost r ≤ cost x ∧ (cost x = cost r → k ≤ i))) :
    ∃ c, choose cfg step cost q = some c ∧ c.index = k := by
  have rising := candidates_rising [] q
  have unforced (unforced : ∀ i x, ¬ (Candidate q i x ∧ x.passed = cfg.bypass)) :
      (candidates [] q).find? (fun x => x.2.passed == cfg.bypass) = none := by
    refine List.find?_eq_none.mpr fun x here forced => unforced x.1 x.2 ⟨mem_candidates.mp here, by simpa using forced⟩
  unfold choose
  dsimp only
  obtain ⟨⟨here, forced⟩, low⟩ | ⟨none, ⟨here, able⟩, best⟩ | ⟨none, unable, here, best⟩ := which
  · rw [find?_of_lowest rising (mem_candidates.mpr here) (by simpa using forced)
      fun y hy forced => low y.1 y.2 ⟨mem_candidates.mp hy, by simpa using forced⟩]
    exact ⟨_, rfl, rfl⟩
  · rw [unforced none, cheapest_of_best (rising.filter _) (List.mem_filter.mpr ⟨mem_candidates.mpr here, able⟩) fun y hy =>
      best y.1 y.2 ⟨mem_candidates.mp (List.mem_filter.mp hy).1, (List.mem_filter.mp hy).2⟩]
    exact ⟨_, rfl, rfl⟩
  · have noneAble : (candidates [] q).filter (fun x => x.2.eligible cfg step) = [] :=
      List.filter_eq_nil_iff.mpr fun x hx able => unable x.1 x.2 ⟨mem_candidates.mp hx, able⟩
    rw [unforced none, noneAble, cheapest_of_best rising (mem_candidates.mpr here) fun y hy => best y.1 y.2 (mem_candidates.mp hy)]
    exact ⟨_, rfl, rfl⟩

/-- Without a candidate there is no choice. -/
theorem choose_none {cfg : ConfigRecord} {step : Nat} {cost : Request → Nat} {q : List Request}
    (none : ∀ i x, ¬ Candidate q i x) : choose cfg step cost q = Option.none := by
  have nothing : candidates [] q = [] := List.eq_nil_iff_forall_not_mem.mpr fun x here => none x.1 x.2 (mem_candidates.mp here)
  rw [choose, nothing]
  rfl

/-- The move to another cylinder, its first step made (R29). -/
theorem Positioner.moveTo_away {p : Positioner} {target c : Nat} (at_c : p.cylinder = some c) (away : target ≠ c)
    (cfg : ConfigRecord) : p.moveTo target c cfg = { p with
      state := .moving, target := some target, headLoaded := true
      loadTimer := if p.headLoaded then none else some cfg.headLoad
      cylinder := some (if c < target then c + 1 else c - 1), inward := decide (c < target)
      remaining := (target - c) + (c - target) - 1, stepTimer := some cfg.stepPeriod } := by
  have distance : cylinderDistance c target = (target - c) + (c - target) := by
    unfold cylinderDistance
    split <;> omega
  have inward : (if c < target then true else if target < c then false else p.inward) = decide (c < target) := by
    by_cases up : c < target
    · simp [up]
    · simp [up, show target < c by omega]
  unfold Positioner.moveTo
  dsimp only [Positioner.enterMoving]
  rw [distance, if_neg (by omega), inward]
  simp [Positioner.stepPulse, at_c]

/-- The move to the cylinder at hand makes no step (R29). -/
theorem Positioner.moveTo_here (p : Positioner) (c : Nat) (cfg : ConfigRecord) : p.moveTo c c cfg = { p with
    state := .moving, target := some c, headLoaded := true, loadTimer := if p.headLoaded then none else some cfg.headLoad
    remaining := 0 } := by
  simp [Positioner.moveTo, Positioner.enterMoving, cylinderDistance]

/-- Settles O44: the choice by the rule, the queue by `selectAt`, and the move by its three cases. -/
theorem selectionFollowsTheServiceOrder : Obligations.SelectionFollowsTheServiceOrder := by
  unfold Obligations.SelectionFollowsTheServiceOrder
  intro s d us c k may at_c supply q cost cand forced able best
  obtain ⟨⟨idle, ready⟩, still⟩ : ((s.drive d).selected.isNone = true ∧ (s.drive d).condition = .ready)
      ∧ ((s.drive d).pos.state = .resting ∨ (s.drive d).pos.state = .onTrack) := by
    simpa [DriveSeq.maySelect] using may
  have queued : ∀ x ∈ q, x.state = .queued := by
    simpa [DriveSeq.selected] using idle
  have choice : s.choice d us = choose s.cfg (s.drive d).patternStep cost q := by
    simp only [State.choice, at_c]
    rfl
  refine ⟨fun r which => ?_, fun none => ?_⟩
  · have here : q[k]? = some r := by
      obtain ⟨⟨⟨here, _⟩, _⟩, _⟩ | ⟨_, ⟨⟨here, _⟩, _⟩, _⟩ | ⟨_, _, ⟨here, _⟩, _⟩ := which <;> exact here
    obtain ⟨e, chosen, rfl⟩ := choose_index (cost := cost) which
    have run : exec (.selection d us) s = .next ((s.modDrive d fun u => u.took s.cfg.bypass e).beginMove d) := by
      simp only [exec, execSelection, State.select, may, if_true, choice, chosen]
    generalize start : (s.modDrive d fun u => u.took s.cfg.bypass e) = u at run
    have drive : u.drive d = (s.drive d).took s.cfg.bypass e := by rw [← start]; exact State.drive_modDrive_self ..
    have selected : (u.drive d).selected = some { r with state := .selected } := by
      rw [drive]
      exact selected_selectAt queued here
    have pos : (u.drive d).pos = { (s.drive d).pos with unload := 0 } := by rw [drive]; rfl
    refine ⟨_, run, ?_⟩
    have asks (track : (s.drive d).pos.state = .onTrack) (same : r.cylinder = c) : u.beginMove d = u.setAsking d true := by
      unfold State.beginMove
      dsimp only
      rw [selected, pos]
      dsimp only
      rw [at_c]
      refine (if_pos ⟨track, same⟩).trans (State.ask_asks selected (.inl ?_))
      rw [← start]
      exact supply
    have steps (leaves : ¬ ((s.drive d).pos.state = .onTrack ∧ r.cylinder = c)) :
        u.beginMove d = u.modPos d fun p => p.moveTo r.cylinder c s.cfg := by
      unfold State.beginMove
      dsimp only
      rw [selected, pos]
      dsimp only
      rw [at_c]
      refine (if_neg leaves).trans ((if_pos still.symm).trans ?_)
      rw [← start]
      rfl
    have moves : u.beginMove d = u.setAsking d true ∨ u.beginMove d = u.modPos d fun p => p.moveTo r.cylinder c s.cfg := by
      by_cases here : (s.drive d).pos.state = .onTrack ∧ r.cylinder = c
      · exact .inl (asks here.1 here.2)
      · exact .inr (steps here)
    have within : s.Within (u.beginMove d) d := by
      rw [← start]
      exact .beginMove (.modDrive (.refl s d) _)
    have vol : (u.beginMove d).vols = s.vols ∧ (u.beginMove d).regions = s.regions ∧ (u.beginMove d)
        = { s with drives := (u.beginMove d).drives, channel := { s.channel with asking := (u.beginMove d).channel.asking } } := by
      obtain e | e := moves <;> rw [e, ← start] <;> exact ⟨rfl, rfl, rfl⟩
    obtain ⟨vols, regions, whole⟩ := vol
    obtain ⟨p, after⟩ : ∃ p, (u.beginMove d).drive d = { (s.drive d).took s.cfg.bypass e with pos := p } := by
      obtain e | e := moves <;> rw [e]
      · exact ⟨(u.drive d).pos, by rw [State.setAsking_drive, drive]⟩
      · exact ⟨_, (State.drive_modPos_self ..).trans (by rw [drive])⟩
    have queue : ((u.beginMove d).drive d).queue = selectAt s.cfg.bypass e.index q := by rw [after]; rfl
    refine ⟨fun i x at_i => ?_, ?_, by rw [after]; rfl, by rw [after]; rfl, by rw [after]; rfl, within.others, vols, regions, whole,
      fun track same => ?_, fun away => ?_, fun rest same => ?_⟩
    · rw [queue, selectAt_getElem?, at_i]
      rfl
    · rw [queue, selectAt_length]
    · rw [asks track same]
      exact ⟨by rw [State.setAsking_drive, pos], fun e => (vector_get_set ..).trans (by rw [← start]; simp only [eq_comm (a := d)]; rfl)⟩
    · rw [steps fun here => away here.2]
      refine ⟨by rw [← start]; rfl, (congrArg DriveSeq.pos (State.drive_modPos_self ..)).trans ?_⟩
      show (u.drive d).pos.moveTo r.cylinder c s.cfg = _
      rw [pos]
      exact Positioner.moveTo_away (p := { (s.drive d).pos with unload := 0 }) at_c away s.cfg
    · rw [steps (by rw [rest]; simp)]
      refine ⟨by rw [← start]; rfl, (congrArg DriveSeq.pos (State.drive_modPos_self ..)).trans ?_⟩
      show (u.drive d).pos.moveTo r.cylinder c s.cfg = _
      rw [pos, same]
      exact Positioner.moveTo_here _ c s.cfg
  · simp only [exec, execSelection, State.select, may, if_true, choice, choose_none none]

/-! ### The channel's grant (R43 to R46) -/

/-- The place of a drive in the rotation after another (R43). -/
def rotationPlace (last e : DriveId) : Nat := (e - last - 1).val

theorem rotation_rising : ∀ last : DriveId, (rotationAfter last).Pairwise fun d e => rotationPlace last d < rotationPlace last e := by
  decide

theorem mem_rotation : ∀ last e : DriveId, e ∈ rotationAfter last := by decide

theorem State.grantable_iff {s : State} {d : DriveId} : s.grantable d = true ↔ s.channel.asking.get d = true
    ∧ ∃ x, (s.drive d).selected = some x ∧ (s.channel.inhibit = false ∨ x.kind.isWrite = false) := by
  unfold State.grantable
  cases (s.drive d).selected with
  | none => simp
  | some x => simp

/-- The next grant is the first grantable drive of the rotation (R43). -/
theorem State.nextGrant_eq {s : State} {d : DriveId} (free : s.channel.granted = none) (running : s.part.drainOver = false)
    (may : s.grantable d = true)
    (first : ∀ e, (e - s.channel.last - 1 : Fin 4) < (d - s.channel.last - 1 : Fin 4) → ¬ s.grantable e = true) :
    s.nextGrant = some d := by
  unfold State.nextGrant
  rw [if_pos ⟨free, running⟩]
  exact find?_of_lowest (rotation_rising _) (mem_rotation _ d) may fun e _ grantable =>
    Nat.not_lt.mp fun before => first e before grantable

theorem State.nextGrant_none {s : State} (no : ∀ e, ¬ s.grantable e = true) : s.nextGrant = none := by
  unfold State.nextGrant
  split
  · exact List.find?_eq_none.mpr fun e _ => no e
  · rfl

/-- A selected request changed in its place stays the selected one. -/
theorem State.selected_modSelected {s : State} {d : DriveId} {r : Request} (h : (s.drive d).selected = some r)
    {f : Request → Request} (stays : ∀ x, (f x).state ≠ .queued) : ((s.modSelected d f).drive d).selected = some (f r) := by
  unfold State.modSelected State.modQueue
  rw [State.drive_modDrive_self]
  unfold DriveSeq.selected at h ⊢
  rw [List.find?_map, show ((fun r : Request => r.state != .queued) ∘ fun r => if r.state != .queued then f r else r)
      = fun r => r.state != .queued from ?_, h]
  · have held := List.find?_some h
    exact congrArg some (if_pos held)
  · funext x
    by_cases q : x.state = .queued <;> simp [q, bne, stays]

theorem State.modSelected_pos (s : State) (d : DriveId) (f : Request → Request) :
    ((s.modSelected d f).drive d).pos = (s.drive d).pos := by
  unfold State.modSelected
  rw [State.drive_modQueue, if_pos rfl]

/-- Settles O45: the rotation chooses the drive, and the grant is read off field by field. -/
theorem channelGrantRotates : Obligations.ChannelGrantRotates := by
  unfold Obligations.ChannelGrantRotates
  intro s d r free running selected may
  refine ⟨fun here first => ?_, fun no => ?_⟩
  · intro zone begun
    have run : exec .channelGrant s = .next (s.grant d r) := by
      simp only [exec, execChannelGrant, State.nextGrant_eq free running (State.grantable_iff.mpr here) fun e before yes =>
        first e before (State.grantable_iff.mp yes), selected]
    have chosen : (((((s.modChannel fun c => { c with granted := some d, last := d }).setAsking d false).modSelected d
        (s.serviced d)).drive d).selected = some (s.serviced d r)) :=
      State.selected_modSelected selected fun x => by simp [State.serviced]
    refine ⟨s.grant d r, begun (s.grantOp d r), s.serviced d r, run, rfl, rfl, rfl, fun e => ?_, ?_, ?_, fun plain => ?_, fun sweep => ?_,
      State.op_setOp_self .., fun fresh => ?_, fun p kept other => ?_, fun p kept waits => by simp only [State.grantOp, kept, waits], ?_, rfl, ?_, rfl⟩
    · exact (vector_get_set ..).trans (by simp only [eq_comm (a := d)]; rfl)
    · exact (State.selected_modPos (_ : State) d (fun p => { p with unload := 0 })).trans chosen
    · simp [State.serviced]
    · simp [State.serviced, plain]
    · simp only [State.serviced, sweep, if_true, State.sweepProfile]
      refine ⟨fun cylinder head => if_pos ⟨cylinder, head⟩, fun away => (if_neg away).trans ?_⟩
      cases (s.vol d).profile <;> rfl
    · have started : s.grantOp d r = if r.kind.isSweep
          then { freshOp (s.serviced d r).profile.spt with sweepLeft := strobeOrder.filter s.cfg.allows }
          else freshOp (s.serviced d r).profile.spt := by
        simp only [State.grantOp, fresh]
      rw [started]
      split <;> simp [begun, freshOp, strobeOrder]
    · simp only [State.grantOp, kept]
    · have here : (s.grant d r).drive d = _ := State.drive_modPos_self (_ : State) d (fun p => { p with unload := 0 })
      rw [here]
      exact congrArg (fun p : Positioner => { p with unload := 0 }) (State.modSelected_pos ..)
    · exact ((((State.Within.refl s d).modChannel (.same rfl rfl rfl rfl)).setAsking _).modSelected _ |>.modPos _
        |>.startAttempt _ _ _ _).others
  · simp only [exec, execChannelGrant, State.nextGrant_none fun e yes => no e (State.grantable_iff.mp yes)]

end Sys2Proof.Machine
end

section
/-! Settlement of the statements on the story requests that change an entry (sections 7.5 to 7.8). -/
namespace Sys2Proof.Machine

/-! ### An entry changed (R130, R148) -/

/-- What a story request has changed when its write-back is still to be asked for: the claim and watch unit and, of the
volume of drive `d`, the entry `n`, its index sector, which is no longer CLEAN, and the free set, which is `free`. -/
structure State.Changing (s t : State) (l : Line) (b : BufId) (h : Held) (d : DriveId) (p : Profile) (n : Nat) (e : Entry)
    (free : List Nat) : Prop where
  only   : t = { s.takenBy l b h with vols := t.vols, cw := t.cw }
  vols   : ∀ x, x ≠ d → t.vol x = s.vol x
  volume : t.vol d = { s.vol d with entries := (t.vol d).entries, sectors := (t.vol d).sectors, free := free }
  entry  : (t.vol d).entry n = e
  alone  : ∀ m, m ≠ n → (t.vol d).entry m = (s.vol d).entry m
  dirty  : (t.vol d).sector (p.sectorOf n) ≠ .clean

theorem Volume.entry_set (v : Volume) {n : Nat} (low : n < 256) (m : Nat) (e : Entry) :
    ({ v with entries := v.entries.setIfInBounds n e } : Volume).entry m = if n = m then e else v.entry m := by
  simp only [Volume.entry, Vector.getD, Vector.toArray_setIfInBounds, Array.getD_eq_getD_getElem?, Array.getElem?_setIfInBounds]
  split
  next same => simp [low]
  next => rfl

theorem SectorState.changed_ne_clean (x : SectorState) : x.changed ≠ .clean := by cases x <;> decide

section
variable {s t u : State} {l : Line} {b : BufId} {h : Held} {d : DriveId} {p : Profile} {n : Nat} {e : Entry} {free : List Nat}

/-- A change of an entry, from a state that differs from `s` in its claim unit and the free set alone. -/
theorem State.Changing.of_changeEntry (only : t = { s.takenBy l b h with vols := t.vols, cw := t.cw })
    (vols : ∀ x, x ≠ d → t.vol x = s.vol x) (volume : t.vol d = { s.vol d with free := free }) (low : n < 256)
    (sector : p.sectorOf n < (s.vol d).sectors.length) (e : Entry) :
    s.Changing (t.changeEntry d p n e) l b h d p n e free := by
  have after : (t.changeEntry d p n e).vol d = { t.vol d with
      entries := (t.vol d).entries.setIfInBounds n e
      sectors := (t.vol d).sectors.set (p.sectorOf n) ((t.vol d).sector (p.sectorOf n)).changed } := by
    unfold State.changeEntry State.setSector State.setEntry
    rw [State.vol_modVol_self, State.vol_modVol_self]
  have entries (m : Nat) : ((t.changeEntry d p n e).vol d).entry m = if n = m then e else (s.vol d).entry m := by
    rw [after]
    refine (Volume.entry_set (t.vol d) low m e).trans ?_
    rw [volume]
    rfl
  refine ⟨?_, fun x ne => ?_, ?_, (entries n).trans (if_pos rfl), fun m ne => (entries m).trans (if_neg ne.symm), ?_⟩
  · generalize start : t.changeEntry d p n e = u
    have : u = { t with vols := u.vols } := by rw [← start]; rfl
    rw [this, only]
  · unfold State.changeEntry State.setSector State.setEntry
    rw [State.vol_modVol_ne _ ne.symm, State.vol_modVol_ne _ ne.symm, vols x ne]
  · rw [after, volume]
  · rw [after]
    intro clean
    have here : ({ t.vol d with sectors := (t.vol d).sectors.set (p.sectorOf n) ((t.vol d).sector (p.sectorOf n)).changed } : Volume).sector
        (p.sectorOf n) = ((t.vol d).sector (p.sectorOf n)).changed :=
      (Volume.sector_set _ _ _ _ (by rw [volume]; exact sector)).trans (if_pos rfl)
    exact SectorState.changed_ne_clean _ (here.symm.trans clean)

theorem State.StoryAsked.changing {code : Byte} {g : Group} {e₀ : Entry} (a : s.StoryAsked l b h code g d p n e₀) (e : Entry) :
    s.Changing ((s.takenBy l b h).changeEntry d p n e) l b h d p n e (s.vol d).free :=
  .of_changeEntry (t := s.takenBy l b h) rfl (fun _ _ => rfl) rfl (lt_of_lt_of_le a.below (Nat.min_le_left _ _)) a.sector e

/-- The claim and watch unit may change meanwhile. -/
theorem State.Changing.claims (c : s.Changing t l b h d p n e free) (f : ClaimUnit → ClaimUnit) :
    s.Changing (t.modClaims f) l b h d p n e free :=
  ⟨congrArg (fun x : State => ({ x with cw := f t.cw } : State)) c.only, c.vols, c.volume, c.entry, c.alone, c.dirty⟩

/-- Granules join the free set meanwhile. -/
theorem State.Changing.freeing (c : s.Changing t l b h d p n e free) (f : List Nat → List Nat) :
    s.Changing (t.modVol d fun v => { v with free := f v.free }) l b h d p n e (f free) := by
  have after : (t.modVol d fun v => { v with free := f v.free }).vol d = { t.vol d with free := f (t.vol d).free } :=
    State.vol_modVol_self ..
  have freed : (t.vol d).free = free := congrArg Volume.free c.volume
  refine ⟨?_, fun x ne => (State.vol_modVol_ne _ ne.symm _).trans (c.vols x ne), ?_, ?_, fun m ne => ?_, ?_⟩
  · generalize start : t.modVol d _ = u
    have : u = { t with vols := u.vols } := by rw [← start]; rfl
    rw [this, c.only]
  · rw [after, freed]
    refine (congrArg (fun v : Volume => ({ v with free := f free } : Volume)) c.volume).trans rfl
  · rw [after]; exact c.entry
  · rw [after]; exact c.alone m ne
  · rw [after]; exact c.dirty

/-- A waiter is registered and the offers of R149 are made. -/
theorem State.Changing.offered (c : s.Changing t l b h d p n e free) {w : Waiter} {k : Nat}
    (volume : u.vol d = { t.vol d with waiters := (t.vol d).waiters ++ [w] }) {v : State} (o : u.Offered v d k) :
    v.vol d = { s.vol d with
        entries := (v.vol d).entries, sectors := (v.vol d).sectors, waiters := (v.vol d).waiters, free := free }
      ∧ (v.vol d).entry n = e ∧ (∀ m, m ≠ n → (v.vol d).entry m = (s.vol d).entry m)
      ∧ (v.vol d).sector (p.sectorOf n) ≠ .clean ∧ (v.vol d).waiters = (s.vol d).waiters ++ [w] := by
  have whole := o.vol
  have waiters : (t.vol d).waiters = (s.vol d).waiters := (congrArg Volume.waiters c.volume).trans rfl
  have entries : (v.vol d).entries = (t.vol d).entries :=
    (congrArg Volume.entries whole).trans ((congrArg Volume.entries volume).trans rfl)
  have all : (v.vol d).waiters = (s.vol d).waiters ++ [w] :=
    (congrArg Volume.waiters whole).trans ((congrArg Volume.waiters volume).trans (congrArg (· ++ [w]) waiters))
  have entry (m : Nat) : (v.vol d).entry m = (t.vol d).entry m := congrArg (·.getD m freeEntry) entries
  refine ⟨?_, (entry n).trans c.entry, fun m ne => (entry m).trans (c.alone m ne), fun clean => c.dirty ?_, all⟩
  · rw [entries, all, whole, volume, c.volume]
  · have := (o.clean _).mp clean
    rw [volume] at this
    exact this

/-- The change waits for its write-back (R148, R149). -/
theorem State.Changing.awaits (c : s.Changing t l b h d p n e free) (clamped : Bool) :
    s.ChangedEntry (t.awaitChange d p n l b clamped) l b h d p n e clamped free
      ∧ (t.awaitChange d p n l b clamped).cw = t.cw := by
  have o : (t.await d (changeWaiter p n l b clamped)).Offered (t.awaitChange d p n l b clamped) d 2 := State.offers_offered ..
  generalize t.awaitChange d p n l b clamped = v at o
  have volume : (t.await d (changeWaiter p n l b clamped)).vol d
      = { t.vol d with waiters := (t.vol d).waiters ++ [changeWaiter p n l b clamped] } := State.vol_modVol_self ..
  obtain ⟨vol, entry, alone, dirty, waiters⟩ := c.offered volume o
  obtain ⟨q, queue, few, writes, _⟩ := o.queue
  have rest := o.rest
  have only := c.only
  have drive (x : DriveId) : (t.await d (changeWaiter p n l b clamped)).drive x = s.drive x := by
    show t.drive x = s.drive x
    rw [only]
    rfl
  refine ⟨⟨?_, ⟨fun x ne => (o.drives x ne).trans (drive x), fun x _ => ?_, fun x ne => ?_⟩, ?_, ⟨q, ?_, few, fun r mem => ?_⟩,
    vol, entry, alone, dirty, waiters⟩, ?_⟩
  · rw [rest, State.await_lines, only]
  · rw [rest]
    show t.region x = s.region x
    rw [only]
    rfl
  · exact (o.vols x ne).trans ((State.vol_modVol_ne _ ne.symm _).trans (c.vols x ne))
  · rw [rest]
    refine ⟨?_, ?_, ?_, ?_, ?_, ?_, ?_⟩ <;> simp only [State.await_channel, State.await_regions, State.await_cfg, State.await_part,
      State.await_clock, State.await_mem, State.await_pending] <;> rw [only] <;> rfl
  · rw [queue, drive]
  · obtain ⟨j, kind, _⟩ := writes r mem
    exact ⟨j, kind⟩
  · rw [rest, State.await_cw]
end

/-! ### The checks of R133 -/

section
variable {s : State} {l : Line} {b : BufId} {h : Held} {d : DriveId} {p : Profile} {n : Nat} {e : Entry} {code : Byte} {g : Group}

/-- A story request that passes its first checks. -/
theorem State.StoryAsked.run (a : s.StoryAsked l b h code g d p n e) (F : Held → DriveId → Profile → Nat → Entry → State → State) :
    s.onRequest l b code (fun h s => s.onStory l b h.body g (F h)) = F h d p n e (s.takenBy l b h) :=
  (a.waiting.onRequest _).trans (a.onStory _)

theorem State.unlessClaimed_other {o : Line} (held : s.cw.holder d n = some o) (other : o ≠ l) (f : State → State) :
    s.unlessClaimed l b d n f = s.answer l b (.refused .claimed (some o)) := by
  simp [State.unlessClaimed, held, other]

theorem State.unlessClaimed_open (mine : s.cw.holder d n = none ∨ s.cw.holder d n = some l) (f : State → State) :
    s.unlessClaimed l b d n f = f s := by
  obtain free | own := mine <;> simp [State.unlessClaimed, *]

theorem State.ifHolder_not (not : s.cw.holder d n ≠ some l) (f : State → State) :
    s.ifHolder l b d n f = s.answer l b (.refuse .notClaimed) := if_neg not

theorem State.ifHolder_own (own : s.cw.holder d n = some l) (f : State → State) : s.ifHolder l b d n f = f s := if_pos own

theorem State.freeOwn_free (free : s.cw.holder d n = none) : s.freeOwn d n l = s := by simp [State.freeOwn, free]

theorem State.freeClaim_basket (basket : ((s.vol d).entry n).basket = e.basket) :
    s.freeClaim d n l = s.modClaims fun c => c.freed d n e.basket l := by rw [State.freeClaim_eq, basket]

theorem State.freeOwn_own (own : s.cw.holder d n = some l) (basket : ((s.vol d).entry n).basket = e.basket) :
    s.freeOwn d n l = s.modClaims fun c => c.freed d n e.basket l := (if_pos own).trans (State.freeClaim_basket basket)

end

/-- Settles O17. -/
theorem moveChangesBasketAndPriority : Obligations.MoveChangesBasketAndPriority := by
  unfold Obligations.MoveChangesBasketAndPriority
  intro s l b h d p n e a basket priority
  have run : exec (.moveStory l b) s = .next _ := congrArg Host.Outcome.next (a.run _)
  rw [run]
  refine ⟨fun dead => ?_, fun o story held other => ?_, fun story mine => ⟨fun range => ?_, fun low small same equal => ?_,
    fun low small differs => ?_⟩⟩
  · rw [if_pos dead, ← a.waiting.answer]
    rfl
  · rw [if_neg (by simp [story]), State.unlessClaimed_other (by exact held) other, ← a.waiting.answer]
  · rw [if_neg (by simp [story]), State.unlessClaimed_open (by exact mine), if_pos range, ← a.waiting.answer]
    rfl
  · rw [if_neg (by simp [story]), State.unlessClaimed_open (by exact mine), if_neg (by omega), State.moveAt, if_pos ⟨same, equal⟩,
      ← a.waiting.answer]
    rfl
  · rw [if_neg (by simp [story]), State.unlessClaimed_open (by exact mine), if_neg (by omega)]
    have change := a.changing { e with basket := basket, priority := priority }
    have moves : ¬ (basket = e.basket ∧ priority = e.priority) := fun same => differs.elim (· same.1) (· same.2)
    by_cases same : basket = e.basket
    · obtain ⟨changed, cw⟩ := change.awaits false
      exact ⟨_, congrArg Host.Outcome.next ((if_neg moves).trans (congrArg (State.awaitChange · d p n l b false) (if_pos same))),
        changed, by rw [if_pos same]; exact cw⟩
    · obtain ⟨changed, cw⟩ := (change.claims fun c => c.raise (storyEvent .movedIn d n basket l)).awaits false
      exact ⟨_, congrArg Host.Outcome.next ((if_neg moves).trans (congrArg (State.awaitChange · d p n l b false) (if_neg same))),
        changed, by rw [if_neg same]; exact cw⟩

/-- An event leaves the claims as they are (R161). -/
theorem ClaimUnit.holder_raise (c : ClaimUnit) (x : Event) (d : DriveId) (n : Nat) : (c.raise x).holder d n = c.holder d n := rfl

/-- Settles O18. -/
theorem spikeAndReviveChangeTheStateAlone : Obligations.SpikeAndReviveChangeTheStateAlone := by
  unfold Obligations.SpikeAndReviveChangeTheStateAlone
  intro s l b h d p n e
  refine ⟨fun a => ?_, fun a => ?_⟩
  · have run : exec (.spike l b) s = .next _ := congrArg Host.Outcome.next (a.run _)
    rw [run]
    refine ⟨fun state => ?_, fun state => ?_, fun o state held other => ?_, fun state mine => ?_⟩
    · rw [state, ← a.waiting.answer]
      rfl
    · obtain state | state := state <;> rw [state, ← a.waiting.answer] <;> rfl
    · rw [state]
      refine congrArg Host.Outcome.next ((State.unlessClaimed_other (by exact held) other _).trans ?_)
      exact a.waiting.answer _
    · have change := (a.changing { e with state := .retired }).claims fun c => c.raise (storyEvent .spiked d n e.basket l)
      rw [state]
      obtain free | own := mine
      · obtain ⟨changed, cw⟩ := change.awaits false
        refine ⟨_, congrArg Host.Outcome.next ((State.unlessClaimed_open (s := s.takenBy l b h) (.inl free) _).trans
          (congrArg (State.awaitChange · d p n l b false) (State.freeOwn_free (s := State.raiseEvent _ .spiked d n e.basket l) free))), changed, ?_⟩
        rw [if_pos free]
        exact cw
      · obtain ⟨changed, cw⟩ := (change.claims fun c => c.freed d n e.basket l).awaits false
        refine ⟨_, congrArg Host.Outcome.next ((State.unlessClaimed_open (s := s.takenBy l b h) (.inr own) _).trans
          (congrArg (State.awaitChange · d p n l b false)
            (State.freeOwn_own (s := State.raiseEvent _ .spiked d n e.basket l) own (congrArg Entry.basket change.entry)))), changed, ?_⟩
        rw [if_neg (by simp [own])]
        exact cw
  · have run : exec (.revive l b) s = .next _ := congrArg Host.Outcome.next (a.run _)
    rw [run]
    refine ⟨fun state => ?_, fun state => ?_, fun o state held other => ?_, fun state mine => ?_⟩
    · rw [state, ← a.waiting.answer]
      rfl
    · obtain state | state := state <;> rw [state, ← a.waiting.answer] <;> rfl
    · rw [state]
      refine congrArg Host.Outcome.next ((State.unlessClaimed_other (by exact held) other _).trans ?_)
      exact a.waiting.answer _
    · rw [state]
      obtain ⟨changed, cw⟩ := (a.changing { e with state := .live }).awaits false
      exact ⟨_, congrArg Host.Outcome.next (State.unlessClaimed_open (s := s.takenBy l b h) mine _), changed, cw⟩

/-! ### Granules (R146, R147) -/

theorem mem_insertAsc (n x : Nat) (xs : List Nat) : x ∈ insertAsc n xs ↔ x = n ∨ x ∈ xs := by
  induction xs with
  | nil => simp [insertAsc]
  | cons m rest ih =>
    unfold insertAsc
    split
    · simp
    · split
      · simp_all
      · rw [List.mem_cons, ih, List.mem_cons]
        tauto

theorem mem_foldl_insertAsc (x : Nat) (gs free : List Nat) :
    x ∈ gs.foldl (fun free g => insertAsc g free) free ↔ x ∈ free ∨ x ∈ gs := by
  induction gs generalizing free with
  | nil => simp
  | cons g rest ih =>
    rw [List.foldl_cons, ih, mem_insertAsc, List.mem_cons]
    tauto

/-- The granules of an extent list cut short are the first of them (R146). -/
theorem extentGranules_cutExtents (n : Nat) (es : List Extent) :
    extentGranules (cutExtents n es) = (extentGranules es).take n := by
  induction es generalizing n with
  | nil => simp [cutExtents, extentGranules]
  | cons x rest ih =>
    have cons (y : Extent) (ys : List Extent) : extentGranules (y :: ys)
        = (List.range y.count).map (y.first + ·) ++ extentGranules ys := rfl
    unfold cutExtents
    split
    next zero => simp [zero, extentGranules]
    next =>
      split
      next short =>
        rw [cons, cons, List.take_append_of_le_length (by simpa using short.le), ← List.map_take, List.take_range,
          Nat.min_eq_left short.le]
        exact List.append_nil _
      next long =>
        rw [cons, cons, ih, List.take_append, List.length_map, List.length_range,
          List.take_of_length_le (l := (List.range x.count).map _) (by simpa using long)]

theorem State.modVol_modVol (s : State) (d : DriveId) (f g : Volume → Volume) :
    (s.modVol d f).modVol d g = s.modVol d fun v => g (f v) := by
  rw [State.modVol, State.vol_modVol_self]
  simp only [State.modVol, Vector.set_set]

theorem State.modVol_same {s : State} {d : DriveId} {f : Volume → Volume} (h : f (s.vol d) = s.vol d) : s.modVol d f = s := by
  have : s.vols.set d.val (s.vol d) d.isLt = s.vols := Vector.set_getElem_self d.isLt
  rw [State.modVol, h, this]

theorem State.modDrive_same {s : State} {d : DriveId} {f : DriveSeq → DriveSeq} (h : f (s.drive d) = s.drive d) :
    s.modDrive d f = s := by
  have : s.drives.set d.val (s.drive d) d.isLt = s.drives := Vector.set_getElem_self d.isLt
  rw [State.modDrive, h, this]

/-- A withdrawal that concerns no request of the queue changes nothing (R88). -/
theorem State.withdraw_none {s : State} {d : DriveId} {p : Request → Bool} (none : ∀ r ∈ (s.drive d).queue, p r = false)
    (c : Cause) : s.withdraw d p c = s := by
  have gone : (s.drive d).queue.filter (fun r => r.origin != .volume && p r) = [] :=
    List.filter_eq_nil_iff.mpr fun r mem => by simp [none r mem]
  have kept : (s.drive d).queue.filter (fun r => !(r.origin != .volume && p r)) = (s.drive d).queue :=
    List.filter_eq_self.mpr fun r mem => by simp [none r mem]
  unfold State.withdraw
  dsimp only
  rw [gone]
  exact State.modDrive_same (f := fun u => { u with queue := u.queue.filter fun r => !(r.origin != .volume && p r) })
    (congrArg (fun q : List Request => ({ s.drive d with queue := q } : DriveSeq)) kept)

/-- Without a desk WRITE into it a released granule only joins the free set (R147). -/
theorem State.releaseGranule_quiet {s : State} {d : DriveId} {p : Profile} {g : Nat}
    (quiet : ∀ r ∈ (s.drive d).queue, r.writesGranule p g = false) :
    s.releaseGranule d p g = s.modVol d fun v => { v with free := insertAsc g v.free } := by
  have none : (s.drive d).queue.any (fun r => r.state != .queued && r.writesGranule p g) = false := by
    rw [List.any_eq_false]
    intro r mem
    simp [quiet r mem]
  unfold State.releaseGranule
  rw [none, State.withdraw_none fun r mem => by simp [quiet r mem]]
  rfl

/-- Granules entered in the free set of a volume. -/
def State.joinFree (s : State) (d : DriveId) (gs : List Nat) : State :=
  s.modVol d fun v => { v with free := gs.foldl (fun free g => insertAsc g free) v.free }

theorem State.joinFree_vol (s : State) (d : DriveId) (gs : List Nat) : (s.joinFree d gs).vol d
    = { s.vol d with free := gs.foldl (fun free g => insertAsc g free) (s.vol d).free } := State.vol_modVol_self ..

theorem State.joinFree_vol_ne (s : State) {d x : DriveId} (ne : x ≠ d) (gs : List Nat) : (s.joinFree d gs).vol x = s.vol x :=
  State.vol_modVol_ne _ ne.symm _

theorem State.releaseGranules_quiet {d : DriveId} {p : Profile} (gs : List Nat) {s : State}
    (quiet : ∀ r ∈ (s.drive d).queue, ∀ g ∈ gs, r.writesGranule p g = false) :
    s.releaseGranules d p gs = s.joinFree d gs := by
  induction gs generalizing s with
  | nil => exact (State.modVol_same rfl).symm
  | cons g rest ih =>
    have first := State.releaseGranule_quiet fun r mem => quiet r mem g (List.mem_cons_self ..)
    refine (congrArg (State.releaseGranules · d p rest) first).trans ((ih (s := s.modVol d _) ?_).trans (State.modVol_modVol ..))
    exact fun r mem x here => quiet r mem x (List.mem_cons_of_mem _ here)

/-- Settles O16. -/
theorem fileSetsLengthAndFreesTheRest : Obligations.FileSetsLengthAndFreesTheRest := by
  unfold Obligations.FileSetsLengthAndFreesTheRest
  intro s l b h d p n e a len ng gone
  have run : exec (.fileStory l b) s = .next _ := congrArg Host.Outcome.next (a.run _)
  rw [run]
  refine ⟨fun dead => ?_, fun live other => ?_, fun live own quiet => ?_⟩
  · rw [if_pos dead, ← a.waiting.answer]
    rfl
  · rw [if_neg (by simp [live]), State.ifHolder_not (by exact other), ← a.waiting.answer]
    rfl
  · rw [if_neg (by simp [live]), State.ifHolder_own (by exact own)]
    have change := a.changing (filedEntry p e len s.clock l)
    have released := State.releaseGranules_quiet (p := p) gone (s := (s.takenBy l b h).changeEntry d p n (filedEntry p e len s.clock l)) quiet
    have filed : s.Changing ((State.joinFree _ d gone).modClaims fun c => c.raise (storyEvent .filed d n e.basket l)) l b h d p n
        (filedEntry p e len s.clock l) (gone.foldl (fun free g => insertAsc g free) (s.vol d).free) :=
      (change.freeing fun free => gone.foldl (fun free g => insertAsc g free) free).claims _
    have claims : (State.releaseGranules _ d p gone).cw = s.cw := (congrArg State.cw released).trans rfl
    rw [← released] at filed
    have last : ∃ u, (s.takenBy l b h).fileAt d p n e l b (nat3 h.body 2) (flagAt h.body 5)
          = u.awaitChange d p n l b (decide (p.blocks e * p.bytes < nat3 h.body 2))
        ∧ s.Changing u l b h d p n (filedEntry p e len s.clock l) (gone.foldl (fun free g => insertAsc g free) (s.vol d).free)
        ∧ u.cw = if byteAt h.body 5 = 0 then s.cw.raise (storyEvent .filed d n e.basket l)
                 else (s.cw.raise (storyEvent .filed d n e.basket l)).freed d n e.basket l := by
      by_cases flag : byteAt h.body 5 = 0
      · refine ⟨_, congrArg (State.awaitChange · d p n l b _) (if_neg (by simp [flagAt, flag])), filed,
          (congrArg (ClaimUnit.raise · (storyEvent .filed d n e.basket l)) claims).trans (if_pos flag).symm⟩
      · refine ⟨_, congrArg (State.awaitChange · d p n l b _) ((if_pos (by simp [flagAt, flag])).trans
          (State.freeClaim_basket (e := filedEntry p e len s.clock l) (congrArg Entry.basket filed.entry))), filed.claims _,
          (congrArg (fun c => ((ClaimUnit.raise c (storyEvent .filed d n e.basket l)).freed d n e.basket l)) claims).trans
            (if_neg flag).symm⟩
    obtain ⟨u, ran, done, cw⟩ := last
    obtain ⟨changed, kept⟩ := done.awaits (decide (p.blocks e * p.bytes < nat3 h.body 2))
    have free : ((u.awaitChange d p n l b _).vol d).free = _ := congrArg Volume.free changed.volume
    refine ⟨_, _, congrArg Host.Outcome.next ran, free ▸ changed, extentGranules_cutExtents .., fun g => ?_, kept.trans cw⟩
    rw [free, mem_foldl_insertAsc]

/-- What a release of a granule leaves of the drive's queue, and of the volume's free set (R147). -/
theorem State.withdraw_drive (s : State) (d : DriveId) (p : Request → Bool) (c : Cause) :
    ((s.withdraw d p c).drive d).queue = (s.drive d).queue.filter fun r => !(r.origin != .volume && p r) := by
  have aside := State.foldl_keeps (fun u => (s.modQueue d fun q => q.filter fun r => !(r.origin != .volume && p r)).Aside u d)
    (fun s r => s.failRequest d c r) (fun _ r k => k.failRequest c r)
    ((s.drive d).queue.filter fun r => r.origin != .volume && p r) _ (.refl _ d)
  refine (congrArg (fun v : Vector DriveSeq 4 => (v.get d).queue) aside.drives).trans ?_
  exact congrArg DriveSeq.queue ((State.drive_modQueue ..).trans (if_pos rfl))

theorem State.withdraw_free (s : State) (d : DriveId) (p : Request → Bool) (c : Cause) :
    ((s.withdraw d p c).vol d).free = (s.vol d).free :=
  State.foldl_keeps (fun u => (u.vol d).free = (s.vol d).free) (fun s r => s.failRequest d c r) (fun t r kept => by
    obtain same | ⟨_, _, _, _, _, differs, _⟩ := State.failRequest_vol t d c r
    · exact (congrArg Volume.free same).trans kept
    · exact ((congrArg Volume.free differs).trans rfl).trans kept) _ _ rfl

/-- Settles O19. -/
theorem purgeFreesTheEntryAndItsGranules : Obligations.PurgeFreesTheEntryAndItsGranules := by
  unfold Obligations.PurgeFreesTheEntryAndItsGranules
  refine ⟨fun s l b h d p n e a => ?_, fun s d p g => ?_⟩
  · have run : exec (.purge l b) s = .next _ := congrArg Host.Outcome.next (a.run _)
    rw [run]
    refine ⟨fun dead => ?_, fun o story held other => ?_, fun story mine quiet => ?_⟩
    · rw [if_pos dead, ← a.waiting.answer]
      rfl
    · rw [if_neg (by simp [story]), State.unlessClaimed_other (by exact held) other, ← a.waiting.answer]
    · rw [if_neg (by simp [story]), State.unlessClaimed_open (by exact mine)]
      have released := State.releaseGranules_quiet (p := p) (extentGranules e.extents) (s := s.takenBy l b h) quiet
      have ready : ∃ u : State, (s.takenBy l b h).purgeAt d p n e l b = (u.changeEntry d p n freeEntry).awaitChange d p n l b false
          ∧ u = { s.takenBy l b h with vols := u.vols, cw := u.cw } ∧ (∀ x, x ≠ d → u.vol x = s.vol x)
          ∧ u.vol d = { s.vol d with free := (extentGranules e.extents).foldl (fun free g => insertAsc g free) (s.vol d).free }
          ∧ u.cw = if s.cw.holder d n = none then s.cw else s.cw.freed d n e.basket l := by
        unfold State.purgeAt
        rw [released]
        have others (x : DriveId) (ne : x ≠ d) := (s.takenBy l b h).joinFree_vol_ne ne (extentGranules e.extents)
        have own := (s.takenBy l b h).joinFree_vol d (extentGranules e.extents)
        obtain free | held := mine
        · exact ⟨_, congrArg (fun v : State => (v.changeEntry d p n freeEntry).awaitChange d p n l b false) (State.freeOwn_free free), rfl, others, own, (if_pos free).symm⟩
        · have entry : (((s.takenBy l b h).joinFree d (extentGranules e.extents)).vol d).entry n = e := by
            rw [own]
            exact a.entry
          exact ⟨_, congrArg (fun v : State => (v.changeEntry d p n freeEntry).awaitChange d p n l b false)
              (State.freeOwn_own held (congrArg Entry.basket entry)), rfl, others, own, (if_neg (by simp [held])).symm⟩
      obtain ⟨u, ran, only, vols, volume, cw⟩ := ready
      obtain ⟨changed, kept⟩ := (State.Changing.of_changeEntry only vols volume (lt_of_lt_of_le a.below (Nat.min_le_left _ _))
        a.sector freeEntry).awaits false
      have free : (((u.changeEntry d p n freeEntry).awaitChange d p n l b false).vol d).free = _ := congrArg Volume.free changed.volume
      refine ⟨_, congrArg Host.Outcome.next ran, free ▸ changed, fun g => ?_, kept.trans cw⟩
      rw [free, mem_foldl_insertAsc]
  · intro t
    have start : t = (s.withdraw d (fun r => r.state == .queued && r.writesGranule p g) .trimmed).modVol d fun v =>
        { v with free := insertAsc g v.free
                 heldGranule := if (s.drive d).queue.any (fun r => r.state != .queued && r.writesGranule p g)
                   then some g else v.heldGranule } := rfl
    refine ⟨fun x => ?_, fun r => ?_, fun r l b x h mem queued writes origin kind held stage orphan unanswered => ?_, fun ⟨r, mem, selected, writes⟩ => ?_⟩
    · rw [start, State.vol_modVol_self]
      exact (mem_insertAsc ..).trans (or_congr_right (by rw [State.withdraw_free]))
    · have queue : (t.drive d).queue = _ := State.withdraw_drive s d _ _
      rw [queue, List.mem_filter]
      refine and_congr_right fun _ => ?_
      simp only [Bool.not_eq_true', Bool.and_eq_false_iff, bne_eq_false_iff_eq, beq_eq_false_iff_ne, not_and_or, ne_eq, not_not,
        Bool.not_eq_true]
    · have mine : r ∈ (s.drive d).queue.filter fun r => r.origin != .volume && (r.state == .queued && r.writesGranule p g) :=
        List.mem_filter.mpr ⟨mem, by simp [origin, queued, writes]⟩
      have answered := State.failRequests_answer (c := .trimmed) (d := d) (b := b) mine origin (by rw [kind]; rfl)
        (s := s.modQueue d fun q => q.filter fun r => !(r.origin != .volume && (r.state == .queued && r.writesGranule p g)))
        (.inl ⟨held, stage, orphan, unanswered⟩)
      exact (Lasting.hasReply (.failed .trimmed) l b _).lines answered rfl
    · have any : (s.drive d).queue.any (fun r => r.state != .queued && r.writesGranule p g) = true :=
        List.any_eq_true.mpr ⟨r, mem, by simp [selected, writes]⟩
      have held : (t.vol d).heldGranule = some g := by
        rw [start, State.vol_modVol_self]
        exact if_pos any
      exact ⟨held, by simp [Volume.allocatable, held]⟩

end Sys2Proof.Machine
end

section
/-! Settlement of the statements on CREATE and WRITE BLOCK (R137 to R140). -/
namespace Sys2Proof.Machine

theorem State.markTaken_eq {s : State} {l : Line} {b : BufId} {h : Held} (held : s.buffer l b = some h) :
    s.markTaken l b = s.takenBy l b h := by
  refine State.modLine_congr ?_
  have held : (s.line l).bufs.get b = some h := held
  simp [held]

/-- A request that its owner has not begun on is handed to it, also when its desk is gone (R159). -/
theorem State.onRequest_handed {s : State} {l : Line} {b : BufId} {h : Held} {code : Byte} (live : s.part.extReset = false)
    (held : s.buffer l b = some h) (named : h.code = code) (stage : h.stage = .inProgress) (untaken : h.taken = false)
    (f : Held → State → State) : s.onRequest l b code f = f h (s.takenBy l b h) := by
  simp [State.onRequest, State.handed, held, named, stage, untaken, live, State.markTaken_eq held]

/-- Settles O15. -/
theorem createMakesAStoryAndClaimsIt : Obligations.CreateMakesAStoryAndClaimsIt := by
  unfold Obligations.CreateMakesAStoryAndClaimsIt
  intro s l b h d p live held named stage untaken drive gate profile slug basket priority fits taken made
  have found : ((s.vol d).findSlug slug).isSome = true ↔ taken := by
    simp only [Volume.findSlug, List.find?_isSome, List.mem_range, Bool.and_eq_true, beq_iff_eq]
    rfl
  have range : (slugOk slug = false ∨ 15 < basket ∨ 3 < priority) ↔ ¬ fits := by
    simp only [fits, not_and_or, Bool.not_eq_true, not_le]
  have run : exec (.createStory l b) s = .next (if slugOk slug = false ∨ 15 < basket ∨ 3 < priority
      then (s.takenBy l b h).answer l b (.refuse .outOfRange)
      else if ((s.vol d).findSlug slug).isSome then (s.takenBy l b h).answer l b (.refuse .duplicate)
      else if s.cw.hasRoom l = false then (s.takenBy l b h).answer l b (.refuse .tableFull)
      else match (s.vol d).lowestFreeEntry p with
        | none => (s.takenBy l b h).answer l b (.refuse .indexFull)
        | some n => (s.takenBy l b h).createAt d p n l b h.orphan slug basket priority) := by
    refine congrArg Host.Outcome.next ((State.onRequest_handed live held named stage untaken _).trans ?_)
    rw [State.gated_admitted drive ((s.takenBy_gateReason l b h d _ _).trans gate), State.takenBy_vol, profile]
    rfl
  have full (none : ∀ n, n < p.capacity → ((s.vol d).entry n).state ≠ .free) : (s.vol d).lowestFreeEntry p = .none :=
    List.find?_range_eq_none.mpr fun n low => by simpa using none n low
  have lowest (n : Nat) (low : n < p.capacity) (free : ((s.vol d).entry n).state = .free)
      (first : ∀ m, m < n → ((s.vol d).entry m).state ≠ .free) : (s.vol d).lowestFreeEntry p = some n :=
    List.find?_range_eq_some.mpr ⟨by simpa using free, List.mem_range.mpr low, fun m less => by simpa using first m less⟩
  have creates (n : Nat) (ok : fits) (new : ¬ taken) (room : s.cw.hasRoom l = true) (low : n < p.capacity)
      (free : ((s.vol d).entry n).state = .free) (first : ∀ m, m < n → ((s.vol d).entry m).state ≠ .free) :
      exec (.createStory l b) s = .next ((s.takenBy l b h).createAt d p n l b h.orphan slug basket priority) := by
    rw [run, if_neg (mt range.mp (not_not.mpr ok)), if_neg (mt found.mp new), if_neg (by simp [room]), lowest n low free first]
  have change (n : Nat) (low : n < p.capacity) (sector : p.sectorOf n < (s.vol d).sectors.length) :
      s.Changing ((s.takenBy l b h).changeEntry d p n made) l b h d p n made (s.vol d).free :=
    .of_changeEntry (t := s.takenBy l b h) rfl (fun _ _ => rfl) rfl (lt_of_lt_of_le low (Nat.min_le_left _ _)) sector _
  refine ⟨fun w => ⟨fun bad => ?_, fun ok dup => ?_, fun ok new room => ?_, fun ok new room none => ?_,
    fun n ok new room low free first sector => ?_⟩, fun orphan => ⟨fun n ok new room low free first sector => ?_, fun bad => ?_⟩⟩
  · rw [run, if_pos (range.mpr bad), w.answer]
    rfl
  · rw [run, if_neg (mt range.mp (not_not.mpr ok)), if_pos (found.mpr dup), w.answer]
    rfl
  · rw [run, if_neg (mt range.mp (not_not.mpr ok)), if_neg (mt found.mp new), if_pos room, w.answer]
    rfl
  · rw [run, if_neg (mt range.mp (not_not.mpr ok)), if_neg (mt found.mp new), if_neg (by simp [room]), full none]
    exact congrArg Host.Outcome.next (w.answer _)
  · obtain ⟨changed, cw⟩ := (((change n low sector).claims fun c => c.grant d (s.vol d).serial n l).claims
      fun c => c.raise (storyEvent .created d n basket l)).awaits false
    refine ⟨_, (creates n ok new room low free first).trans ?_, changed, cw⟩
    rw [State.createAt, w.owned]
    rfl
  · obtain ⟨changed, cw⟩ := ((change n low sector).claims fun c => c.raise (storyEvent .created d n basket l)).awaits false
    refine ⟨_, (creates n ok new room low free first).trans ?_, changed, cw⟩
    rw [State.createAt, orphan]
    rfl
  · rw [run]
    split
    next => exact ⟨_, rfl, rfl, rfl⟩
    next inRange =>
      split
      next => exact ⟨_, rfl, rfl, rfl⟩
      next new =>
        split
        next => exact ⟨_, rfl, rfl, rfl⟩
        next room =>
          obtain bad | bad | bad | bad := bad
          · exact absurd (range.mpr bad) inRange
          · exact absurd (found.mpr bad) new
          · exact absurd bad room
          · rw [full bad]
            exact ⟨_, rfl, rfl, rfl⟩

/-! ### WRITE BLOCK (R137, R138) -/

theorem growLast_append (init : List Extent) (x : Extent) : growLast (init ++ [x]) = init ++ [{ x with count := x.count + 1 }] := by
  induction init with
  | nil => rfl
  | cons y rest ih =>
    have apart (z : Extent) (zs : List Extent) (some : zs ≠ []) : growLast (z :: zs) = z :: growLast zs := by
      cases zs with
      | nil => exact absurd rfl some
      | cons => rfl
    rw [List.cons_append, apart y _ (by simp), ih, List.cons_append]

section
variable {v : Volume} {es : List Extent}

theorem Volume.lowestFree_none (none : ∀ g, v.allocatable g = false) : v.lowestFree = Option.none :=
  List.find?_eq_none.mpr fun g _ => by simp [none g]

theorem Volume.mem_free {g : Nat} (may : v.allocatable g = true) : g ∈ v.free := by
  simp only [Volume.allocatable, Bool.and_eq_true] at may
  exact List.contains_iff_mem.mp may.1

theorem Volume.lowestFree_some {g : Nat} (may : v.allocatable g = true) : ∃ x, v.lowestFree = some x := by
  cases found : v.lowestFree with
  | some x => exact ⟨x, rfl⟩
  | none => exact absurd may (List.find?_eq_none.mp found g (Volume.mem_free may))

/-- The granule after the last extent is taken when it may be (R138 step 2). -/
theorem Volume.allocate_after {x : Extent} (last : es.getLast? = some x) (may : v.allocatable (x.first + x.count) = true) :
    v.allocate es = .took (x.first + x.count) (growLast es) := by
  obtain ⟨y, found⟩ := Volume.lowestFree_some may
  simp [Volume.allocate, found, afterLast, last, may]

/-- Without it a new extent begins at the lowest granule there is (R138 steps 3 and 4). -/
theorem Volume.allocate_new {g : Nat} (found : v.lowestFree = some g)
    (none : ∀ y, ¬ ∃ x, es.getLast? = some x ∧ x.first + x.count = y ∧ v.allocatable y = true) :
    v.allocate es = newExtent g es := by
  unfold Volume.allocate
  rw [found]
  unfold afterLast
  cases last : es.getLast? with
  | none => rfl
  | some x => exact if_neg fun may => none _ ⟨x, last, rfl, may⟩

end

section
variable {s : State} {l : Line} {b : BufId} {h : Held} {code : Byte}

theorem DriveSeq.deskFull_iff (u : DriveSeq) : u.deskFull = true ↔ 12 ≤ u.deskPlaces := decide_eq_true_iff

/-- A desk place is refused (R71 item 2). -/
theorem State.Waiting.refusePlace (w : s.Waiting l b code h) (d : DriveId) : (s.takenBy l b h).refusePlace d l b
    = (s.replied l b h (.busy .queueFull)).modDrive d fun u => { u with refused := min 65535 (u.refused + 1) } :=
  congrArg (State.modDrive · d fun u => { u with refused := min 65535 (u.refused + 1) }) (w.answer _)

/-- A WRITE is placed, or refused for the long inhibit or for want of a place (R66, R71). -/
theorem State.Waiting.placeWrite (w : s.Waiting l b code h) (d : DriveId) (f : State → State) :
    (s.channel.longInhibit = true → (s.takenBy l b h).placeWrite d l b f = s.replied l b h (.failed .powerLow))
    ∧ (s.channel.longInhibit = false → 12 ≤ (s.drive d).deskPlaces → (s.takenBy l b h).placeWrite d l b f
        = (s.replied l b h (.busy .queueFull)).modDrive d fun u => { u with refused := min 65535 (u.refused + 1) })
    ∧ (s.channel.longInhibit = false → (s.drive d).deskPlaces < 12 →
        (s.takenBy l b h).placeWrite d l b f = f (s.takenBy l b h)) := by
  refine ⟨fun long => (if_pos long).trans (w.answer _), fun short full => ?_, fun short room => ?_⟩
  · refine (if_neg (by simp [short])).trans ((if_pos ((DriveSeq.deskFull_iff _).mpr full)).trans (w.refusePlace d))
  · exact (if_neg (by simp [short])).trans (if_neg (mt (DriveSeq.deskFull_iff _).mp (Nat.not_le.mpr room)))

end

/-- A granule leaves the free set (R138). -/
def State.takeGranule (s : State) (d : DriveId) (g : Nat) : State :=
  s.modVol d fun v => { v with free := v.free.filter (· != g) }

/-- An extended story before its WRITE is placed (R138). -/
theorem State.StoryAsked.extending {s : State} {l : Line} {b : BufId} {h : Held} {code : Byte} {group : Group} {d : DriveId}
    {p : Profile} {n : Nat} {e₀ : Entry} (a : s.StoryAsked l b h code group d p n e₀) (g : Nat) (e : Entry) :
    s.Changing (((s.takenBy l b h).takeGranule d g).changeEntry d p n e) l b h d p n e ((s.vol d).free.filter (· != g)) :=
  .of_changeEntry (s := s) (t := (s.takenBy l b h).takeGranule d g) rfl
    (fun _ ne => (State.vol_modVol_ne _ ne.symm _).trans rfl) ((State.vol_modVol_self ..).trans rfl)
    (lt_of_lt_of_le a.below (Nat.min_le_left _ _)) a.sector e

/-- The block at the end of the allocation stands in the granule that extends it (R17). -/
theorem Profile.locate_extended {p : Profile} {e : Entry} {es : List Extent} (granule : 0 < p.granule)
    (longer : extentTotal es = extentTotal e.extents + 1) : ∃ pl, p.locate es (p.blocks e) = some pl := by
  have inside : p.blocks e / p.granule < (extentGranules es).length := by
    rw [extentGranules_length, longer, Profile.blocks, Nat.mul_div_cancel _ granule]
    exact Nat.lt_succ_self _
  rw [Profile.locate_eq, List.getElem?_eq_getElem inside]
  exact ⟨_, rfl⟩

/-- Settles O20. -/
theorem writeBlockPlacesAWriteOrExtends : Obligations.WriteBlockPlacesAWriteOrExtends := by
  unfold Obligations.WriteBlockPlacesAWriteOrExtends
  refine ⟨fun s l b h d p n e pl a => ?_, fun s l b h d p n e a live own bytes block granule ascending => ?_⟩
  · intro block
    have run : exec (.writeBlock l b) s = .next _ := congrArg Host.Outcome.next (a.run _)
    rw [run]
    refine ⟨fun dead => ?_, fun live other => ?_, fun live own => ⟨fun bad => ?_, fun bytes low place => ?_⟩⟩
    · rw [if_pos dead, ← a.waiting.answer]
      rfl
    · rw [if_neg (by simp [live]), State.ifHolder_not (by exact other), ← a.waiting.answer]
      rfl
    · rw [if_neg (by simp [live]), State.ifHolder_own (by exact own), if_pos bad, ← a.waiting.answer]
      rfl
    · rw [if_neg (by simp [live]), State.ifHolder_own (by exact own), if_neg (by omega), State.writeAt,
        if_neg (Nat.ne_of_lt low), show p.locate e.extents (nat2 h.body 2) = some pl from place]
      obtain ⟨long, full, placed⟩ := a.waiting.placeWrite d fun s => s.place d (writeRequest p pl l b none)
      exact ⟨fun x => congrArg Host.Outcome.next (long x), fun x y => congrArg Host.Outcome.next (full x y),
        fun x y => ⟨_, congrArg Host.Outcome.next (placed x y), ⟨rfl, rfl, rfl, rfl, rfl, rfl, rfl⟩, rfl, rfl⟩⟩
  · intro after lowest
    have run : exec (.writeBlock l b) s = .next ((s.takenBy l b h).writeAt d p n e l b (p.blocks e)) := by
      refine congrArg Host.Outcome.next ((a.run _).trans ?_)
      rw [if_neg (by simp [live]), State.ifHolder_own (by exact own), if_neg (by omega), block]
    have grows (g : Nat) (es : List Extent) (took : (s.vol d).allocate e.extents = .took g es) :
        (s.takenBy l b h).writeAt d p n e l b (p.blocks e)
          = (s.takenBy l b h).placeWrite d l b fun s => s.extendAt d p n e l b g es (p.blocks e) := by
      rw [State.writeAt, if_pos rfl, State.takenBy_vol, took]
    have refuses (r : Reason) (refused : (s.vol d).allocate e.extents = .refused r) :
        exec (.writeBlock l b) s = .next (s.replied l b h (.refused r none)) := by
      rw [run, State.writeAt, if_pos rfl, State.takenBy_vol, refused]
      exact congrArg Host.Outcome.next (a.waiting.answer _)
    refine ⟨fun none => ?_, fun ⟨g, may⟩ no many => ?_, fun g es which => ?_⟩
    · exact refuses _ (by rw [Volume.allocate, Volume.lowestFree_none none])
    · obtain ⟨x, found⟩ := Volume.lowestFree_some may
      exact refuses _ ((Volume.allocate_new found no).trans (if_neg (Nat.not_lt.mpr many)))
    · have took : (s.vol d).allocate e.extents = .took g es := by
        obtain ⟨⟨x, last, rfl, may⟩, init, y, whole, rfl⟩ | ⟨no, few, ⟨may, low⟩, rfl⟩ := which
        · rw [Volume.allocate_after last may, whole, growLast_append]
        · have found : (s.vol d).lowestFree = some g := find?_of_lowest (place := id) ascending (Volume.mem_free may) may
            fun y _ other => low y other
          exact (Volume.allocate_new found no).trans (if_pos few)
      have longer : extentTotal es = extentTotal e.extents + 1 := by
        obtain ⟨-, init, y, whole, rfl⟩ | ⟨-, -, -, rfl⟩ := which
        · simp [whole, extentTotal, Nat.add_assoc]
        · simp [extentTotal]
      obtain ⟨long, full, placed⟩ := a.waiting.placeWrite d fun s => s.extendAt d p n e l b g es (p.blocks e)
      rw [run, grows g es took]
      refine ⟨fun x => congrArg Host.Outcome.next (long x), fun x y => congrArg Host.Outcome.next (full x y), fun x y => ?_⟩
      rw [placed x y]
      obtain ⟨pl, place⟩ := Profile.locate_extended granule longer
      have change := a.extending g { e with extents := es }
      have ran : (s.takenBy l b h).extendAt d p n e l b g es (p.blocks e)
          = (((((s.takenBy l b h).takeGranule d g).changeEntry d p n { e with extents := es }).place d (writeRequest p pl l b (some .waiting))).await d
              { changeWaiter p n l b false with kind := .extending none }).offers d := by
        rw [State.extendAt, place]
        rfl
      rw [ran]
      have queued : (((s.takenBy l b h).takeGranule d g).changeEntry d p n { e with extents := es }).drives = s.drives := rfl
      have cw : (((s.takenBy l b h).takeGranule d g).changeEntry d p n { e with extents := es }).cw = s.cw := rfl
      have arrival : (((s.takenBy l b h).takeGranule d g).changeEntry d p n { e with extents := es }).arrival = s.arrival := rfl
      generalize ((s.takenBy l b h).takeGranule d g).changeEntry d p n { e with extents := es } = u at change queued cw arrival
      have o := State.offers_offered ((u.place d (writeRequest p pl l b (some .waiting))).await d
        { changeWaiter p n l b false with kind := .extending none }) d
      generalize State.offers _ d = v at o
      obtain ⟨volume, entry, alone, dirty, waiters⟩ := change.offered (State.vol_modVol_self ..) o
      obtain ⟨q, queue, few, writes, -⟩ := o.queue
      have drive (x : DriveId) : u.drive x = s.drive x := congrArg (fun v : Vector DriveSeq 4 => v.get x) queued
      have whole := o.rest
      have only := change.only
      refine ⟨v, { writeRequest p pl l b (some .waiting) with arrival := s.arrival }, q, rfl, place, rfl, rfl, rfl, rfl, ?_, few,
        fun x mem => ?_, entry, alone, (congrArg Volume.free volume).trans rfl, dirty, waiters, ?_, ?_, ⟨fun x ne => ?_, fun x ne => ?_, fun x ne => ?_⟩, ?_⟩
      · rw [queue, State.await_drive, State.place_drive, drive, arrival]
      · obtain ⟨j, kind, -⟩ := writes x mem
        exact ⟨j, kind⟩
      · rw [(congrArg Volume.free volume).trans rfl]
        exact volume
      · rw [whole, State.await_lines]
        exact (congrArg State.lines only).trans rfl
      · rw [o.drives x ne, State.await_drive, State.place_drive_ne _ ne.symm, drive]
      · rw [whole]
        exact (congrArg (fun t : State => t.region x) only).trans rfl
      · rw [o.vols x ne]
        exact (State.vol_modVol_ne _ ne.symm _).trans (change.vols x ne)
      · have plain : u = { s.takenBy l b h with vols := u.vols } := only.trans (by rw [cw]; rfl)
        have lines : v.lines = (s.takenBy l b h).lines := by
          rw [whole, State.await_lines]
          exact (congrArg State.lines plain).trans rfl
        have same := congrArg (fun t : State => ({ t with drives := v.drives, vols := v.vols, arrival := v.arrival } : State)) plain
        rw [lines]
        exact whole.trans same

end Sys2Proof.Machine
end

section
/-! Settlement of the statement on the reads that go to the diskette (R97 to R99). -/
namespace Sys2Proof.Machine

/-- The frame that a region would take is EMPTY, or the VALID one with fill number 1 (R98). -/
theorem Region.pick_cases {g : Region} {i : Nat} (picked : g.pick = some i) : i < g.frames.length
    ∧ (g.frame i = .empty ∨ ((g.frame i).isValid = true ∧ (g.frame i).isEmpty = false)) := by
  unfold Region.pick at picked
  split at picked
  next j found =>
    obtain rfl := Option.some.inj picked
    obtain ⟨lt, here, -⟩ := frameWhere_spec found
    exact ⟨lt, .inl ((Frame.isEmpty_iff _).mp here)⟩
  next =>
    obtain ⟨lt, here, -⟩ := frameWhere_spec picked
    refine ⟨lt, .inr ?_⟩
    cases frame : g.frame i <;> simp [frame, Frame.isOldest, Frame.isValid, Frame.isEmpty] at here ⊢

/-- The region after an allocation (R98, R109). -/
theorem Region.allocate_eq {g : Region} {i : Nat} (picked : g.pick = some i) (c h : Nat) (rd : Reader) :
    (g.allocate i c h rd).frame i = .filling c h [rd] ∧ (g.allocate i c h rd).fills = min 65535 (g.fills + 1)
    ∧ (g.allocate i c h rd).evicts = (if (g.frame i).isEmpty then g.evicts else min 65535 (g.evicts + 1))
    ∧ g.allocate i c h rd = { g with frames := (g.allocate i c h rd).frames, fills := (g.allocate i c h rd).fills,
                                     evicts := (g.allocate i c h rd).evicts } := by
  obtain ⟨lt, frame⟩ := Region.pick_cases picked
  have set : ∃ fs, g.setFrame i (.filling c h [rd]) = { g with frames := fs } ∧ fs.getD i .empty = .filling c h [rd] := by
    unfold Region.setFrame
    split
    · exact ⟨_, rfl, by simp [lowerAbove, lt]⟩
    · exact ⟨_, rfl, by simp [lt]⟩
  obtain ⟨fs, whole, here⟩ := set
  unfold Region.allocate
  rw [whole]
  refine ⟨here, rfl, ?_, rfl⟩
  obtain empty | ⟨valid, full⟩ := frame
  · simp [empty, Frame.isValid, Frame.isEmpty]
  · simp [valid, full, bump]

section
variable (s : State) (d : DriveId) (i : Nat) (pl : Place) (slot : Nat) (p : ReadProfile) (rd : Reader)

theorem State.placeFill_region : (s.placeFill d i pl p rd).region d = (s.region d).allocate i pl.cylinder pl.head rd := by
  simp [State.placeFill]

theorem State.placeFill_region_ne {e : DriveId} (ne : e ≠ d) : (s.placeFill d i pl p rd).region e = s.region e := by
  simp [State.placeFill, ne.symm]

theorem State.placeDirect_region : (s.placeDirect d pl slot p rd).region d
    = { s.region d with directs := min 65535 ((s.region d).directs + 1) } := by
  simp [State.placeDirect, bump]

theorem State.placeDirect_region_ne {e : DriveId} (ne : e ≠ d) : (s.placeDirect d pl slot p rd).region e = s.region e := by
  simp [State.placeDirect, ne.symm]

theorem State.joinFrame_region {c h : Nat} {rs : List Reader} (here : (s.region d).frame i = .filling c h rs) :
    (s.joinFrame d i rd).region d = { s.region d with frames := (s.region d).frames.set i (.filling c h (rs ++ [rd])) } := by
  simp [State.joinFrame, here]

theorem State.joinFrame_region_ne {e : DriveId} (ne : e ≠ d) : (s.joinFrame d i rd).region e = s.region e := by
  simp [State.joinFrame, ne.symm]

end

/-- Settles O23. -/
theorem readBlockMissesQueueWork : Obligations.ReadBlockMissesQueueWork := by
  unfold Obligations.ReadBlockMissesQueueWork
  intro s l b h d p n e pl a story low locate unwritten invalid rd nofill
  have noWrite : (s.drive d).queue.reverse.find? (Request.writesPlace pl) = none :=
    List.find?_eq_none.mpr fun r mem => by simp [unwritten r (List.mem_reverse.mp mem)]
  have noValid : frameWhere (Frame.validFor pl.cylinder pl.head) (s.region d).frames = none := frameWhere_none_iff.mpr invalid
  have cache : exec (.readBlock l b) s = .next
      (match frameWhere (Frame.fillingFor pl.cylinder pl.head) (s.region d).frames with
        | some i => (s.takenBy l b h).joinFrame d i rd
        | none => (s.takenBy l b h).missFrame d pl (p.slot pl.cylinder pl.head pl.sectorId) p.read rd) := by
    refine congrArg Host.Outcome.next ((a.run _).trans ?_)
    rw [if_neg (by simp [story]), if_neg (Nat.not_le.mpr low), locate]
    dsimp only
    rw [State.cacheRead, State.takenBy_drive, noWrite, State.takenBy_region, noValid] <;> rfl
  have misses (none : nofill) : exec (.readBlock l b) s
      = .next ((s.takenBy l b h).missFrame d pl (p.slot pl.cylinder pl.head pl.sectorId) p.read rd) := by
    rw [cache, frameWhere_none_iff.mpr none]
  refine ⟨fun pre rest rs frames first => ?_, fun none full => ?_, fun i none room opened picked => ?_, fun none room picked => ?_⟩
  · have found : frameWhere (Frame.fillingFor pl.cylinder pl.head) (s.region d).frames = some pre.length := by
      have own : (Frame.filling pl.cylinder pl.head rs).fillingFor pl.cylinder pl.head = true := by simp [Frame.fillingFor]
      rw [frames, frameWhere_eq_findIdx?, List.findIdx?_append, List.findIdx?_eq_none_iff.mpr fun f mem => by simp [first f mem],
        List.findIdx?_cons, if_pos own]
      simp
    have here : (s.region d).frame pre.length = .filling pl.cylinder pl.head rs := by
      rw [Region.frame, frames]
      simp
    rw [cache, found]
    refine ⟨(s.takenBy l b h).joinFrame d pre.length rd, rfl, ?_, (State.drive_modQueue ..).trans (if_pos rfl), ⟨fun x ne => ?_, fun x ne => ?_, fun _ _ => rfl⟩, rfl⟩
    · refine (State.joinFrame_region (s.takenBy l b h) d _ _ here).trans ?_
      exact congrArg (fun fs : List Frame => ({ s.region d with frames := fs } : Region)) (by simp [frames])
    · exact State.drive_modDrive_ne _ ne.symm _
    · exact State.joinFrame_region_ne _ _ _ _ ne
  · rw [misses none]
    exact congrArg Host.Outcome.next ((if_pos ((DriveSeq.deskFull_iff _).mpr full)).trans (a.waiting.refusePlace d))
  · have places : exec (.readBlock l b) s = .next ((s.takenBy l b h).placeFill d i pl p.read rd) := by
      rw [misses none, State.missFrame, State.takenBy_drive, if_neg (mt (DriveSeq.deskFull_iff _).mp (Nat.not_le.mpr room)),
        State.takenBy_region, picked]
      exact congrArg Host.Outcome.next (if_pos opened)
    obtain ⟨frame, fills, evicts, whole⟩ := Region.allocate_eq picked pl.cylinder pl.head rd
    have region := State.placeFill_region (s.takenBy l b h) d i pl p.read rd
    refine ⟨_, _, places, State.place_drive .., ⟨rfl, rfl, rfl, rfl, rfl, rfl, rfl⟩, rfl, rfl, rfl, ?_, ?_, ?_, ?_,
      ⟨fun x ne => State.place_drive_ne _ ne.symm _, fun x ne => State.placeFill_region_ne _ _ _ _ _ _ ne, fun _ _ => rfl⟩, rfl, rfl⟩
    all_goals rw [region]
    · exact frame
    · exact fills
    · exact evicts
    · exact whole
  · have places : exec (.readBlock l b) s
        = .next ((s.takenBy l b h).placeDirect d pl (p.slot pl.cylinder pl.head pl.sectorId) p.read rd) := by
      rw [misses none, State.missFrame, State.takenBy_drive, if_neg (mt (DriveSeq.deskFull_iff _).mp (Nat.not_le.mpr room)),
        State.takenBy_region, picked]
    exact ⟨_, _, places, State.place_drive .., ⟨rfl, rfl, rfl, rfl, rfl, rfl, rfl⟩, rfl, rfl, State.placeDirect_region ..,
      ⟨fun x ne => State.place_drive_ne _ ne.symm _, fun x ne => State.placeDirect_region_ne _ _ _ _ _ _ ne, fun _ _ => rfl⟩, rfl, rfl⟩

end Sys2Proof.Machine
end

section
/-! Settlement of the statement on EJECT and the end of a drain (R121, R122). -/
namespace Sys2Proof.Machine

/-! ### Claims broken one after the other (R158, R160) -/

/-- What is left of the claim table when claims on a drive have been broken. -/
theorem ClaimUnit.mem_brokenAll_iff (d : DriveId) (basket : Claim → Nat) (l : Line) (y : Claim) (xs : List Claim) (c : ClaimUnit) :
    y ∈ (c.brokenAll d xs basket l).claims ↔ y ∈ c.claims ∧ ∀ x ∈ xs, ¬ (y.drive = d ∧ y.handle = x.handle) := by
  induction xs generalizing c with
  | nil => simp [ClaimUnit.brokenAll]
  | cons x xs ih =>
    refine (ih _).trans ?_
    rw [List.forall_mem_cons, ← and_assoc]
    refine and_congr_left fun _ => ?_
    simp only [ClaimUnit.freed, ClaimUnit.remove, ClaimUnit.raise, List.mem_filter, Bool.not_eq_true', Bool.and_eq_false_iff,
      beq_eq_false_iff_ne, not_and_or, ne_eq]

/-- A claim-broken flag once set stays set (R158 item 3). -/
theorem ClaimUnit.brokenAll_flag (d : DriveId) (basket : Claim → Nat) (l m : Line) (xs : List Claim) (c : ClaimUnit)
    (set : c.broken.get m ≠ none ∨ ∃ x ∈ xs, x.holder = m) : (c.brokenAll d xs basket l).broken.get m ≠ none := by
  induction xs generalizing c with
  | nil => exact set.resolve_right (by simp)
  | cons x xs ih =>
    refine ih _ ?_
    have flag : (({ c with broken := c.broken.set x.holder.val (some (d, x.handle)) x.holder.isLt } : ClaimUnit).freed d x.handle
        (basket x) l).broken.get m = if x.holder = m then some (d, x.handle) else c.broken.get m := vector_get_set ..
    rw [flag]
    by_cases own : x.holder = m
    · exact .inl (by simp [own])
    · rw [if_neg own]
      refine set.imp id fun ⟨y, mem, holds⟩ => ?_
      obtain rfl | later := List.mem_cons.mp mem
      · exact absurd holds own
      · exact ⟨y, later, holds⟩

/-! ### The release (R122) -/

theorem State.releaseVolume_idle {s : State} {d : DriveId} (track : (s.drive d).pos.state = .onTrack)
    (idle : (s.drive d).selected = none) : ((s.releaseVolume d).drive d).pos = (s.drive d).pos.unloaded := by
  unfold State.releaseVolume State.unloadIdle
  rw [if_pos ⟨by simpa using track, by simpa using idle⟩, State.drive_modPos_self]
  simp

theorem State.releaseVolume_pos (s : State) (d : DriveId) :
    (s.releaseVolume d).drive d = { s.drive d with pos := ((s.releaseVolume d).drive d).pos } := by
  obtain same | differs := s.releaseVolume_drive d
  · rw [same]
  · rw [differs]

theorem ClaimUnit.mem_volumeGone (c : ClaimUnit) (d : DriveId) (x : Claim) :
    x ∈ (c.volumeGone d).claims ↔ x ∈ c.claims ∧ x.drive ≠ d := by simp [ClaimUnit.volumeGone]

/-- A release changes no line, so that an answer meets it as it met the state before. -/
theorem State.releaseVolume_answer_lines (s : State) (d : DriveId) (l : Line) (b : BufId) (r : Reply) :
    ((s.releaseVolume d).answer l b r).lines = (s.answer l b r).lines :=
  State.answer_lines_congr (congrArg State.lines (s.releaseVolume_eq d)) (by rw [s.releaseVolume_eq d]) b r

theorem State.releaseVolume_answer (s : State) (d : DriveId) (l : Line) (b : BufId) (r : Reply) :
    (s.releaseVolume d).answer l b r = { s.answer l b r with
      drives := (s.releaseVolume d).drives, regions := (s.releaseVolume d).regions, vols := (s.releaseVolume d).vols,
      cw := (s.releaseVolume d).cw } := by
  have whole := s.releaseVolume_eq d
  have lines := s.releaseVolume_answer_lines d l b r
  rw [State.answer_eq, lines]
  generalize s.releaseVolume d = u at whole
  have cw : u.cw = s.cw.volumeGone d := (congrArg State.cw whole).trans rfl
  exact (congrArg (fun t : State => ({ t with lines := (s.answer l b r).lines } : State)) whole).trans (by rw [cw]; rfl)

theorem State.releaseVolume_others (s : State) (d : DriveId) : s.OthersKept (s.releaseVolume d) d :=
  ((State.Within.refl s d).releaseVolume).others

/-- Settles O12. -/
theorem ejectDrainsAndReleases : Obligations.EjectDrainsAndReleases := by
  unfold Obligations.EjectDrainsAndReleases
  refine ⟨fun s l b h w => ⟨fun force desk => w.replies ?_, fun may none => w.replies ?_, fun d may drive => ?_⟩,
    fun s d held => ?_, fun s d l b h draining ready due reported supply writes clean quiet pending buffer stage orphan tx => ?_⟩
  · exact if_pos ⟨by simpa [flagAt] using force, desk⟩
  · exact (if_neg (by simpa [flagAt, imp_iff_not_or] using may)).trans (State.gated_none none)
  · have admits (gate : s.gateReason d .eject true = none) :
        exec (.eject l b) s = .next ((s.takenBy l b h).ejectAt l b d (flagAt h.body 1)) := by
      refine congrArg Host.Outcome.next ((w.onRequest _).trans ((if_neg (by simpa [flagAt, imp_iff_not_or] using may)).trans ?_))
      exact State.gated_admitted drive ((s.takenBy_gateReason l b h d _ _).trans gate)
    refine ⟨fun r gate => w.replies ?_, fun gate known alone => ?_, fun c rest gate known claimed polite => ?_,
      fun gate known claimed force => ?_, fun gate foreign => ?_⟩
    · exact (if_neg (by simpa [flagAt, imp_iff_not_or] using may)).trans
        (State.gated_refused drive ((s.takenBy_gateReason l b h d _ _).trans gate))
    · rw [admits gate, State.ejectAt, State.takenBy_vol, if_neg known, State.takenBy_cw, alone]
      rfl
    · rw [admits gate, State.ejectAt, State.takenBy_vol, if_neg known, State.takenBy_cw, claimed]
      exact congrArg Host.Outcome.next ((if_neg (by simp [flagAt, polite])).trans (w.answer _))
    · have breaks : exec (.eject l b) s = .next (((s.takenBy l b h).breakOthers d l).beginDrain d l b) := by
        rw [admits gate, State.ejectAt, State.takenBy_vol, if_neg known, State.takenBy_cw]
        obtain ⟨c, rest, claimed⟩ := List.exists_cons_of_ne_nil claimed
        rw [claimed]
        exact congrArg Host.Outcome.next (if_pos (by simpa [flagAt] using force))
      rw [State.breakOthers_eq] at breaks
      have left (c : Claim) : c ∈ (s.cw.brokenAll d (s.cw.others d l) s.claimBasket l).claims ↔ c ∈ s.cw.claims
          ∧ ∀ x ∈ s.cw.others d l, ¬ (c.drive = d ∧ c.handle = x.handle) := ClaimUnit.mem_brokenAll_iff ..
      refine ⟨_, breaks, fun c mem on => ?_, fun c mem => ?_, rfl, left, State.vol_modVol_self .., ⟨fun _ _ => rfl, fun _ _ => rfl,
        fun e ne => State.vol_modVol_ne _ ne.symm _⟩, rfl⟩
      · by_contra other
        obtain ⟨held, kept⟩ := (left c).mp mem
        exact kept c (List.mem_filter.mpr ⟨held, by simp [on, other]⟩) ⟨on, rfl⟩
      · exact ClaimUnit.brokenAll_flag d _ l c.holder _ _ (.inr ⟨c, mem, rfl⟩)
    · have ran : exec (.eject l b) s = .next (((s.takenBy l b h).releaseVolume d).answer l b (.ok [])) := by
        rw [admits gate, State.ejectAt, State.takenBy_vol, if_pos foreign]
      have region := (s.takenBy l b h).releaseVolume_region d
      have vol := (s.takenBy l b h).releaseVolume_vol d
      have cw := congrArg State.cw ((s.takenBy l b h).releaseVolume_eq d)
      refine ⟨_, ran, congrArg Volume.state vol, (congrArg Volume.label vol).trans rfl, congrArg Volume.profile vol,
        fun open_ => ?_, fun closing => region.trans (Region.release_closing closing),
        fun c => (iff_of_eq (congrArg (fun w : ClaimUnit => c ∈ w.claims) cw)).trans (ClaimUnit.mem_volumeGone _ d c), cw,
        State.releaseVolume_pos .., ?_, ?_⟩
      · have shut := region.trans (Region.release_close open_)
        exact ⟨congrArg Region.state shut, congrArg Region.frames shut⟩
      · obtain ⟨drives, regions, vols⟩ := (s.takenBy l b h).releaseVolume_others d
        exact ⟨drives, regions, vols⟩
      · rw [State.releaseVolume_answer, w.answer]
        rfl
  · have stays : ¬ s.drainComplete d = true := by
      simp only [State.drainComplete, State.drainHeld, Bool.and_eq_true, Bool.or_eq_true, Bool.not_eq_true', Bool.or_eq_false_iff,
        List.any_eq_false, List.isEmpty_iff, beq_iff_eq, bne_eq_false_iff_eq]
      rintro ⟨⟨⟨⟨draining, ⟨⟨ready, due⟩, reported⟩, supply⟩, writes⟩, clean⟩, quiet⟩
      obtain away | ⟨r, mem, writing⟩ | ⟨dirty, fault⟩ | busy | away | away | away | away := held
      · exact away draining
      · exact writes r mem writing
      · exact clean.elim dirty fun faulty => by simp [fault] at faulty
      · simp [busy] at quiet
      · exact away ready
      · simp [due] at away
      · simp [reported] at away
      · simp [supply] at away
    exact congrArg Host.Outcome.next (if_neg stays)
  · have complete : s.drainComplete d = true := by
      simp only [State.drainComplete, State.drainHeld, Bool.and_eq_true, Bool.or_eq_true, Bool.not_eq_true', Bool.or_eq_false_iff,
        List.any_eq_false, List.isEmpty_iff, beq_iff_eq, bne_eq_false_iff_eq]
      exact ⟨⟨⟨⟨draining, ⟨⟨ready, due⟩, reported⟩, supply⟩, fun r mem => by simp [writes r mem]⟩, clean⟩, quiet⟩
    have ran : exec (.volumeDrainComplete d) s = .next ((s.releaseVolume d).answer l b (.ok [])) := by
      refine congrArg Host.Outcome.next ((if_pos complete).trans ?_)
      rw [pending]
      rfl
    have region := s.releaseVolume_region d
    have vol := s.releaseVolume_vol d
    have cw := congrArg State.cw (s.releaseVolume_eq d)
    have kept := s.releaseVolume_others d
    refine ⟨_, ran, congrArg Volume.state vol, congrArg Volume.profile vol, congrArg Volume.free vol, congrArg Volume.sectors vol,
      congrArg Volume.pendingReq vol, (congrArg Volume.label vol).trans rfl, ?_, fun n => ?_, fun open_ => ?_,
      fun c => (iff_of_eq (congrArg (fun w : ClaimUnit => c ∈ w.claims) cw)).trans (ClaimUnit.mem_volumeGone _ d c), cw, ?_,
      fun track idle => State.releaseVolume_idle track idle, State.releaseVolume_pos .., fun m ne => ?_,
      ⟨kept.drives, kept.regions, kept.vols⟩, ?_⟩
    · rw [show ((s.releaseVolume d).answer l b (.ok [])).vol d = _ from vol]
      simp [Volume.released]
    · rw [show ((s.releaseVolume d).answer l b (.ok [])).vol d = _ from vol]
      simp only [Volume.released, Volume.entry, freshVolume, Vector.getD, Array.getD_eq_getD_getElem?]
      by_cases low : n < 256 <;> simp [low]
    · have shut := region.trans (Region.release_close open_)
      exact ⟨congrArg Region.state shut, congrArg Region.frames shut⟩
    · exact State.hasReply_answer _ ((congrArg (fun u : LineUnit => u.bufs.get b) (s.releaseVolume_line d l)).trans buffer) stage orphan
    · rw [State.answer_line_ne _ _ _ ne.symm, State.releaseVolume_line]
    · rw [State.releaseVolume_answer]
      rfl

end Sys2Proof.Machine
end

section
/-! The operation in service: what an ID field, a data field and the end of an operation do to it (sections 3.2 to 3.4); and
the settlement of the statement on the reads of one sector. -/
namespace Sys2Proof.Machine

/-! ### Records of the channel -/

theorem State.setOp_setOp (s : State) (d : DriveId) (x y : Option OpRecord) : (s.setOp d x).setOp d y = s.setOp d y := by
  simp only [State.setOp, State.modChannel, Vector.set_set]

theorem State.setOp_same {s : State} {d : DriveId} {x : Option OpRecord} (h : s.op d = x) : s.setOp d x = s := by
  have same : s.channel.ops.set d.val x d.isLt = s.channel.ops := by
    subst h
    exact Vector.set_getElem_self d.isLt
  rw [State.setOp, State.modChannel, same]

section
variable {s : State} {d : DriveId} {r : Request} {o : OpRecord}

/-- An operation served with another record. -/
theorem State.Serving.setOp (v : s.Serving d r o) (x : OpRecord) : (s.setOp d (some x)).Serving d r x :=
  ⟨v.granted, v.selected, State.op_setOp_self ..⟩

theorem State.Serving.modChannel (v : s.Serving d r o) {f : Channel → Channel} (granted : (f s.channel).granted = s.channel.granted)
    (ops : (f s.channel).ops = s.channel.ops) : (s.modChannel f).Serving d r o :=
  ⟨granted.trans v.granted, v.selected, (congrArg (fun x : Vector (Option OpRecord) 4 => x.get d) ops).trans v.record⟩

theorem State.Serving.unqueued (v : s.Serving d r o) : r.state ≠ .queued := by
  have held := v.selected
  unfold DriveSeq.selected at held
  simpa using List.find?_some held

/-! ### ID fields (R5, R6, R48) -/

theorem State.searching_of_plain (gate : s.channel.gate = none) (pulses : o.pulses < 2) (wrong : o.wrong < 2)
    (format : r.kind.isFormat = false) (sweep : r.kind.isSweep = false) : s.searching r o = true := by
  simp [State.searching, gate, pulses, wrong, format, sweep]

theorem State.dataMissing_none (v : s.Serving d r o) (none : o.awaiting = none) : s.dataMissing = s := by
  rw [State.dataMissing, v.awaited, none]
  rfl

/-- An ID mark while no data field is awaited is only taken as such (R5). -/
theorem State.Serving.idMark (v : s.Serving d r o) (none : o.awaiting = none) {f : IdField} (sync : 4 ≤ f.sync) :
    s.idMark f = s.idField f := by
  rw [State.idMark, State.dataMissing_none v none]
  exact if_pos (decide_eq_true sync)

theorem idMeaning_named {c : Nat} {f : IdField} (fits : r.FitsId f) (cylinder : f.cylinder.toNat = c) :
    idMeaning r.profile c r.head f = .names f.sectorId.toNat := by
  obtain ⟨size, low, high, head⟩ := fits
  unfold idMeaning
  rw [if_neg (not_not.mpr size), if_neg (by omega), if_neg (not_not.mpr head), if_neg (not_not.mpr cylinder)]

theorem idMeaning_wrong {c : Nat} {f : IdField} (fits : r.FitsId f) (cylinder : f.cylinder.toNat ≠ c) :
    idMeaning r.profile c r.head f = .wrongCylinder := by
  obtain ⟨size, low, high, head⟩ := fits
  unfold idMeaning
  rw [if_neg (not_not.mpr size), if_neg (by omega), if_neg (not_not.mpr head), if_pos cylinder]

theorem idMeaning_passed {c : Nat} {f : IdField} (unfit : ¬ r.FitsId f) : idMeaning r.profile c r.head f = .passed := by
  unfold idMeaning
  split
  · rfl
  next size =>
    split
    · rfl
    next range =>
      split
      · rfl
      next head => exact absurd ⟨not_not.mp size, by omega, by omega, not_not.mp head⟩ unfit

section
variable {c : Nat} {f : IdField} (v : s.Serving d r o) (look : s.searching r o = true) (at_c : (s.drive d).pos.cylinder = some c)
include v look at_c

theorem State.Serving.idField_eq (good : idGood f = true) : s.idField f =
    match idMeaning r.profile c r.head f with
    | .passed => if f.cylinder.toNat = c then s.setOp d (some { o with wrong := 0 }) else s
    | .wrongCylinder => s.wrongId d r o
    | .names k => (s.setOp d (some { o with wrong := 0 })).namedId d r { o with wrong := 0 } k := by
  unfold State.idField
  rw [v.service]
  dsimp only
  rw [if_pos (by simp [look, good]), at_c] <;> rfl

theorem State.Serving.idField_passed (good : idGood f = true) (unfit : ¬ r.FitsId f) :
    s.idField f = if f.cylinder.toNat = c then s.setOp d (some { o with wrong := 0 }) else s := by
  rw [v.idField_eq look at_c good, idMeaning_passed unfit]

theorem State.Serving.idField_wrong (good : idGood f = true) (fits : r.FitsId f) (away : f.cylinder.toNat ≠ c) :
    s.idField f = s.wrongId d r o := by rw [v.idField_eq look at_c good, idMeaning_wrong fits away]

theorem State.Serving.idField_named {k : Nat} (n : r.NamedBy f c k) :
    s.idField f = (s.setOp d (some { o with wrong := 0 })).namedId d r { o with wrong := 0 } k := by
  rw [v.idField_eq look at_c n.accepted.2, idMeaning_named n.fits n.cylinder, n.sector]

end

/-- The operations that seek one sector (R47). -/
def ReqKind.seeksOne (k : ReqKind) : Bool := k.isSingleRead || k.isSectorWrite

theorem ReqKind.seeksOne_plain {k : ReqKind} (one : k.seeksOne = true) : k.isFormat = false ∧ k.isSweep = false ∧ k.isFill = false := by
  cases k <;> simp_all [ReqKind.seeksOne, ReqKind.isSingleRead, ReqKind.isSectorWrite, ReqKind.isFormat, ReqKind.isSweep,
    ReqKind.isFill]

theorem State.namedId_one (one : r.kind.seeksOne = true) (k : Nat) : s.namedId d r o k
    = if r.sectorId = some k ∧ o.acted = false then s.soughtId d r o k else s := by
  unfold State.namedId
  split <;> simp_all [ReqKind.seeksOne, ReqKind.isSingleRead, ReqKind.isSectorWrite]

theorem State.Seeking.look {c : Nat} (v : s.Seeking d r o c) (one : r.kind.seeksOne = true) : s.searching r o = true :=
  State.searching_of_plain v.gate v.pulses v.wrong (ReqKind.seeksOne_plain one).1 (ReqKind.seeksOne_plain one).2.1

/-- The ID field of the sector sought (R47). -/
theorem State.Seeking.idMark_sought {c k : Nat} {f : IdField} (v : s.Seeking d r o c) (one : r.kind.seeksOne = true)
    (n : r.NamedBy f c k) (sought : r.sectorId = some k) (fresh : o.acted = false) :
    s.idMark f = (s.setOp d (some { o with wrong := 0 })).soughtId d r { o with wrong := 0 } k := by
  rw [v.toServing.idMark v.awaiting n.accepted.1, v.toServing.idField_named (v.look one) v.cylinder n, State.namedId_one one]
  exact if_pos ⟨sought, fresh⟩

/-- A second ID field of another cylinder is a seek fault (R48). -/
theorem State.Seeking.idMark_stray {c : Nat} {f : IdField} (v : s.Seeking d r o c) (look : s.searching r o = true)
    (one : o.wrong = 1) (accepted : IdAccepted f) (fits : r.FitsId f) (away : f.cylinder.toNat ≠ c) :
    s.idMark f = (s.setOp d (some { o with wrong := 2 })).seekFault d r { o with wrong := 2 } := by
  rw [v.toServing.idMark v.awaiting accepted.1, v.toServing.idField_wrong look v.cylinder accepted.2 fits away]
  unfold State.wrongId
  rw [one]
  rfl

/-! ### Data fields (R5, R7, R9) -/

theorem State.Serving.dataMissing (v : s.Serving d r o) {k : Nat} (awaiting : o.awaiting = some k) (look : s.searching r o = true) :
    s.dataMissing = s.dataResult ⟨d, r, o⟩ k none := by
  rw [State.dataMissing, v.awaited, awaiting, Option.bind_some, if_pos look]

theorem State.Serving.dataField (v : s.Serving d r o) {k : Nat} (awaiting : o.awaiting = some k) (look : s.searching r o = true)
    {f : DataField} (sync : 4 ≤ f.sync) :
    s.dataField f = s.dataResult ⟨d, r, o⟩ k (if dataGood r.profile.bytes f then some f else none) := by
  rw [State.dataField, v.awaited, awaiting, Option.bind_some, if_pos look, show afterSync f.sync = true from decide_eq_true sync]

/-! ### The end of an operation (R44, R74) -/

theorem State.Serving.opEnd_eq (v : s.Serving d r o) :
    s.opEnd d = ((((s.endGrant d).setOp d none).dropSelected d).dropHold d r) := by
  have held : (((s.endGrant d).setOp d none).drive d).selected = some r :=
    (State.selected_modPos _ d (fun p => { p with unload := 0 })).trans v.selected
  unfold State.opEnd State.leave
  rw [held]

theorem State.dropHold_vol (s : State) (d : DriveId) (r : Request) : (s.dropHold d r).vol d
    = if r.isDeskWrite = true ∧ r.state ≠ .queued then { s.vol d with heldGranule := none } else s.vol d := by
  unfold State.dropHold
  split
  · exact State.vol_modVol_self ..
  · rfl

/-- What the end of an operation leaves of its drive. -/
theorem State.Serving.opEnd_drive (v : s.Serving d r o) : (s.opEnd d).drive d = { s.drive d with
    queue := s.left d, pos := { (s.drive d).pos with unload := 0 } } := by
  have pos : ((s.endGrant d).setOp d none).drive d = { s.drive d with pos := { (s.drive d).pos with unload := 0 } } :=
    State.drive_modPos_self (s.modChannel _) d fun p => { p with unload := 0 }
  rw [v.opEnd_eq, State.dropHold_drive]
  refine (State.drive_modQueue ..).trans ((if_pos rfl).trans ?_)
  rw [pos]
  rfl

/-- And of the channel. -/
theorem State.Serving.opEnd_channel (v : s.Serving d r o) : (s.opEnd d).channel = { s.channel with
    state := .idle, granted := none, gate := none, ops := s.channel.ops.set d.val none d.isLt } := by
  rw [v.opEnd_eq]
  unfold State.dropHold
  split <;> rfl

/-- And of its volume: a granule that a desk WRITE held becomes allocatable (R147). -/
theorem State.Serving.opEnd_vol (v : s.Serving d r o) : (s.opEnd d).vol d
    = if r.isDeskWrite then { s.vol d with heldGranule := none } else s.vol d := by
  rw [v.opEnd_eq, State.dropHold_vol]
  simp only [v.unqueued, ne_eq, not_false_eq_true, and_true]
  rfl

/-- Nothing else changes. -/
theorem State.Serving.opEnd_rest (v : s.Serving d r o) : s.opEnd d = { s with
    drives := (s.opEnd d).drives, channel := (s.opEnd d).channel, vols := (s.opEnd d).vols } := by
  rw [v.opEnd_eq]
  unfold State.dropHold
  split <;> rfl

theorem State.Serving.opEnd_lines (v : s.Serving d r o) : (s.opEnd d).lines = s.lines := by rw [v.opEnd_rest]
theorem State.Serving.opEnd_regions (v : s.Serving d r o) : (s.opEnd d).regions = s.regions := by rw [v.opEnd_rest]
theorem State.Serving.opEnd_cw (v : s.Serving d r o) : (s.opEnd d).cw = s.cw := by rw [v.opEnd_rest]

theorem State.Serving.opEnd_vols (v : s.Serving d r o) (read : r.isDeskWrite = false) : (s.opEnd d).vols = s.vols := by
  rw [v.opEnd_eq]
  unfold State.dropHold
  rw [if_neg (by simp [read])]
  rfl

theorem State.Serving.opEnd_ended (v : s.Serving d r o) : s.EndedTo (s.opEnd d) d := by
  refine ⟨?_, ?_, ?_, ?_, ?_, ((State.Within.refl s d).opEnd).others⟩
  · rw [v.opEnd_channel]
  · rw [v.opEnd_channel]
  · rw [v.opEnd_channel]
  · rw [State.op, v.opEnd_channel]
    exact (vector_get_set ..).trans (if_pos rfl)
  · rw [v.opEnd_drive]

/-! ### What a success teaches (R51, R61) -/

theorem Margin.lean_setLean (m : Margin) (x y : Strobe) (n : Nat) : (m.setLean x n).lean y = if y = x then n else m.lean y := by
  cases x <;> cases y <;> rfl

theorem Margin.setLean_preferred (m : Margin) (x : Strobe) (n : Nat) : (m.setLean x n).preferred = m.preferred := by
  cases x <;> rfl

/-- What a strobe that succeeds in step 2 makes of the margin records (R61). -/
theorem State.learn_margin {s : State} {d : DriveId} {r : Request} {o : OpRecord} (two : o.step = .two)
    (teaches : r.kind.teaches = true) (e : DriveId) (z : Zone) : (s.learn d r o).margin e z
      = if o.strobe ∉ o.learned ∧ d = e ∧ o.zone = z then (s.margin e z).learn o.strobe else s.margin e z := by
  by_cases new : o.strobe ∉ o.learned
  · have learned : s.learn d r o = (s.setMargin d o.zone ((s.margin d o.zone).learn o.strobe)).setOp d (some
        { o with learned := o.learned ++ [o.strobe],
                 undo := if o.undo.any (fun x => x.1 == o.zone) then o.undo else (o.zone, s.margin d o.zone) :: o.undo }) :=
      if_pos ⟨two, teaches, new⟩
    rw [learned]
    refine (State.margin_setMargin s d e o.zone z _).trans ?_
    by_cases here : d = e ∧ o.zone = z
    · obtain ⟨rfl, rfl⟩ := here
      rw [if_pos ⟨rfl, rfl⟩, if_pos ⟨new, rfl, rfl⟩]
    · rw [if_neg here, if_neg fun h => here h.2]
  · rw [if_neg fun h => new h.1, State.learn, if_neg fun h => new h.2.2]

theorem State.learn_taught {s : State} {d : DriveId} {r : Request} {o : OpRecord} (two : o.step = .two)
    (teaches : r.kind.teaches = true) : s.Taught (s.learn d r o) d o where
  kept e z other := by
    rw [State.learn_margin two teaches]
    split
    next here =>
      obtain ⟨new, rfl, rfl⟩ := here
      have already : o.strobe = (s.margin d o.zone).preferred := by simpa [new] using other
      exact if_pos already
    · rfl
  rises new other few := by
    rw [State.learn_margin two teaches, if_pos ⟨new, rfl, rfl⟩, Margin.learn, if_neg other, if_neg (by omega)]
    refine ⟨Margin.setLean_preferred .., fun x => ?_⟩
    rw [Margin.lean_setLean]
    split
    next same => rw [same]
    · rfl
  wins new other many := by
    rw [State.learn_margin two teaches, if_pos ⟨new, rfl, rfl⟩, Margin.learn, if_neg other, if_pos many]
    exact ⟨rfl, fun x => by cases x <;> rfl⟩

/-- Outside step 2 nothing is taught. -/
theorem State.learn_not {s : State} {d : DriveId} {r : Request} {o : OpRecord} (no : o.step ≠ .two ∨ r.kind.teaches = false) :
    s.learn d r o = s := by
  unfold State.learn
  rw [if_neg]
  rintro ⟨two, teaches, -⟩
  exact no.elim (· two) fun silent => by simp [silent] at teaches

/-- Teaching changes the channel alone, and of it no count nor the grant. -/
theorem State.learn_eq (s : State) (d : DriveId) (r : Request) (o : OpRecord) : s.learn d r o = { s with channel :=
    { s.channel with ops := (s.learn d r o).channel.ops, outer := (s.learn d r o).channel.outer, inner := (s.learn d r o).channel.inner } } := by
  unfold State.learn State.setMargin
  split
  · cases o.zone <;> rfl
  · rfl

theorem State.countRecovered_eq (s : State) (o : OpRecord) : s.countRecovered o = { s with channel := { s.channel with
    recovered := if o.step.recovers then bump s.channel.recovered else s.channel.recovered } } := by
  unfold State.countRecovered
  split <;> rfl

theorem State.Serving.learn (v : s.Serving d r o) (r' : Request) : ∃ x, (s.learn d r' o).Serving d r x := by
  unfold State.learn
  split
  · refine ⟨_, State.Serving.setOp (v.modChannel ?_ ?_) _⟩ <;> cases o.zone <;> rfl
  · exact ⟨o, v⟩

theorem State.Serving.countRecovered (v : s.Serving d r o) (o' : OpRecord) : (s.countRecovered o').Serving d r o := by
  rw [State.countRecovered_eq]
  exact ⟨v.granted, v.selected, v.record⟩

/-- The count of reads recovered and the lesson that a good read at the ladder leaves (R51, R61, R69). -/
def State.lesson (s : State) (d : DriveId) (r : Request) (o : OpRecord) : State := (s.countRecovered o).learn d r o

theorem State.lesson_eq (s : State) (d : DriveId) (r : Request) (o : OpRecord) : s.lesson d r o = { s with channel :=
    { s.channel with
      ops := (s.lesson d r o).channel.ops, outer := (s.lesson d r o).channel.outer, inner := (s.lesson d r o).channel.inner,
      recovered := if o.step.recovers then bump s.channel.recovered else s.channel.recovered } } := by
  unfold State.lesson
  rw [State.learn_eq, State.countRecovered_eq]

theorem State.lesson_lines (s : State) (d : DriveId) (r : Request) (o : OpRecord) : (s.lesson d r o).lines = s.lines := by
  rw [State.lesson_eq]
theorem State.lesson_drives (s : State) (d : DriveId) (r : Request) (o : OpRecord) : (s.lesson d r o).drives = s.drives := by
  rw [State.lesson_eq]
theorem State.lesson_vols (s : State) (d : DriveId) (r : Request) (o : OpRecord) : (s.lesson d r o).vols = s.vols := by
  rw [State.lesson_eq]
theorem State.lesson_regions (s : State) (d : DriveId) (r : Request) (o : OpRecord) : (s.lesson d r o).regions = s.regions := by
  rw [State.lesson_eq]
theorem State.lesson_cw (s : State) (d : DriveId) (r : Request) (o : OpRecord) : (s.lesson d r o).cw = s.cw := by
  rw [State.lesson_eq]
theorem State.lesson_recovered (s : State) (d : DriveId) (r : Request) (o : OpRecord) : (s.lesson d r o).channel.recovered
    = if o.step.recovers then bump s.channel.recovered else s.channel.recovered := by rw [State.lesson_eq]

/-- The margin records of a lesson (R61). -/
theorem State.lesson_margin (s : State) (d : DriveId) (r : Request) (o : OpRecord) (e : DriveId) (z : Zone) :
    (s.lesson d r o).margin e z = (s.learn d r o).margin e z := by
  have counted : ∀ y, (s.countRecovered o).margin e y = s.margin e y := fun y => by
    rw [State.countRecovered_eq]
    cases y <;> rfl
  by_cases teaches : o.step = .two ∧ r.kind.teaches = true
  · rw [State.lesson, State.learn_margin teaches.1 teaches.2, State.learn_margin teaches.1 teaches.2, counted]
  · have silent : o.step ≠ .two ∨ r.kind.teaches = false := by
      rw [Bool.eq_false_iff]
      exact Decidable.not_and_iff_or_not.mp teaches
    rw [State.lesson, State.learn_not silent, State.learn_not silent, counted]

theorem State.Serving.lesson (v : s.Serving d r o) : ∃ x, (s.lesson d r o).Serving d r x := (v.countRecovered o).learn r

end

/-! ### The statement on the reads of one sector -/

section
variable {s : State} {d : DriveId} {r : Request} {o : OpRecord}

/-- An ID field with a bad check is not taken (R9). -/
theorem State.idField_bad (s : State) {f : IdField} (bad : idGood f = false) : s.idField f = s := by
  unfold State.idField
  split
  · rfl
  · rw [if_neg (by simp [bad])]

theorem State.idMark_unsynced (s : State) {f : IdField} (short : f.sync < 4) : s.idMark f = s :=
  if_neg fun after => absurd (of_decide_eq_true after) (Nat.not_le.mpr short)

theorem State.dataField_unsynced (s : State) {f : DataField} (short : f.sync < 4) : s.dataField f = s := by
  rw [State.dataField, show afterSync f.sync = false from decide_eq_false (Nat.not_le.mpr short)]

/-- The ID field of the sector that a read of one sector seeks (R54). -/
theorem State.soughtId_read (single : r.kind.isSingleRead = true) (state : s.channel.state ≠ .writeCheck) (k : Nat) :
    s.soughtId d r o k
      = (s.setOp d (some { o with acted := true, seen := true, awaiting := some k })).chanState .read := by
  unfold State.soughtId
  split
  · exact absurd ‹_› state
  · exact if_pos single

/-- The reply to a read of one sector (R54, R55). -/
def Request.readReply (r : Request) (h : Held) (o : OpRecord) (f : DataField) : Reply :=
  if r.kind.teaches then .done false o.step.recovers (h.body.take 4 ++ be2 f.bytes.length ++ f.bytes)
  else .done false o.step.recovers (rawResult h.body f o)

theorem Request.readReply_direct {b : BufId} (kind : r.kind = .directRead b) (h : Held) (f : DataField) : r.readReply h o f
    = .done false o.step.recovers (h.body.take 4 ++ be2 f.bytes.length ++ f.bytes) := if_pos (by rw [kind]; rfl)

theorem Request.readReply_raw {b : BufId} (kind : r.kind = .rawRead b) (h : Held) (f : DataField) : r.readReply h o f
    = .done false o.step.recovers (rawResult h.body f o) := if_neg (by rw [kind]; exact Bool.false_ne_true)

theorem State.bodyOf_held {s : State} {l : Line} {b : BufId} {h : Held} (held : s.buffer l b = some h) : s.bodyOf l b = h.body := by
  rw [State.bodyOf, held]

/-- A read of one sector that ends well: what it teaches, the end of its operation and the answer (R54, R55). -/
theorem State.readDone_eq {s : State} {d : DriveId} {r : Request} {o : OpRecord} {l : Line} {b : BufId} {h : Held} (desk : r.origin = .desk l)
    (kind : r.kind = .directRead b ∨ r.kind = .rawRead b) (held : s.buffer l b = some h) (f : DataField) :
    s.readDone d r o f = ((s.lesson d r o).opEnd d).answer l b (r.readReply h o f) := by
  unfold State.readDone
  rcases kind with kind | kind
  · rw [Request.readReply_direct kind, desk, kind, ← State.bodyOf_held held]
    rfl
  · rw [Request.readReply_raw kind, desk, kind, ← State.bodyOf_held held]
    rfl

/-- What the sector awaited is to a read of one sector (R54). -/
theorem State.dataResult_read {b : BufId} (kind : r.kind = .directRead b ∨ r.kind = .rawRead b) (k : Nat) (f : Option DataField) :
    s.dataResult ⟨d, r, o⟩ k f = match f with
      | some f => (s.setOp d (some { o with awaiting := none })).readDone d r { o with awaiting := none } f
      | none => (s.setOp d (some { o with awaiting := none })).chanState .search := by
  rcases kind with kind | kind <;> cases f <;> simp only [State.dataResult, kind]

end

/-- Settles O46. -/
theorem singleReadsFindTheirSector : Obligations.SingleReadsFindTheirSector := by
  unfold Obligations.SingleReadsFindTheirSector
  intro s d r o c k l b h granted selected record desk kind sought gate pulses wrong cylinder held stage orphan
  have v : s.Serving d r o := ⟨granted, selected, record⟩
  have single : r.kind.isSingleRead = true := by rcases kind with kind | kind <;> rw [kind] <;> rfl
  have one : r.kind.seeksOne = true := by rw [ReqKind.seeksOne, single]; rfl
  have look : s.searching r o = true :=
    State.searching_of_plain gate pulses wrong (ReqKind.seeksOne_plain one).1 (ReqKind.seeksOne_plain one).2.1
  refine ⟨fun f state none => ?_, fun awaiting => ?_⟩
  · intro fits
    refine ⟨fun short => congrArg Host.Outcome.next (s.idMark_unsynced short), fun sync => ?_⟩
    have taken {t : State} (e : s.idField f = t) : exec (.idFieldAccepted f) s = .next t :=
      congrArg Host.Outcome.next ((v.idMark none sync).trans e)
    refine ⟨fun passed => taken ?_, fun good unfit right => taken ?_, fun good fit away zero => taken ?_,
      fun good fit right other => taken ?_, fun good fit right it fresh => taken ?_⟩
    · by_cases good : idGood f = true
      · obtain ⟨unfit, away⟩ := passed.resolve_left (by simp [good])
        rw [v.idField_passed look cylinder good unfit, if_neg away]
      · exact s.idField_bad (by simpa using good)
    · rw [v.idField_passed look cylinder good unfit, if_pos right]
    · rw [v.idField_wrong look cylinder good fit away, State.wrongId, zero]
      rfl
    · rw [v.idField_named look cylinder ⟨⟨sync, good⟩, fit, right, rfl⟩, State.namedId_one one, if_neg]
      rintro ⟨same, fresh⟩
      obtain rfl := Option.some.inj (sought.symm.trans same)
      exact other.elim (· rfl) fun acted => by simp [acted] at fresh
    · rw [v.idField_named look cylinder ⟨⟨sync, good⟩, fit, right, it⟩, State.namedId_one one, if_pos ⟨sought, fresh⟩,
        State.soughtId_read single (by rw [show (s.setOp d _).channel.state = _ from state]; simp), State.setOp_setOp]
  · refine ⟨?_, fun f short => congrArg Host.Outcome.next (s.dataField_unsynced short), fun f sync => ⟨fun bad => ?_, fun good => ?_⟩⟩
    · exact congrArg Host.Outcome.next ((v.dataMissing awaiting look).trans (State.dataResult_read kind k none))
    · refine congrArg Host.Outcome.next ((v.dataField awaiting look sync).trans ?_)
      rw [if_neg (by simp [bad]), State.dataResult_read kind]
    · let o' : OpRecord := { o with awaiting := none }
      let u := s.setOp d (some o')
      have w : u.Serving d r o' := v.setOp o'
      obtain ⟨x, w'⟩ := w.lesson
      have run : exec (.dataFieldRead f) s = .next (((u.lesson d r o').opEnd d).answer l b (r.readReply h o' f)) := by
        refine congrArg Host.Outcome.next ((v.dataField awaiting look sync).trans ?_)
        rw [if_pos good, State.dataResult_read kind]
        exact State.readDone_eq (s := u) desk kind (h := h) held f
      have lines : ((u.lesson d r o').opEnd d).lines = s.lines := w'.opEnd_lines.trans (u.lesson_lines d r o')
      have replied := State.hasReply_answer (s := (u.lesson d r o').opEnd d) (r.readReply h o' f)
        ((congrArg (fun x : Vector LineUnit 8 => (x.get l).bufs.get b) lines).trans held) stage orphan
      have drive : (u.lesson d r o').drive d = s.drive d :=
        congrArg (fun x : Vector DriveSeq 4 => x.get d) (u.lesson_drives d r o')
      have direct (kind : r.kind = .directRead b) : r.kind.teaches = true := by rw [kind]; rfl
      have raw (kind : r.kind = .rawRead b) : r.kind.teaches = false := by rw [kind]; rfl
      have margins (e : DriveId) (z : Zone) :
          (((u.lesson d r o').opEnd d).answer l b (r.readReply h o' f)).margin e z = (u.learn d r o').margin e z := by
        refine Eq.trans ?_ (u.lesson_margin d r o' e z)
        show ((u.lesson d r o').opEnd d).margin e z = _
        cases z <;> simp only [State.margin, w'.opEnd_channel]
      have within : s.Within (((u.lesson d r o').opEnd d).answer l b (r.readReply h o' f)) d :=
        (((((State.Within.refl s d).setOp (some o')).countRecovered o').learn r o').opEnd).answer l b _
      obtain ⟨ended, idle, -, none, -⟩ := w'.opEnd_ended
      refine ⟨_, run, fun kind => ?_, fun kind => ?_, idle, ended, none, ?_, fun recovers => ?_, fun silent e z => ?_,
        fun two kind => ?_, within.others, ?_, ?_, ?_, ?_, within.cfg, within.part, within.clock⟩
      · exact Request.readReply_direct (o := o') kind h f ▸ replied
      · exact Request.readReply_raw (o := o') kind h f ▸ replied
      · refine w'.opEnd_drive.trans ?_
        rw [State.left, drive]
      · show ((u.lesson d r o').opEnd d).channel.recovered = _
        rw [w'.opEnd_channel]
        exact (u.lesson_recovered d r o').trans ((if_pos recovers).trans rfl)
      · refine (margins e z).trans ?_
        rw [State.learn_not (o := o') (silent.imp_right raw)]
        rfl
      · have taught := State.learn_taught (s := u) (d := d) (r := r) (o := o') two (direct kind)
        exact ⟨fun e z other => (margins e z).trans (taught.kept e z other),
          fun new other few => by rw [margins]; exact taught.rises new other few,
          fun new other many => by rw [margins]; exact taught.wins new other many⟩
      · exact w'.opEnd_regions.trans (u.lesson_regions d r o')
      · refine (w'.opEnd_vols ?_).trans (u.lesson_vols d r o')
        rcases kind with kind | kind <;> simp [Request.isDeskWrite, kind]
      · exact (State.opEnd_mem ..).trans (State.learn_mem ..|>.trans (State.countRecovered_mem ..))
      · exact w'.opEnd_cw.trans (u.lesson_cw d r o')

end Sys2Proof.Machine
end

section
/-! What an operation's ends, its retry ladder and its failed checks leave (sections 3.3 to 3.6): giving the channel up for a
recalibration, and a write that fails; and the settlement of the statement on the ladder. -/
namespace Sys2Proof.Machine

/-! ### Giving the channel up (R50) -/

/-- The report of a drive ready to mount changes its drive and volume and its margin records alone. -/
theorem State.reportReady_rest (s : State) (d : DriveId) : s.reportReady d = { s with
    drives := (s.reportReady d).drives, vols := (s.reportReady d).vols, arrival := (s.reportReady d).arrival,
    channel := { s.channel with outer := (s.reportReady d).channel.outer, inner := (s.reportReady d).channel.inner } } := by
  unfold State.reportReady State.mountReport
  split
  · rfl
  · split
    · rfl
    · split
      · unfold State.beginMount State.placeVolume
        split <;> rfl
      · rfl
      · rfl
      · rw [((s.modDrive d fun u => { u with reportDue := false }).offers_offered d).rest]
        rfl

theorem Positioner.moveTo_moving (p : Positioner) (t c : Nat) (cfg : ConfigRecord) :
    (p.moveTo t c cfg).state = .moving ∧ (p.moveTo t c cfg).target = some t ∧ (p.moveTo t c cfg).headLoaded = true := by
  simp only [Positioner.moveTo]
  split <;> exact ⟨rfl, rfl, rfl⟩

/-- On a resting drive a selected request's move begins and the channel is not asked (R29). -/
theorem State.beginMove_resting {s : State} {d : DriveId} {r : Request} {c : Nat} (selected : (s.drive d).selected = some r)
    (resting : (s.drive d).pos.state = .resting) (cylinder : (s.drive d).pos.cylinder = some c) :
    s.beginMove d = s.modPos d fun p => p.moveTo r.cylinder c s.cfg := by
  unfold State.beginMove
  dsimp only
  rw [selected, cylinder]
  exact (if_neg fun h => by rw [resting] at h; exact nomatch h.1).trans (if_pos (Or.inr resting))

/-- The position lost off cylinder 0: the drive recalibrates (R27). -/
theorem State.lostPosition_steps {s : State} {d : DriveId} (off : (s.drive d).levels.trackZero = false) :
    s.lostPosition d = s.modPos d fun p => p.toUnknown.startRecal s.cfg.stepPeriod := by
  have levels : ((s.modPos d Positioner.toUnknown).drive d).levels = (s.drive d).levels := by rw [State.drive_modPos_self]
  rw [State.lostPosition, State.recalibrate, levels, if_neg (by simp [off]), State.modPos_modPos]
  rfl

/-- The position lost on a drive with a request in RECAL-WAIT (R50): it recalibrates, or, on cylinder 0 already, begins the
move of the request. -/
theorem State.lostPosition_waits {s : State} {d : DriveId} {r : Request} (selected : (s.drive d).selected = some r) :
    ((s.lostPosition d).drive d).selected = some r
      ∧ ((s.drive d).levels.trackZero = false →
          ((s.lostPosition d).drive d).pos.state = .recalibrating ∧ ((s.lostPosition d).drive d).pos.remaining = 79)
      ∧ ((s.drive d).levels.trackZero = true → 
          ((s.lostPosition d).drive d).pos.state = .moving ∧ ((s.lostPosition d).drive d).pos.target = some r.cylinder
            ∧ ((s.lostPosition d).drive d).pos.headLoaded = true)
      ∧ s.lostPosition d = { s with
          drives := (s.lostPosition d).drives, vols := (s.lostPosition d).vols, arrival := (s.lostPosition d).arrival,
          channel := { s.channel with outer := (s.lostPosition d).channel.outer, inner := (s.lostPosition d).channel.inner } } := by
  have levels : ((s.modPos d Positioner.toUnknown).drive d).levels = (s.drive d).levels := by rw [State.drive_modPos_self]
  by_cases zero : (s.drive d).levels.trackZero = true
  · let u := s.modPos d fun p => ({ p.toUnknown with inward := false } : Positioner).atZero 80
    obtain ⟨waits, pos⟩ := u.reportReady_keeps d
    have rest := u.reportReady_rest d
    have here : ((u.reportReady d).drive d).pos = ({ (s.drive d).pos.toUnknown with inward := false } : Positioner).atZero 80 := by
      rw [pos, State.drive_modPos_self]
    have still : ((u.reportReady d).drive d).selected = some r := waits.trans ((State.selected_modPos ..).trans selected)
    have run : s.lostPosition d = (u.reportReady d).modPos d fun p => p.moveTo r.cylinder 0 (u.reportReady d).cfg := by
      rw [State.lostPosition, State.recalibrate, levels, if_pos zero, State.restedAtZero, State.modPos_modPos, State.modPos_modPos]
      exact State.beginMove_resting still (by rw [here]; rfl) (by rw [here]; rfl)
    rw [run]
    refine ⟨(State.selected_modPos ..).trans still, fun off => absurd zero (by simp [off]), fun _ => ?_, ?_⟩
    · rw [State.drive_modPos_self, here]
      exact Positioner.moveTo_moving ..
    · generalize u.reportReady d = v at rest
      rw [rest]
      rfl
  · rw [State.lostPosition_steps (by simpa using zero)]
    refine ⟨(State.selected_modPos ..).trans selected, fun _ => ?_, fun on => absurd on zero, rfl⟩
    rw [State.drive_modPos_self]
    exact ⟨rfl, rfl⟩

/-- Only what the channel keeps of its operations, its state and its count of seek faults differ. -/
def State.Noted (s u : State) : Prop :=
  ∃ x ops n, u = { s with channel := { s.channel with state := x, ops := ops, seekFaults := n } }

theorem State.Noted.refl (s : State) : s.Noted s := ⟨_, _, _, rfl⟩

section
variable {s u : State} {d : DriveId} {r : Request} {o : OpRecord}

theorem State.Noted.setOp (h : s.Noted u) (d : DriveId) (x : Option OpRecord) : s.Noted (u.setOp d x) := by
  obtain ⟨_, _, _, rfl⟩ := h
  exact ⟨_, _, _, rfl⟩

theorem State.Noted.chanState (h : s.Noted u) (x : ChanState) : s.Noted (u.chanState x) := by
  obtain ⟨_, _, _, rfl⟩ := h
  exact ⟨_, _, _, rfl⟩

theorem State.Noted.seekFaults (h : s.Noted u) (n : Nat) : s.Noted (u.modChannel fun c => { c with seekFaults := n }) := by
  obtain ⟨_, _, _, rfl⟩ := h
  exact ⟨_, _, _, rfl⟩

theorem State.Noted.othersKept {t : State} (h : s.Noted u) (k : u.OthersKept t d) : s.OthersKept t d := by
  obtain ⟨_, _, _, rfl⟩ := h
  exact ⟨k.drives, k.regions, k.vols⟩

theorem State.Noted.margin (h : s.Noted u) (e : DriveId) (z : Zone) : u.margin e z = s.margin e z := by
  obtain ⟨_, _, _, rfl⟩ := h
  cases z <;> rfl

theorem State.Noted.drive (h : s.Noted u) (e : DriveId) : u.drive e = s.drive e := by
  obtain ⟨_, _, _, rfl⟩ := h
  rfl

theorem State.Noted.lines (h : s.Noted u) : u.lines = s.lines := by
  obtain ⟨_, _, _, rfl⟩ := h
  rfl

theorem State.Noted.mem (h : s.Noted u) : u.mem = s.mem := by
  obtain ⟨_, _, _, rfl⟩ := h
  rfl

/-- Ladder step 3 (R50). -/
theorem State.Serving.releaseStep3 (v : u.Serving d r o) (noted : s.Noted u) (x : OpRecord) :
    s.GivenUp (u.releaseStep3 d x) d r x ∧ (u.releaseStep3 d x).channel.seekFaults = u.channel.seekFaults := by
  have within : u.Within (u.releaseStep3 d x) d := (State.Within.refl u d).releaseStep3 x
  let w := ((u.endGrant d).setOp d (some { x with step := .three })).modSelected d fun r => { r with state := .recalWait }
  have before : (((u.endGrant d).setOp d (some { x with step := .three })).drive d).selected = some r :=
    (State.selected_modPos _ d (fun p => { p with unload := 0 })).trans v.selected
  have waits : (w.drive d).selected = some { r with state := .recalWait } :=
    State.modSelected_selected (fun r => { r with state := .recalWait }) before fun _ => rfl
  have levels : (w.drive d).levels = (s.drive d).levels := by
    rw [← noted.drive d]
    have ends : ((u.endGrant d).drive d).levels = (u.drive d).levels := by
      rw [State.endGrant, State.drive_modPos_self]
      rfl
    exact (congrArg DriveSeq.levels (State.drive_modDrive_self ..)).trans ends
  obtain ⟨selected, recal, moves, rest⟩ := State.lostPosition_waits waits
  have run : u.releaseStep3 d x = w.lostPosition d := rfl
  rw [levels] at recal moves
  rw [run] at within ⊢
  have channel := congrArg State.channel rest
  refine ⟨⟨?_, ?_, ?_, selected, recal, fun on _ => moves on, noted.othersKept within.others, ?_, ?_,
    fun e z ne => (within.margins e z ne).trans (noted.margin e z)⟩, ?_⟩
  · rw [channel]
    rfl
  · rw [channel]
    rfl
  · rw [State.op, channel]
    exact State.op_setOp_self ..
  · rw [rest]
    exact noted.lines
  · rw [rest]
    exact noted.mem
  · rw [channel]
    rfl

end

end Sys2Proof.Machine
end

section
/-! The index fault with a buffer that is in progress though a reply of it heads the reply order: the answer to another waiter
of its line puts that reply on the line, so that the fault's own answer does not reach it. No run reaches such a state (an orderly
reply order excludes it, R176), but the two statements settled here claim the answer from every state, without that premise. -/
namespace Sys2Proof.Machine

/-- A request in progress in the hands of the Volume Manager, with a reply or without. -/
def crossedHeld (reply : Option Reply) : Held :=
  { tag := 0, code := codeMove, body := [], stage := .inProgress, taken := true, orphan := false, reply := reply, cls := .console }

/-- The write-back waiter of that buffer of line 0. -/
def crossedWaiter (b : BufId) : Waiter :=
  { sector := 0, line := 0, buf := b, covered := true, handle := 0, clamped := false, kind := .change }

/-- The INDEX-WRITE of sector 0, in service. -/
def crossedWrite : Request :=
  { Request.fresh .volume (.indexWrite 0) 1 0 (some 1) (some 0) labelProfile with state := .inService, granted := true }

/-- The profile of its volume. -/
def crossedProfile : Profile :=
  { recording := .fm, sizeCode := 0, spt := 16, sides := 1, interleave := 1, skew := 0, granule := 4, indexSectors := 1 }

/-- Drive 0 in service of that INDEX-WRITE with the record `o`, the channel in state `x`, both buffers of line 0 waiting for it:
the reply order names buffer 1, with a reply DONE, while its request is still in progress. -/
def crossedReplies (o : OpRecord) (x : ChanState) : State :=
  (((State.reset.modLine 0 fun u => { u with
      bufs := #v[some (crossedHeld none), some (crossedHeld (some (.done false false [])))], order := [.buf 1] }).modVol 0
    fun v => { v with profile := some crossedProfile, sectors := [.writing], waiters := [crossedWaiter 0, crossedWaiter 1] }).modQueue 0
    fun _ => [crossedWrite]).modChannel fun c => { c with granted := some 0, state := x, ops := #v[some o, none, none, none] }

/-- The reply that a buffer holds after a command. -/
def replyAfter (o : Out) (l : Line) (b : BufId) : Option Reply :=
  match o with
  | .next t => (t.buffer l b).bind Held.reply
  | _ => none

theorem replyAfter_of_hasReply {s t : State} {i : Instr} {l : Line} {b : BufId} {r : Reply} (run : exec i s = .next t)
    (has : t.hasReply l b r) : replyAfter (exec i s) l b = some r := by
  obtain ⟨h, held, -, reply⟩ := has
  rw [run]
  exact (congrArg (Option.bind · Held.reply) held).trans reply

theorem crossedReplies_serving (o : OpRecord) (x : ChanState) : (crossedReplies o x).Serving 0 crossedWrite o :=
  ⟨rfl, rfl, rfl⟩

theorem crossedWrite_writes : crossedWrite.WritesSector := .inr ⟨rfl, .inl ⟨0, rfl⟩⟩

theorem crossedReplies_inProgress (o : OpRecord) (x : ChanState) :
    (crossedReplies o x).InProgress 0 1 (crossedHeld (some (.done false false []))) := ⟨rfl, rfl, rfl⟩

/-- A command that is to fail that INDEX-WRITE, but leaves the reply DONE in buffer 1, does not meet what is claimed of it. -/
theorem crossedReplies_not_writeFails {o : OpRecord} {x : ChanState} {i : Instr} {c : Cause}
    (reply : replyAfter (exec i (crossedReplies o x)) 0 1 = some (.done false false [])) :
    ¬ ∃ t, exec i (crossedReplies o x) = .next t ∧ (crossedReplies o x).WriteFails t 0 crossedWrite c := by
  rintro ⟨t, run, fails⟩
  obtain ⟨-, answers, -⟩ := fails.index 0 rfl
  have has := answers (crossedWaiter 1) _ (by simp [crossedReplies]) (by simp [crossedWaiter]) (crossedReplies_inProgress o x)
  exact absurd (reply.symm.trans (replyAfter_of_hasReply run has)) (by decide)

/-- The search of that INDEX-WRITE, its ladder exhausted. -/
def exhaustedSearch : OpRecord := { freshOp 16 with step := .three, pulses := 2 }

/-- Refutes O47: at the end of the ladder the INDEX-WRITE of `crossedReplies` is an index fault that leaves one of its waiters
with another reply. -/
theorem not_singleReadsClimbTheLadder : ¬ Obligations.SingleReadsClimbTheLadder := by
  unfold Obligations.SingleReadsClimbTheLadder
  rintro ⟨-, claim⟩
  obtain ⟨-, search, -⟩ := claim (crossedReplies exhaustedSearch .search) 0 crossedWrite exhaustedSearch
    (crossedReplies_serving ..) crossedWrite_writes rfl
  obtain ⟨-, -, -, -, ends, -⟩ := search rfl rfl rfl
  exact crossedReplies_not_writeFails (by decide +kernel) (ends rfl rfl)

/-- The write check of that INDEX-WRITE's rewrite. -/
def secondCheck : OpRecord := { freshOp 16 with writes := 2, awaiting := some 1 }

/-- A data field cut short. -/
def shortField : DataField := { sync := 4, mark := .data, bytes := [], check := 0, whole := false }

/-- Refutes O48: a failed check of the rewrite of the INDEX-WRITE of `crossedReplies` is an index fault that leaves one of its
waiters with another reply. -/
theorem not_deskWritesAreWrittenAndChecked : ¬ Obligations.DeskWritesAreWrittenAndChecked := by
  unfold Obligations.DeskWritesAreWrittenAndChecked
  rintro ⟨-, claim, -⟩
  obtain ⟨-, -, checks⟩ := claim (crossedReplies secondCheck .writeCheck) 0 crossedWrite secondCheck 0 1 crossedProfile
    (crossedReplies_serving ..) rfl rfl rfl rfl rfl (by decide)
  obtain ⟨t, run, -, -, -, -, -, -, answers, -⟩ := checks shortField ⟨crossedReplies_serving .., rfl, rfl, by decide, by decide⟩ rfl
    ⟨by decide, by decide⟩ (by decide)
  have has := answers (crossedWaiter 1) _ (by simp [crossedReplies]) (by simp [crossedWaiter]) (crossedReplies_inProgress ..)
  have reply : replyAfter (exec (.dataFieldRead shortField) (crossedReplies secondCheck .writeCheck)) 0 1 = some (.done false false []) := by
    decide +kernel
  exact absurd (reply.symm.trans (replyAfter_of_hasReply run has)) (by decide)

end Sys2Proof.Machine
end

section
/-! Index pulses at a drive in service, and the maintenance requests: the settlement of the statement on SWEEP and RAW READ. -/
namespace Sys2Proof.Machine

/-! ### An index pulse at a drive in service (R22, R26, R81) -/

/-- A drive sequencer after a pulse has been timed and its pattern step has gone on. -/
def DriveSeq.timed (u : DriveSeq) (index : IndexTiming) (step : Nat) : DriveSeq := { u with index := index, patternStep := step }

/-- `s` with the pulse of drive `d` timed. -/
def State.timed (s : State) (d : DriveId) (index : IndexTiming) (step : Nat) : State := s.modDrive d fun u => u.timed index step

section
variable {s : State} {d : DriveId} {r : Request} {o : OpRecord} (index : IndexTiming) (step : Nat)

theorem State.timed_drive (s : State) (d : DriveId) : (s.timed d index step).drive d = (s.drive d).timed index step :=
  State.drive_modDrive_self ..

theorem State.Serving.timed (v : s.Serving d r o) : (s.timed d index step).Serving d r o :=
  ⟨v.granted, by rw [State.timed_drive]; exact v.selected, v.record⟩

/-- A drive in service is not idle: the pulse reaches the channel (R26). -/
theorem State.Serving.indexPulse (v : s.Serving d r o) (live : s.part.extReset = false) (ready : (s.drive d).condition = .ready)
    (us : Nat) : ∃ index step, exec (.indexPulse d us) s = .next ((s.timed d index step).channelPulse d) := by
  refine ⟨(s.drive d).index.pulse us, nextStep s.cfg.period (s.drive d).patternStep, ?_⟩
  have counts : ((s.modDrive d fun u => { u with index := u.index.pulse us }).modDrive d fun u => u.revolved s.cfg)
      = s.timed d ((s.drive d).index.pulse us) (nextStep s.cfg.period (s.drive d).patternStep) := by
    rw [State.modDrive_modDrive]
    refine State.modDrive_congr ((DriveSeq.countIdle_eq _ _).trans ?_)
    rw [if_neg]
    · rfl
    · rintro ⟨-, idle⟩
      exact absurd (v.selected.symm.trans idle) (by simp)
  have run : exec (.indexPulse d us) s
      = .next (((s.modDrive d fun u => { u with index := u.index.pulse us }).modDrive d fun u => u.revolved s.cfg).channelPulse d) :=
    congrArg Host.Outcome.next ((if_neg (by simp [live, ready])).trans (if_pos ready))
  rw [run, counts]

theorem State.Within.timed {t : State} (h : s.Within t d) : s.Within (t.timed d index step) d := h.modDrive _

end

/-- `u` is `s` but for the timing of a pulse of drive `d` and what the channel keeps. -/
structure State.Pulsed (s u : State) (d : DriveId) : Prop where
  rest   : u = { s with drives := u.drives, channel := u.channel }
  others : ∀ e, e ≠ d → u.drive e = s.drive e
  drive  : ∃ index step, u.drive d = (s.drive d).timed index step

namespace State.Pulsed
variable {s u t : State} {d : DriveId}

theorem refl (s : State) (d : DriveId) : s.Pulsed s d := ⟨rfl, fun _ _ => rfl, _, _, rfl⟩

theorem timed (s : State) (d : DriveId) (index : IndexTiming) (step : Nat) : s.Pulsed (s.timed d index step) d :=
  ⟨rfl, fun _ ne => State.drive_modDrive_ne _ ne.symm _, _, _, State.timed_drive ..⟩

theorem of_noted (h : s.Noted u) : s.Pulsed u d := by
  obtain ⟨_, _, _, rfl⟩ := h
  exact ⟨rfl, fun _ _ => rfl, _, _, rfl⟩

variable (h : s.Pulsed u d)
include h

theorem modChannel (f : Channel → Channel) : s.Pulsed (u.modChannel f) d :=
  ⟨(congrArg (State.modChannel · f) h.rest).trans rfl, h.others, h.drive⟩

theorem left : u.left d = s.left d := by
  obtain ⟨index, step, drive⟩ := h.drive
  rw [State.left, drive]
  rfl

theorem lines : u.lines = s.lines := by rw [h.rest]
theorem regions : u.regions = s.regions := by rw [h.rest]
theorem vols : u.vols = s.vols := by rw [h.rest]
theorem mem : u.mem = s.mem := by rw [h.rest]
theorem cfg : u.cfg = s.cfg := by rw [h.rest]
theorem arrival : u.arrival = s.arrival := by rw [h.rest]
theorem clock : u.clock = s.clock := by rw [h.rest]
theorem vol (e : DriveId) : u.vol e = s.vol e := congrArg (fun x : Vector Volume 4 => x.get e) h.vols
theorem region (e : DriveId) : u.region e = s.region e := congrArg (fun x : Vector Region 4 => x.get e) h.regions

theorem othersKept (k : u.OthersKept t d) : s.OthersKept t d :=
  ⟨fun e ne => (k.drives e ne).trans (h.others e ne), fun e ne => (k.regions e ne).trans (h.region e),
    fun e ne => (k.vols e ne).trans (h.vol e)⟩

theorem endedTo (k : u.EndedTo t d) : s.EndedTo t d := by
  obtain ⟨granted, idle, gate, none, queue, others⟩ := k
  exact ⟨granted, idle, gate, none, queue.trans h.left, h.othersKept others⟩

theorem suspended {r : Request} {o : OpRecord} (k : u.Suspended t d r o) : s.Suspended t d r o := by
  obtain ⟨granted, idle, gate, asks, op, selected, others, lines, vols, regions, mem⟩ := k
  exact ⟨granted, idle, gate, asks, op, selected, h.othersKept others, lines.trans h.lines, vols.trans h.vols,
    regions.trans h.regions, mem.trans h.mem⟩

theorem whole (k : t = { u with drives := t.drives, channel := t.channel }) : t = { s with drives := t.drives, channel := t.channel } := by
  refine k.trans ?_
  rw [h.rest]

end State.Pulsed

/-! ### Placing a SWEEP or a RAW READ (R194) -/

section
variable {s : State} {l : Line} {b : BufId} {h : Held} {code : Byte}

/-- R194 items 2 and 3. -/
theorem State.maintenanceRefused_eq (s : State) (d : DriveId) : s.maintenanceRefused d = match (s.drive d).condition with
    | .offline | .speedCheck | .faulted => some .notReady
    | .empty => some .noVolume
    | .ready => if (s.vol d).state = .mounting ∨ (s.vol d).state = .preparing then some .notReady else none := by
  unfold State.maintenanceRefused
  cases (s.drive d).condition <;> rfl

theorem State.onMaintenance_range {body : List Byte} {p : Option ReadProfile} (f : DriveId → ReadProfile → State → State)
    (bad : driveOf (byteAt body 0) = none ∨ 76 < byteAt body 1 ∨ 1 < byteAt body 2 ∨ p = none) :
    s.onMaintenance l b body p f = s.answer l b (.refused .outOfRange none) := by
  unfold State.onMaintenance
  cases drive : driveOf (byteAt body 0) with
  | none => rfl
  | some d =>
    cases p with
    | none => rfl
    | some p => exact if_pos (by simpa [drive, lastCylinder] using bad)

section
variable {body : List Byte} {d : DriveId} {p : ReadProfile} (f : DriveId → ReadProfile → State → State)
  (drive : driveOf (byteAt body 0) = some d) (cylinder : byteAt body 1 ≤ 76) (head : byteAt body 2 ≤ 1)
include drive cylinder head

theorem State.onMaintenance_named : s.onMaintenance l b body (some p) f = match s.maintenanceRefused d with
    | some r => s.answer l b (.refuse r)
    | none => f d p s := by
  unfold State.onMaintenance
  rw [drive]
  exact if_neg (by rintro (far | far) <;> [exact absurd cylinder (Nat.not_le.mpr far); exact absurd head (Nat.not_le.mpr far)])

end

end

/-! ### The revolutions of a sweep (R63) -/

section
variable {n : Nat} {best : Strobe × Nat} {ys : List (Strobe × Nat)}

/-- The better of two counts, the first of equals. -/
def betterOf (best y : Strobe × Nat) : Strobe × Nat := if best.2 < y.2 then y else best

theorem foldl_better_below (below : ∀ y ∈ ys, y.2 < n) (start : best.2 < n) : (ys.foldl betterOf best).2 < n := by
  induction ys generalizing best with
  | nil => exact start
  | cons y rest ih =>
    refine ih (fun z mem => below z (List.mem_cons_of_mem _ mem)) ?_
    unfold betterOf
    split
    · exact below y List.mem_cons_self
    · exact start

theorem foldl_better_stays (least : ∀ y ∈ ys, y.2 ≤ best.2) : ys.foldl betterOf best = best := by
  induction ys with
  | nil => rfl
  | cons y rest ih =>
    have stays : betterOf best y = best := if_neg (Nat.not_lt.mpr (least y List.mem_cons_self))
    rw [List.foldl_cons, stays]
    exact ih fun z mem => least z (List.mem_cons_of_mem _ mem)

end

/-- The strobe of the highest count, the first tried of equals (R63). -/
theorem bestStrobe_first {x : Strobe} {n : Nat} {before after : List (Strobe × Nat)} (less : ∀ y ∈ before, y.2 < n)
    (least : ∀ y ∈ after, y.2 ≤ n) : bestStrobe (before ++ (x, n) :: after) = x := by
  cases before with
  | nil => exact congrArg Prod.fst (foldl_better_stays (best := (x, n)) least)
  | cons y rest =>
    have run : bestStrobe (y :: rest ++ (x, n) :: after) = (((rest ++ (x, n) :: after).foldl betterOf y)).1 := rfl
    have under : (rest.foldl betterOf y).2 < n :=
      foldl_better_below (fun z mem => less z (List.mem_cons_of_mem _ mem)) (less y List.mem_cons_self)
    rw [run, List.foldl_append, List.foldl_cons, betterOf, if_pos under, foldl_better_stays least]

section
variable {s : State} {d : DriveId} {r : Request} {o : OpRecord}

/-- The counts of the revolutions made when a pulse ends one (R63). -/
def OpRecord.counts (o : OpRecord) : List (Strobe × Nat) :=
  match o.sweepRun with
  | none => []
  | some x => o.sweepCount ++ [(x, o.sweepGood.length)]

theorem State.searching_sweep {x : Strobe} (gate : s.channel.gate = none) (pulses : o.pulses < 2) (wrong : o.wrong < 2)
    (sweep : r.kind.isSweep = true) (running : o.sweepRun = some x) : s.searching r o = true := by
  have noFormat : r.kind.isFormat = false := by cases kind : r.kind <;> simp_all [ReqKind.isSweep, ReqKind.isFormat]
  simp [State.searching, gate, pulses, wrong, noFormat, sweep, running]

/-- What the sector awaited is to a sweep (R63). -/
theorem State.dataResult_sweep {b : BufId} (kind : r.kind = .sweep b) (k : Nat) (f : Option DataField) :
    s.dataResult ⟨d, r, o⟩ k f = match f with
      | some _ => s.setOp d (some { o with awaiting := none, sweepGood := o.sweepGood ++ [k] })
      | none => s.setOp d (some { o with awaiting := none }) := by
  cases f <;> simp only [State.dataResult, kind]

/-- A pulse at a sweep. -/
theorem State.Serving.sweepPulse (v : s.Serving d r o) (sweep : r.kind.isSweep = true) :
    s.channelPulse d = s.sweepNext d r o o.counts := by
  have noFormat : r.kind.isFormat = false := by cases kind : r.kind <;> simp_all [ReqKind.isSweep, ReqKind.isFormat]
  have acts : s.channelPulse d = s.sweepPulse d r o := by simp [State.channelPulse, v.service, noFormat, sweep]
  rw [acts, State.sweepPulse, OpRecord.counts]
  cases o.sweepRun <;> rfl

/-- The record of an operation whose next revolution begins (R63). -/
def OpRecord.revolve (o : OpRecord) (x : Strobe) (later : List Strobe) (counts : List (Strobe × Nat)) : OpRecord :=
  { o with sweepRun := some x, sweepLeft := later, strobe := x, sweepGood := [], sweepCount := counts, wrong := 0,
           awaiting := none }

theorem State.sweepNext_more {x : Strobe} {later : List Strobe} (left : o.sweepLeft = x :: later) (cs : List (Strobe × Nat)) :
    s.sweepNext d r o cs = (s.setOp d (some (o.revolve x later cs))).chanState .read := by
  rw [State.sweepNext, left]
  rfl

/-- The end of a sweep, answered (R63). -/
theorem State.Serving.sweepEnd {l : Line} {b : BufId} {h : Held} (v : s.Serving d r o) (desk : r.origin = .desk l)
    (kind : r.kind = .sweep b) (held : s.InProgress l b h) (cs : List (Strobe × Nat)) {p : Strobe}
    (best : clampStrobe s.cfg.strobeMin s.cfg.strobeMax (bestStrobe cs) = p) :
    s.EndedTo (s.sweepEnd d r o cs) d ∧ (s.sweepEnd d r o cs).channel.sweepFlag.get d = false
      ∧ (∀ e z, (s.sweepEnd d r o cs).margin e z = if d = e ∧ o.zone = z then preferring p else s.margin e z)
      ∧ (s.sweepEnd d r o cs).hasReply l b (.done false false (sweepResult h.body o.zone cs p)) := by
  obtain ⟨buffer, stage, orphan⟩ := held
  subst best
  let p := clampStrobe s.cfg.strobeMin s.cfg.strobeMax (bestStrobe cs)
  let u := ((s.opEnd d).setMargin d o.zone (preferring p)).setSweepFlag d false
  have lines : u.lines = s.lines := v.opEnd_lines
  have there : u.buffer l b = some h := (State.buffer_of_lines lines l b).trans buffer
  have run : s.sweepEnd d r o cs = u.answer l b (.done false false (sweepResult h.body o.zone cs p)) := by
    rw [← State.bodyOf_held buffer]
    unfold State.sweepEnd
    rw [desk, kind]
    rfl
  have flag : u.channel.sweepFlag.get d = false := (vector_get_set ..).trans (if_pos rfl)
  have margin (e : DriveId) (z : Zone) : u.margin e z = if d = e ∧ o.zone = z then preferring p else s.margin e z := by
    have teaches := State.margin_setMargin (s.opEnd d) d e o.zone z (preferring p)
    have kept : (s.opEnd d).margin e z = s.margin e z := by cases z <;> simp only [State.margin, v.opEnd_channel]
    rw [kept] at teaches
    exact Eq.trans (by cases z <;> rfl) teaches
  obtain ⟨granted, idle, gate, none, queue, others⟩ := v.opEnd_ended
  have within : s.Within u d := ((((State.Within.refl s d).opEnd).setMargin _ _)).setSweepFlag _
  have channel : u.channel = { (s.opEnd d).channel with
      outer := u.channel.outer, inner := u.channel.inner, sweepFlag := u.channel.sweepFlag } := by
    cases zone : o.zone <;> simp only [u, zone] <;> rfl
  rw [run]
  exact ⟨⟨(congrArg Channel.granted channel).trans granted, (congrArg Channel.state channel).trans idle,
    (congrArg Channel.gate channel).trans gate, (congrArg (fun c : Channel => c.ops.get d) channel).trans none, queue,
    (within.answer l b _).others⟩, flag, margin, State.hasReply_answer _ there stage orphan⟩

/-- A seek fault in a revolution: the sweep ends and the drive recalibrates (R63). -/
theorem State.Serving.sweepSeekFault {l : Line} {b : BufId} {h : Held} (v : s.Serving d r o) (desk : r.origin = .desk l)
    (kind : r.kind = .sweep b) (held : s.InProgress l b h) (off : (s.drive d).levels.trackZero = false) :
    s.EndedTo (s.sweepSeekFault d r) d ∧ (s.sweepSeekFault d r).hasReply l b (.failed .seekFault)
      ∧ (∀ e z, (s.sweepSeekFault d r).margin e z = s.margin e z) ∧ (s.sweepSeekFault d r).channel.sweepFlag.get d = false
      ∧ (s.sweepSeekFault d r).channel.seekFaults = s.channel.seekFaults
      ∧ ((s.sweepSeekFault d r).drive d).pos.state = .recalibrating := by
  obtain ⟨buffer, stage, orphan⟩ := held
  let u := ((s.opEnd d).setSweepFlag d false).answer l b (.failed .seekFault)
  have fails : s.opFailed d r .seekFault = u := by
    unfold State.opFailed State.failRequest State.countCheck
    rw [desk, kind]
    rfl
  have levels : (u.drive d).levels.trackZero = false := by
    rw [show u.drive d = (s.opEnd d).drive d from rfl, v.opEnd_drive]
    exact off
  have run : s.sweepSeekFault d r = u.modPos d fun p => p.toUnknown.startRecal u.cfg.stepPeriod := by
    rw [State.sweepSeekFault, fails, State.lostPosition_steps levels]
  have there : ((s.opEnd d).setSweepFlag d false).buffer l b = some h :=
    (State.buffer_of_lines (t := (s.opEnd d).setSweepFlag d false) v.opEnd_lines l b).trans buffer
  have replied : u.hasReply l b (.failed .seekFault) := State.hasReply_answer _ there stage orphan
  have within : s.Within (u.modPos d fun p => p.toUnknown.startRecal u.cfg.stepPeriod) d :=
    ((((State.Within.refl s d).opEnd).setSweepFlag false).answer l b _).modPos _
  have queue : (u.drive d).queue = s.left d := by rw [show u.drive d = (s.opEnd d).drive d from rfl, v.opEnd_drive]
  obtain ⟨granted, idle, gate, none, -, -⟩ := v.opEnd_ended
  rw [run]
  refine ⟨⟨granted, idle, gate, none, ?_, within.others⟩, replied, fun e z => ?_, (vector_get_set ..).trans (if_pos rfl), ?_, ?_⟩
  · rw [State.drive_modPos_self]
    exact queue
  · show (s.opEnd d).margin e z = _
    cases z <;> simp only [State.margin, v.opEnd_channel]
  · show (s.opEnd d).channel.seekFaults = _
    rw [v.opEnd_channel]
  · rw [State.drive_modPos_self]
    rfl

end

/-! ### The statement -/

/-- A maintenance request that names a drive, a cylinder and a head in range and a profile (R194 items 1 to 3). -/
theorem State.Waiting.maintenance {s : State} {l : Line} {b : BufId} {h : Held} {code : Byte} {d : DriveId} {p : ReadProfile}
    (w : s.Waiting l b code h) (drive : driveOf (byteAt h.body 0) = some d) (cylinder : byteAt h.body 1 ≤ 76)
    (head : byteAt h.body 2 ≤ 1) {g : Held → Option ReadProfile} (fields : g h = some p)
    (f : Held → DriveId → ReadProfile → State → State) :
    s.onRequest l b code (fun h s => s.onMaintenance l b h.body (g h) (f h)) = match s.maintenanceRefused d with
      | some r => s.replied l b h (.refuse r)
      | none => f h d p (s.takenBy l b h) := by
  rw [w.onRequest, fields, State.onMaintenance_named _ drive cylinder head]
  have same : (s.takenBy l b h).maintenanceRefused d = s.maintenanceRefused d := rfl
  rw [same]
  cases s.maintenanceRefused d with
  | none => rfl
  | some r => exact w.answer _

/-- A SWEEP or RAW READ with its fields in range, on a READY drive whose volume is neither MOUNTING nor PREPARING. -/
theorem State.Waiting.maintained {s : State} {l : Line} {b : BufId} {h : Held} {code : Byte} {d : DriveId} {p : ReadProfile}
    (w : s.Waiting l b code h) (drive : driveOf (byteAt h.body 0) = some d) (cylinder : byteAt h.body 1 ≤ 76)
    (head : byteAt h.body 2 ≤ 1) {g : Held → Option ReadProfile} (fields : g h = some p)
    (ready : (s.drive d).condition = .ready) (unmounting : (s.vol d).state ≠ .mounting) (unprepared : (s.vol d).state ≠ .preparing)
    (f : Held → DriveId → ReadProfile → State → State) :
    s.onRequest l b code (fun h s => s.onMaintenance l b h.body (g h) (f h)) = f h d p (s.takenBy l b h) := by
  have passes : s.maintenanceRefused d = none := by
    rw [State.maintenanceRefused_eq, ready]
    exact if_neg (by simp [unmounting, unprepared])
  rw [w.maintenance drive cylinder head fields, passes]

/-- Settles O36. -/
theorem sweepAndRawReadArePlacedOrRefused : Obligations.SweepAndRawReadArePlacedOrRefused := by
  unfold Obligations.SweepAndRawReadArePlacedOrRefused
  refine ⟨?_, ?_, ?_⟩
  · intro s l b h d p drive cylinder head ready unmounting unprepared track full queued
    refine ⟨fun w fields => ?_, fun w fields => ?_⟩
    · have run : exec (.sweep l b) s = .next ((s.takenBy l b h).sweepAt l b d p (byteAt h.body 1) (byteAt h.body 2)) :=
        congrArg Host.Outcome.next (w.maintained drive cylinder head (g := fun h => sweepFields h.body) fields ready unmounting unprepared _)
      rw [run]
      refine ⟨fun pending => ?_, fun idle full => ?_, fun idle room => ?_⟩
      · exact congrArg Host.Outcome.next ((if_pos pending).trans (w.answer _))
      · exact congrArg Host.Outcome.next ((if_neg (by simp [idle])).trans ((if_pos ((DriveSeq.deskFull_iff _).mpr full)).trans (w.refusePlace d)))
      · refine ⟨_, congrArg Host.Outcome.next ((if_neg (by simp [idle])).trans
          (if_neg (mt (DriveSeq.deskFull_iff _).mp (Nat.not_le.mpr room)))), ⟨rfl, rfl, rfl, rfl, rfl, rfl, rfl⟩, rfl, rfl, rfl⟩
    · have run : exec (.rawRead l b) s = .next ((s.takenBy l b h).rawAt l b d p (byteAt h.body 1) (byteAt h.body 2) (byteAt h.body 3)) :=
        congrArg Host.Outcome.next (w.maintained drive cylinder head (g := fun h => rawFields h.body) fields ready unmounting unprepared _)
      rw [run]
      refine ⟨fun full => ?_, fun room => ?_⟩
      · exact congrArg Host.Outcome.next ((if_pos ((DriveSeq.deskFull_iff _).mpr full)).trans (w.refusePlace d))
      · exact ⟨_, congrArg Host.Outcome.next (if_neg (mt (DriveSeq.deskFull_iff _).mp (Nat.not_le.mpr room))),
          ⟨rfl, rfl, rfl, rfl, rfl, rfl, rfl⟩, rfl, rfl, rfl⟩
  · intro s l b h i code p which w
    have run : ∃ (g : Held → Option ReadProfile) (f : Held → DriveId → ReadProfile → State → State), g h = p
        ∧ exec i s = .next (s.onRequest l b code fun h s => s.onMaintenance l b h.body (g h) (f h)) := by
      simp only [List.mem_cons, Prod.mk.injEq, List.not_mem_nil, or_false] at which
      obtain ⟨rfl, rfl, rfl⟩ | ⟨rfl, rfl, rfl⟩ := which
      · exact ⟨fun h => sweepFields h.body, _, rfl, rfl⟩
      · exact ⟨fun h => rawFields h.body, _, rfl, rfl⟩
    obtain ⟨g, f, fields, run⟩ := run
    rw [run]
    refine ⟨fun bad => ?_, fun d x drive cylinder head named => ?_⟩
    · rw [w.onRequest, fields, State.onMaintenance_range _ bad, w.answer]
    · have refused {reason : Reason} (e : s.maintenanceRefused d = some reason) :
          (Host.Outcome.next (s.onRequest l b code fun h s => s.onMaintenance l b h.body (g h) (f h)) : Out)
            = .next (s.replied l b h (.refused reason none)) := by
        rw [w.maintenance drive cylinder head (fields.trans named), e]
        rfl
      intro c
      refine ⟨fun off => refused ?_, fun empty => refused ?_, fun ready waits => refused ?_⟩
      · rw [State.maintenanceRefused_eq]
        obtain e | e | e := off <;> rw [show (s.drive d).condition = _ from e]
      · rw [State.maintenanceRefused_eq, show (s.drive d).condition = _ from empty]
      · rw [State.maintenanceRefused_eq, show (s.drive d).condition = _ from ready]
        exact if_pos waits
  · intro s d r o l b h v desk kind held counts count
    have sweep : r.kind.isSweep = true := by rw [kind]; rfl
    have same : counts = o.counts := rfl
    refine ⟨fun us live ready => ?_, fun f c k x v' running n new => ?_, fun f k x v' running => ?_, fun f c x v' running one accepted fits away off => ?_⟩
    · obtain ⟨index, step, run⟩ := v.indexPulse live ready us
      have w := v.timed index step
      rw [run, w.sweepPulse sweep]
      refine ⟨fun x later left => ?_, fun x n before after none made less least => ?_⟩
      · have kept := ((State.Within.refl s d).timed index step).others
        rw [State.sweepNext_more left]
        exact ⟨_, rfl, rfl, State.op_setOp_self .., ⟨kept.drives, kept.regions, kept.vols⟩, rfl⟩
      · have ends : (s.timed d index step).sweepNext d r o o.counts = (s.timed d index step).sweepEnd d r o o.counts := by
          rw [State.sweepNext, none]
        have best : bestStrobe o.counts = x := by
          rw [← same, made]
          exact bestStrobe_first less least
        obtain ⟨ended, flag, margin, replied⟩ := w.sweepEnd desk kind held o.counts (congrArg (clampStrobe s.cfg.strobeMin s.cfg.strobeMax) best)
        refine ⟨_, congrArg Host.Outcome.next ends, (State.Pulsed.timed s d index step).endedTo ended, flag, ?_, fun e z other => ?_, replied⟩
        · rw [margin, if_pos ⟨rfl, rfl⟩]
          rfl
        · rw [margin, if_neg]
          · rfl
          · rintro ⟨rfl, rfl⟩
            exact other.elim (· rfl) (· rfl)
    · have look : s.searching r o = true := State.searching_sweep v'.gate v'.pulses v'.wrong sweep running
      refine congrArg Host.Outcome.next ((v'.toServing.idMark v'.awaiting n.accepted.1).trans ((v'.toServing.idField_named look v'.cylinder n).trans ?_))
      rw [State.namedId, kind]
      refine (if_pos ?_).trans (State.setOp_setOp ..)
      simpa [running] using new
    · have look : s.searching r o = true := State.searching_sweep v'.gate v'.pulses v'.wrong sweep running
      refine ⟨fun good => ?_, fun bad => ?_⟩
      · refine congrArg Host.Outcome.next ((v'.toServing.dataField v'.awaiting look good.1).trans ?_)
        rw [if_pos good.2, State.dataResult_sweep kind]
      · refine congrArg Host.Outcome.next ((v'.toServing.dataField v'.awaiting look bad.1).trans ?_)
        rw [if_neg (by simp [bad.2]), State.dataResult_sweep kind]
    · have look : s.searching r o = true := State.searching_sweep v'.gate v'.pulses v'.wrong sweep running
      let u := (s.setOp d (some { o with wrong := 2 })).modChannel fun c => { c with seekFaults := bump c.seekFaults }
      have w : u.Serving d r { o with wrong := 2 } := (v.setOp { o with wrong := 2 }).modChannel rfl rfl
      obtain ⟨ended, replied, margin, flag, counted, pos⟩ := w.sweepSeekFault desk kind held off
      refine ⟨u.sweepSeekFault d r, congrArg Host.Outcome.next ((v'.idMark_stray look one accepted fits away).trans (if_pos sweep)),
        (State.Pulsed.of_noted (((State.Noted.refl s).setOp d _).seekFaults _)).endedTo ended, replied, margin, flag, counted, pos⟩

end Sys2Proof.Machine
end

section
/-! FORMAT-TRACK (R59): its pulses, its check and its ends; and the settlement of the statement on formats. -/
namespace Sys2Proof.Machine

/-! ### Emptying the frame of a track (R104) -/

/-- A frame with its fill number lowered. -/
theorem countP_validFor_lowerAbove (c h n : Nat) (fs : List Frame) :
    (lowerAbove n fs).countP (Frame.validFor c h) = fs.countP (Frame.validFor c h) := by
  rw [lowerAbove, List.countP_map]
  refine List.countP_congr fun f _ => ?_
  cases f with
  | valid c' h' m conds =>
    show (if n < m then Frame.valid c' h' (m - 1) conds else Frame.valid c' h' m conds).validFor c h = true ↔ _
    split <;> rfl
  | _ => rfl

/-- When at most one frame is VALID for the track, none is after the track is emptied. -/
theorem State.emptyTrack_frames {s : State} {d : DriveId} {c h : Nat}
    (one : (s.region d).frames.countP (Frame.validFor c h) ≤ 1) :
    ∀ g ∈ ((s.emptyTrack d c h).region d).frames, g.validFor c h = false := by
  unfold State.emptyTrack
  split
  next i found =>
    obtain ⟨lt, valid, -⟩ := frameWhere_spec found
    obtain ⟨n, conds, at_i⟩ : ∃ n conds, (s.region d).frame i = .valid c h n conds := by
      cases at_i : (s.region d).frame i <;> simp_all [Frame.validFor]
    have none : ((lowerAbove n (s.region d).frames).set i .empty).countP (Frame.validFor c h) = 0 := by
      have len : i < (lowerAbove n (s.region d).frames).length := by rwa [lowerAbove, List.length_map]
      rw [List.countP_set len, countP_validFor_lowerAbove]
      have here : (lowerAbove n (s.region d).frames)[i].validFor c h = true := by
        have at_i : (s.region d).frames[i] = .valid c h n conds := by rwa [Region.frame, List.getD_eq_getElem _ _ lt] at at_i
        simp [lowerAbove, at_i, Frame.validFor]
      rw [if_pos here]
      simp [Frame.validFor]
      omega
    rw [State.region_modRegion_self, Region.setFrame, at_i]
    intro g mem
    simpa using List.countP_eq_zero.mp none g mem
  next none => exact frameWhere_none_iff.mp none

/-! ### A step of PREPARE VOLUME that fails (R126) -/

section
variable {s : State} {d : DriveId} {r : Request} {o : OpRecord}

theorem State.countCheck_eq (s : State) (c : Cause) : s.countCheck c = { s with channel := { s.channel with
    checksFailed := if c = .writeCheck then min 65535 (s.channel.checksFailed + 1) else s.channel.checksFailed } } := by
  unfold State.countCheck
  split <;> rfl

theorem State.Serving.countCheck (v : s.Serving d r o) (c : Cause) : (s.countCheck c).Serving d r o := by
  rw [State.countCheck_eq]
  exact ⟨v.granted, v.selected, v.record⟩

/-- The operations that carry a step of PREPARE VOLUME (R125). -/
def ReqKind.prepares (k : ReqKind) : Prop := k = .formatTrack ∨ ∃ st, k = .prepWrite st

theorem ReqKind.prepares.notDesk (step : r.kind.prepares) : r.isDeskWrite = false := by
  obtain kind | ⟨st, kind⟩ := step <;> simp [Request.isDeskWrite, kind]

/-- A step of a preparation that fails. -/
theorem State.opFailed_prepares (step : r.kind.prepares) (c : Cause) : s.opFailed d r c
    = (((s.countCheck c).opEnd d).prepareFailed d c).emptyTrack d r.cylinder r.head := by
  unfold State.opFailed
  obtain kind | ⟨st, kind⟩ := step <;> rw [kind]

/-- What an end of an operation that only answers and empties a track leaves of its drive and of the channel (R44, R74). -/
theorem State.EndedTo.aside {t u : State} (h : s.EndedTo t d) (k : t.Aside u d) (others : s.OthersKept u d) : s.EndedTo u d := by
  obtain ⟨granted, idle, gate, none, queue, -⟩ := h
  have channel := k.channel
  refine ⟨?_, ?_, ?_, ?_, (congrArg (fun x : Vector DriveSeq 4 => (x.get d).queue) k.drives).trans queue, others⟩
  · rw [channel]; exact granted
  · rw [channel]; exact idle
  · rw [channel]; exact gate
  · rw [State.op, channel]; exact none

/-- The failure answers the PREPARE VOLUME. -/
theorem State.prepareFailed_answers {l : Line} {b : BufId} {h : Held} {clamped : Bool} (c : Cause)
    (pending : (s.vol d).pendingReq = some (.prepare l b clamped)) (held : s.InProgress l b h) :
    (s.prepareFailed d c).hasReply l b (.failed c) := by
  obtain ⟨buffer, stage, orphan⟩ := held
  rw [State.prepareFailed, pending]
  exact State.hasReply_answer (s := s.modVol d _) _ buffer stage orphan

/-- What the failure of a step of a preparation leaves (R126, R104). -/
theorem State.Serving.prepareFails (v : s.Serving d r o) (step : r.kind.prepares) (c : Cause) :
    s.EndedTo (s.opFailed d r c) d ∧ (s.opFailed d r c).vol d = (s.vol d).toForeign .incomplete
      ∧ (s.opFailed d r c).channel.checksFailed
          = (if c = .writeCheck then min 65535 (s.channel.checksFailed + 1) else s.channel.checksFailed)
      ∧ ∀ l b h clamped, (s.vol d).pendingReq = some (.prepare l b clamped) → s.InProgress l b h →
          (s.opFailed d r c).hasReply l b (.failed c) := by
  have w := v.countCheck c
  let u := (s.countCheck c).opEnd d
  have aside : u.Aside ((u.prepareFailed d c).emptyTrack d r.cylinder r.head) d :=
    ((State.Aside.refl u d).prepareFailed c).emptyTrack _ _
  have vol : u.vol d = s.vol d := by
    rw [w.opEnd_vol, if_neg (by simp [step.notDesk]), State.countCheck_eq]
    rfl
  have lines : u.lines = s.lines := by
    rw [w.opEnd_lines, State.countCheck_eq]
  have others := ((State.Within.refl s d).opFailed r c).others
  rw [State.opFailed_prepares step] at others ⊢
  refine ⟨?_, ?_, ?_, fun l b h clamped pending held => ?_⟩
  · exact State.EndedTo.aside (State.Pulsed.endedTo (by rw [State.countCheck_eq]; exact ⟨rfl, fun _ _ => rfl, _, _, rfl⟩) w.opEnd_ended) aside others
  · rw [State.emptyTrack_vol, State.prepareFailed_vol]
    exact congrArg (Volume.toForeign · .incomplete) vol
  · rw [aside.channel, w.opEnd_channel, State.countCheck_eq]
  · obtain ⟨buffer, stage, orphan⟩ := held
    exact (Lasting.hasReply (.failed c) l b (.failed c)).emptyTrack d _ _ (State.prepareFailed_answers c ((congrArg _ vol).trans pending)
      ⟨(State.buffer_of_lines lines l b).trans buffer, stage, orphan⟩)

/-! ### The check, the gate and the end of a format (R59) -/

theorem State.Serving.formatPulse (v : s.Serving d r o) (format : r.kind = .formatTrack) : s.channelPulse d = s.formatPulse d r o := by
  simp [State.channelPulse, v.service, format, ReqKind.isFormat]

theorem OpRecord.formatGood_iff (o : OpRecord) (spt : Nat) :
    (o.awaiting.isNone && o.formatGood spt) = true ↔ o.CheckedGood spt := by
  unfold OpRecord.formatGood OpRecord.CheckedGood
  simp only [Bool.and_eq_true, Option.isNone_iff_eq_none, Bool.not_eq_true', List.all_eq_true, List.mem_range, beq_iff_eq,
    List.contains_eq_mem, decide_eq_true_eq]
  refine and_congr Iff.rfl (and_congr Iff.rfl ⟨fun all k low high => ?_, fun all i less => all (i + 1) (by omega) (by omega)⟩)
  have at_k := all (k - 1) (by omega)
  rwa [Nat.sub_add_cancel low] at at_k

/-- The pulse at which a gate of the format is due. -/
theorem State.formatPulse_due (due : s.channel.state = .search
      ∨ s.channel.state = .writeCheck ∧ ¬ o.CheckedGood r.profile.spt ∧ o.writes < 2) :
    s.formatPulse d r o = s.formatGate d r := by
  unfold State.formatPulse
  obtain search | ⟨check, bad, once⟩ := due
  · rw [search]
  · rw [check]
    exact (if_neg (mt (o.formatGood_iff _).mp bad)).trans (if_neg (Nat.not_le.mpr once))

theorem State.formatPulse_good (check : s.channel.state = .writeCheck) (good : o.CheckedGood r.profile.spt) :
    s.formatPulse d r o = s.formatSucceeded d r := by
  unfold State.formatPulse
  rw [check]
  exact if_pos ((o.formatGood_iff _).mpr good)

theorem State.formatPulse_bad (check : s.channel.state = .writeCheck) (bad : ¬ o.CheckedGood r.profile.spt) (twice : 2 ≤ o.writes) :
    s.formatPulse d r o = s.opFailed d r .writeCheck := by
  unfold State.formatPulse
  rw [check]
  exact (if_neg (mt (o.formatGood_iff _).mp bad)).trans (if_pos twice)

/-- What the moment of the gate decides (R56). -/
theorem State.formatGate_protect (drain : s.part.drainOver = false) (protect : (s.drive d).levels.writeProtect = true) :
    s.formatGate d r = s.opFailed d r .writeCheck := by
  have check : s.gateCheck d = .protect := by simp [State.gateCheck, drain, protect]
  rw [State.formatGate, check]

theorem State.formatGate_inhibited (drain : s.part.drainOver = false) (protect : (s.drive d).levels.writeProtect = false)
    (inhibit : s.channel.inhibit = true) : s.formatGate d r = s.suspend d r := by
  have check : s.gateCheck d = .inhibited := by simp [State.gateCheck, drain, protect, inhibit]
  rw [State.formatGate, check]

theorem State.formatGate_opens {p : Profile} (profile : (s.vol d).profile = some p) (drain : s.part.drainOver = false)
    (protect : (s.drive d).levels.writeProtect = false) (inhibit : s.channel.inhibit = false) :
    s.formatGate d r = s.openGate r .format (formatTrack r.profile
      (if r.cylinder = 0 ∧ r.head = 0 then (1, 0) else (p.interleave, p.skew)).1
      (if r.cylinder = 0 ∧ r.head = 0 then (1, 0) else (p.interleave, p.skew)).2 (linearTrack p.sides r.cylinder r.head) r.cylinder r.head) := by
  have check : s.gateCheck d = .opens := by simp [State.gateCheck, drain, protect, inhibit]
  rw [State.formatGate, check, State.formatSlots, State.trackNumber, profile]

/-- The format `r` of a volume of profile `p` has ended well (R59, R125). -/
structure State.Formatted (s t : State) (d : DriveId) (r : Request) (p : Profile) : Prop where
  granted : t.channel.granted = none
  idle    : t.channel.state = .idle
  gate    : t.channel.gate = none
  op      : t.op d = none
  others  : s.OthersKept t d
  counted : (t.vol d).tracksFormatted = (s.vol d).tracksFormatted + 1
  frames  : (s.region d).frames.countP (Frame.validFor r.cylinder r.head) ≤ 1 →
              ∀ g ∈ (t.region d).frames, g.validFor r.cylinder r.head = false
  next    : ∀ c h, nextTrack p r.cylinder r.head = some (c, h) → ∃ x, (t.drive d).queue = s.left d ++ [x]
              ∧ x.VolumePlaced .formatTrack c h p.read s.arrival
  label   : ∀ i, nextTrack p r.cylinder r.head = none → (s.vol d).newLabel = some i → ∃ x, (t.drive d).queue = s.left d ++ [x]
              ∧ x.VolumePlaced (.prepWrite .label) 0 0 labelProfile s.arrival ∧ x.sectorId = some 1
              ∧ (t.vol d).labelArea = [(1, encodeLabel { i with day := s.clock.day, minute := s.clock.minute } p)]

theorem State.Pulsed.formatted {u t : State} {p : Profile} (h : s.Pulsed u d) (k : u.Formatted t d r p) : s.Formatted t d r p := by
  obtain ⟨granted, idle, gate, op, others, counted, frames, next, label⟩ := k
  rw [h.vol] at counted label
  rw [h.region] at frames
  rw [h.left, h.arrival] at next label
  rw [h.clock] at label
  exact ⟨granted, idle, gate, op, h.othersKept others, counted, frames, next, label⟩

theorem nextTrack_profile {p : Profile} {c h c' h' : Nat} (next : nextTrack p c h = some (c', h')) : ¬ (c' = 0 ∧ h' = 0) := by
  unfold nextTrack at next
  split at next
  · obtain ⟨rfl, rfl⟩ := Prod.mk.inj (Option.some.inj next)
    simp
  · split at next
    · obtain ⟨rfl, rfl⟩ := Prod.mk.inj (Option.some.inj next)
      simp
    · exact nomatch next

theorem State.offerLabelWrite_named {i : LabelInfo} (new : (s.vol d).newLabel = some i) (p : Profile) :
    s.offerLabelWrite d p = (s.modVol d fun v => { v with
        newLabel := some { i with day := s.clock.day, minute := s.clock.minute },
        labelArea := [(1, encodeLabel { i with day := s.clock.day, minute := s.clock.minute } p)] }).placeVolume d
      (Request.fresh .volume (.prepWrite .label) 0 0 (some 1) (some 0) labelProfile) := by
  rw [State.offerLabelWrite, new]

theorem State.Serving.formatSucceeded {p : Profile} (v : s.Serving d r o) (format : r.kind = .formatTrack)
    (profile : (s.vol d).profile = some p) (room : ((s.left d).filter fun x => x.origin == .volume).length < 2) :
    s.Formatted (s.formatSucceeded d r) d r p ∧ (s.formatSucceeded d r).channel.rewrites = s.channel.rewrites := by
  let u := (s.opEnd d).emptyTrack d r.cylinder r.head
  have vol : u.vol d = s.vol d := by
    rw [State.emptyTrack_vol, v.opEnd_vol, if_neg (by simp [Request.isDeskWrite, format])]
  have queue : (u.drive d).queue = s.left d := by
    rw [State.drive, State.emptyTrack_drives]
    exact congrArg DriveSeq.queue v.opEnd_drive |>.trans rfl
  have eq : u = { s.opEnd d with regions := u.regions } := State.emptyTrack_eq ..
  have arrival : u.arrival = s.arrival := by rw [eq, v.opEnd_rest]
  have clock : u.clock = s.clock := by rw [eq, v.opEnd_rest]
  have channel : u.channel = (s.opEnd d).channel := by rw [eq]
  have region : (s.opEnd d).region d = s.region d := congrArg (fun x : Vector Region 4 => x.get d) v.opEnd_regions
  have frames : (s.region d).frames.countP (Frame.validFor r.cylinder r.head) ≤ 1 →
      ∀ g ∈ (u.region d).frames, g.validFor r.cylinder r.head = false := fun one =>
    State.emptyTrack_frames (by rw [region]; exact one)
  obtain ⟨granted, idle, gate, cleared, -, -⟩ := v.opEnd_ended
  have run : s.formatSucceeded d r = u.afterFormat d p r.cylinder r.head := by
    rw [State.formatSucceeded, State.prepareNext, show (((s.opEnd d).emptyTrack d r.cylinder r.head).vol d).profile = some p from
      (congrArg Volume.profile vol).trans profile, format]
  have others : s.OthersKept (s.formatSucceeded d r) d := ((State.Within.refl s d).formatSucceeded r).others
  rw [run] at others ⊢
  clear_value u
  let w := u.modVol d fun v => { v with tracksFormatted := v.tracksFormatted + 1 }
  have counted : w.vol d = { s.vol d with tracksFormatted := (s.vol d).tracksFormatted + 1 } := by
    rw [State.vol_modVol_self, vol]
  have free (w' : State) (same : w'.drive d = u.drive d) (x : Request) : w'.placeVolume d x = w'.place d x :=
    if_pos (by rw [same, DriveSeq.volumeFree, DriveSeq.volumePlaces, queue]; exact decide_eq_true room)
  have common {t : State} (e : u.afterFormat d p r.cylinder r.head = t) (chan : t.channel = u.channel) (regs : t.regions = u.regions)
      (count : (t.vol d).tracksFormatted = (s.vol d).tracksFormatted + 1)
      (next : ∀ c h, nextTrack p r.cylinder r.head = some (c, h) → ∃ x, (t.drive d).queue = s.left d ++ [x]
        ∧ x.VolumePlaced .formatTrack c h p.read s.arrival)
      (label : ∀ i, nextTrack p r.cylinder r.head = none → (s.vol d).newLabel = some i → ∃ x, (t.drive d).queue = s.left d ++ [x]
        ∧ x.VolumePlaced (.prepWrite .label) 0 0 labelProfile s.arrival ∧ x.sectorId = some 1
        ∧ (t.vol d).labelArea = [(1, encodeLabel { i with day := s.clock.day, minute := s.clock.minute } p)]) :
      s.Formatted (u.afterFormat d p r.cylinder r.head) d r p
        ∧ (u.afterFormat d p r.cylinder r.head).channel.rewrites = s.channel.rewrites := by
    rw [e] at others ⊢
    have chan := chan.trans channel
    refine ⟨⟨chan ▸ granted, chan ▸ idle, chan ▸ gate, ?_, others, count, ?_, next, label⟩, ?_⟩
    · rw [State.op, chan]
      exact cleared
    · show _ → ∀ g ∈ (t.regions.get d).frames, _
      rw [regs]
      exact frames
    · rw [chan, v.opEnd_channel]
  cases next : nextTrack p r.cylinder r.head with
  | some track =>
    refine common (t := w.place d (formatRequest p track.1 track.2)) ?_ rfl rfl ?_ (fun c h e => ?_) fun i e => nomatch next.symm.trans e
    · rw [State.afterFormat, next]
      exact free w rfl _
    · exact congrArg Volume.tracksFormatted counted |>.trans rfl
    · obtain rfl := Option.some.inj (next.symm.trans e)
      refine ⟨_, (congrArg DriveSeq.queue (w.place_drive d _)).trans (congrArg (· ++ _) queue), rfl, rfl, rfl, rfl, ?_, rfl, rfl, arrival⟩
      exact if_neg (nextTrack_profile next)
  | none =>
    have waits : u.afterFormat d p r.cylinder r.head = w.offerLabelWrite d p := by rw [State.afterFormat, next]
    cases new : (s.vol d).newLabel with
    | none =>
      refine common (t := w) (waits.trans ?_) rfl rfl ?_ (fun c h e => nomatch next.symm.trans e) fun i _ e => nomatch new.symm.trans e
      · rw [State.offerLabelWrite, counted, new]
      · exact congrArg Volume.tracksFormatted counted |>.trans rfl
    | some i =>
      let stamped : LabelInfo := { i with day := u.clock.day, minute := u.clock.minute }
      have same : stamped = { i with day := s.clock.day, minute := s.clock.minute } := by rw [← clock]
      let x := w.modVol d fun v => { v with newLabel := some stamped, labelArea := [(1, encodeLabel stamped p)] }
      have offers : w.offerLabelWrite d p
          = x.placeVolume d (Request.fresh .volume (.prepWrite .label) 0 0 (some 1) (some 0) labelProfile) :=
        State.offerLabelWrite_named ((congrArg Volume.newLabel counted).trans new) p
      clear_value stamped
      have labelled : x.vol d = { w.vol d with newLabel := some stamped, labelArea := [(1, encodeLabel stamped p)] } :=
        State.vol_modVol_self ..
      refine common (t := x.place d (Request.fresh .volume (.prepWrite .label) 0 0 (some 1) (some 0) labelProfile)) (waits.trans ?_)
        rfl rfl ?_ (fun c h e => nomatch next.symm.trans e) fun i' _ e => ?_
      · exact offers.trans (free x rfl _)
      · exact (congrArg Volume.tracksFormatted labelled).trans ((congrArg Volume.tracksFormatted counted).trans rfl)
      · obtain rfl := Option.some.inj (new.symm.trans e)
        refine ⟨_, (congrArg DriveSeq.queue (x.place_drive d _)).trans (congrArg (· ++ _) queue),
          ⟨rfl, rfl, rfl, rfl, rfl, rfl, rfl, arrival⟩, rfl, ?_⟩
        rw [← same]
        exact congrArg Volume.labelArea labelled

/-! ### The check of a format (R59) -/

theorem State.searching_format (gate : s.channel.gate = none) (pulses : o.pulses < 2) (wrong : o.wrong < 2)
    (format : r.kind = .formatTrack) (check : s.channel.state = .writeCheck) : s.searching r o = true := by
  simp [State.searching, gate, pulses, wrong, format, ReqKind.isFormat, check]

/-- What the sector awaited is to the check of a format. -/
theorem State.dataResult_format (format : r.kind = .formatTrack) (k : Nat) (f : Option DataField) :
    s.dataResult ⟨d, r, o⟩ k f = match f with
      | some _ => s.setOp d (some { o with awaiting := none, checkGood := o.checkGood ++ [k] })
      | none => s.setOp d (some { o with awaiting := none, checkBad := true }) := by
  cases f <;> simp only [State.dataResult, format]

theorem State.namedId_format (format : r.kind = .formatTrack) (check : s.channel.state = .writeCheck) (k : Nat) :
    s.namedId d r o k = s.setOp d (some { o with checkSeen := o.checkSeen ++ [k], awaiting := some k }) := by
  unfold State.namedId
  rw [format]
  exact if_pos check

theorem State.closeGate_countWrite (s : State) (o : OpRecord) : s.closeGate.countWrite o = s.modChannel fun c => { c with
    gate := none, rewrites := if o.writes = 1 then bump c.rewrites else c.rewrites } := by
  unfold State.countWrite
  by_cases again : o.writes = 1
  · simp only [if_pos again]
    rfl
  · simp only [if_neg again]
    rfl

/-! ### A format cut off (R64, R65, R191) -/

/-- With no long inhibit, a format that INHIBIT cuts off is suspended. -/
theorem State.Serving.formatCut_inhibit (v : s.Serving d r o) (drain : s.part.drainOver = false) (short : s.channel.longInhibit = false) :
    s.Suspended (s.formatCut d r) d r o
      ∧ s.formatCut d r = { s with drives := (s.formatCut d r).drives, channel := (s.formatCut d r).channel } := by
  have e : s.formatCut d r = s.closeGate.suspend d r := if_neg (by simp [drain])
  have w : s.closeGate.Serving d r o := v.modChannel rfl rfl
  have P : s.Pulsed s.closeGate d := (State.Pulsed.refl s d).modChannel _
  obtain ⟨suspended, whole⟩ := w.suspend short
  rw [e]
  exact ⟨P.suspended suspended, P.whole whole⟩

/-- The end of the drain cuts a format off unreported. -/
theorem State.formatCut_drain (drain : s.part.drainOver = true) : s.FormatCut (s.formatCut d r) d ∧ (s.formatCut d r).op d = none
    ∧ ((s.formatCut d r).drive d).queue = (s.drive d).queue := by
  have e : s.formatCut d r = s.closeGate.endUnreported d := if_pos drain
  have others : s.OthersKept (s.closeGate.endUnreported d) d :=
    ((((State.Within.refl s d).modChannel (f := fun c => { c with gate := none }) (.same rfl rfl rfl rfl))).endUnreported).others
  rw [e]
  refine ⟨⟨rfl, rfl, rfl, others, rfl⟩, State.op_setOp_self .., ?_⟩
  exact congrArg DriveSeq.queue (State.drive_modPos_self (s.closeGate.modChannel _) d fun p => { p with unload := 0 }) |>.trans rfl

theorem State.leave_channel (s : State) (d : DriveId) : (s.leave d).channel = s.channel := by
  unfold State.leave State.dropHold
  split
  · split <;> rfl
  · rfl

/-- A write cut off leaves what the supply guard holds. -/
theorem State.suspend_guard (write : r.kind.isWrite = true) : (s.suspend d r).channel.inhibit = s.channel.inhibit
    ∧ (s.suspend d r).channel.supply = s.channel.supply := by
  unfold State.suspend
  split
  · have same := (State.givenUp_eq ((((s.endGrant d).leave d).setAsking d false).setOp d none) d r write).2
    have left : ((s.endGrant d).leave d).channel = (s.endGrant d).channel := State.leave_channel ..
    rw [State.withdrawSelected, same]
    show ((s.endGrant d).leave d).channel.inhibit = _ ∧ ((s.endGrant d).leave d).channel.supply = _
    rw [left]
    exact ⟨rfl, rfl⟩
  · exact ⟨rfl, rfl⟩

end

/-- Settles O49. -/
theorem formatsRunFromPulseToPulse : Obligations.FormatsRunFromPulseToPulse := by
  unfold Obligations.FormatsRunFromPulseToPulse
  intro s d r o us p live ready granted selected record kind profile z slots good gateDue running following succeeds fails
  have v : s.Serving d r o := ⟨granted, selected, record⟩
  obtain ⟨index, step, run⟩ := v.indexPulse live ready us
  let u := s.timed d index step
  have w : u.Serving d r o := v.timed index step
  have P : s.Pulsed u d := State.Pulsed.timed s d index step
  have levels : (u.drive d).levels = (s.drive d).levels := by rw [State.timed_drive]; rfl
  have pulse {t : State} (e : u.formatPulse d r o = t) : exec (.indexPulse d us) s = .next t := by
    rw [run, w.formatPulse kind]
    exact congrArg Host.Outcome.next e
  have due (g : gateDue) : u.formatPulse d r o = u.formatGate d r := State.formatPulse_due g.2.2
  have failed : fails (u.opFailed d r .writeCheck) := by
    obtain ⟨ended, vol, counted, answers⟩ := w.prepareFails (.inl kind) .writeCheck
    have vol : ((u.opFailed d r .writeCheck).vol d) = (s.vol d).toForeign .incomplete := vol
    exact ⟨P.endedTo ended, by rw [vol]; rfl, by rw [vol]; rfl, by rw [vol]; rfl, by rw [vol]; rfl, counted, answers⟩
  have succeeded {x : State} (k : x.Formatted (x.formatSucceeded d r) d r p) (Q : s.Pulsed x d) : succeeds (x.formatSucceeded d r) := by
    obtain ⟨granted, idle, gate, op, others, counted, frames, next, label⟩ := Q.formatted k
    exact ⟨granted, idle, gate, op, others, counted, frames, next, fun i none new => label i none new⟩
  refine ⟨fun g protect inhibit => ?_, fun g protect => ?_, fun g protect inhibit short => ?_, fun runs drain inhibit => ?_,
    fun i runs which => ?_, fun g formats gate drain inhibit => ?_, fun check gate => ?_⟩
  · exact ⟨_, pulse ((due g).trans (State.formatGate_opens profile g.2.1 (levels ▸ protect) inhibit)), rfl, w.record, rfl, rfl⟩
  · exact ⟨_, pulse ((due g).trans (State.formatGate_protect g.2.1 (levels ▸ protect))), failed⟩
  · exact ⟨_, pulse ((due g).trans (State.formatGate_inhibited g.2.1 (levels ▸ protect) inhibit)), P.suspended (w.suspend short).1⟩
  · have formats : u.channel.state = .format := runs.1
    let x := u.closeGate.countWrite o
    let o' : OpRecord := { o with writes := o.writes + 1, checkSeen := [], checkGood := [], checkBad := false }
    have counted : x = u.modChannel fun c => { c with
        gate := none, rewrites := if o.writes = 1 then bump c.rewrites else c.rewrites } := State.closeGate_countWrite ..
    have Q : s.Pulsed x d := by
      rw [counted]
      exact P.modChannel _
    have served : x.Serving d r o := by
      rw [counted]
      exact w.modChannel rfl rfl
    have ends : u.formatPulse d r o
        = if s.cfg.writeCheck then x.startAttempt d r o' .writeCheck none else x.formatSucceeded d r := by
      unfold State.formatPulse
      rw [formats]
      exact if_neg (by simp [show u.part.drainOver = false from drain, show u.channel.inhibit = false from inhibit])
    have rewrites : x.channel.rewrites = if o.writes = 1 then min 65535 (s.channel.rewrites + 1) else s.channel.rewrites := by
      rw [counted]
      rfl
    refine ⟨fun check => ?_, fun off room => ?_, ?_⟩
    · refine ⟨_, _, pulse (ends.trans (if_pos check)), rfl, ?_, State.op_setOp_self .., rfl, rfl, rfl, rfl, rewrites, ?_⟩
      · show x.channel.gate = none
        rw [counted]
        rfl
      · exact Q.whole rfl
    · obtain ⟨done, same⟩ := served.formatSucceeded kind ((congrArg Volume.profile (Q.vol d)).trans profile) (by rw [Q.left]; exact room)
      exact ⟨_, pulse (ends.trans (if_neg (by simp [off]))), succeeded done Q, same.trans rewrites⟩
    · refine congrArg Host.Outcome.next ?_
      rw [v.service]
      exact if_neg (by simp [drain, inhibit])
  · have cut : ∃ x, s.Pulsed x d ∧ x.Serving d r o ∧ x.part = s.part ∧ x.channel = s.channel ∧ (x.drive d).queue = (s.drive d).queue
        ∧ (s.part.drainOver = true ∨ s.channel.inhibit = true → exec i s = .next (x.formatCut d r)) := by
      obtain rfl | rfl := which
      · refine ⟨s, State.Pulsed.refl s d, v, rfl, rfl, rfl, fun cause => congrArg Host.Outcome.next ?_⟩
        rw [v.service]
        exact if_pos ⟨runs.1, Option.isSome_iff_ne_none.mpr runs.2, cause⟩
      · refine ⟨u, P, w, rfl, rfl, by rw [State.timed_drive]; rfl, fun cause => pulse ?_⟩
        unfold State.formatPulse
        rw [show u.channel.state = .format from runs.1]
        exact if_pos cause
    obtain ⟨x, Q, served, part, channel, queue, cuts⟩ := cut
    refine ⟨fun drain inhibit short => ?_, fun drain => ?_⟩
    · obtain ⟨suspended, whole⟩ := served.formatCut_inhibit (by rw [part]; exact drain) (by rw [channel]; exact short)
      exact ⟨_, cuts (.inr inhibit), Q.suspended suspended, Q.whole whole⟩
    · obtain ⟨⟨gate, granted, idle, others, whole⟩, op, same⟩ := State.formatCut_drain (s := x) (d := d) (r := r) (by rw [part]; exact drain)
      exact ⟨_, cuts (.inl drain), ⟨gate, granted, idle, Q.othersKept others, Q.whole whole⟩, op, same.trans queue⟩
  · let x := s.modChannel Channel.fallBelow
    have fell : x = s.modChannel fun c => { c with
        supply := .belowInhibit, restoreTimer := false, inhibit := true, longTimer := true, inhibits := bump c.inhibits } :=
      congrArg (fun c => ({ s with channel := c } : State)) (if_neg (by simp [inhibit]))
    have served : x.Serving d r o := by
      rw [fell]
      exact v.modChannel rfl rfl
    have Q : s.Pulsed x d := (State.Pulsed.refl s d).modChannel _
    have run : exec (.supplyBelowInhibit us) s = .next (x.cutInGap us) :=
      congrArg Host.Outcome.next ((if_neg (by simp [live])).trans (if_neg (by simp [inhibit])))
    have formats : x.channel.state = .format := by rw [fell]; exact formats
    have gate : x.channel.gate = some g := by rw [fell]; exact gate
    have guards : x.channel.inhibit = true ∧ x.channel.supply = .belowInhibit := by rw [fell]; exact ⟨rfl, rfl⟩
    by_cases inside : r.InField g us
    · have keeps : x.cutInGap us = x := State.cutInGap_keeps fun d' r' o' g' v' _ gate' => by
        have same := v'.service.symm.trans served.service
        simp only [Option.some.injEq, Service.mk.injEq] at same
        obtain ⟨-, rfl, -⟩ := same
        obtain rfl := Option.some.inj (gate'.symm.trans gate)
        exact inside
      refine ⟨x, run.trans (congrArg _ keeps), guards.1, guards.2, fun _ => ⟨gate, served.granted, served.record, rfl⟩, fun out => absurd inside out⟩
    · have cuts : x.cutInGap us = x.formatCut d r := served.cutInGap formats gate inside
      have normal : x.part.drainOver = false := drain
      have closed : x.formatCut d r = x.closeGate.suspend d r := if_neg (by simp [normal])
      have kept := State.suspend_guard (s := x.closeGate) (d := d) (r := r) (by rw [kind]; rfl)
      refine ⟨x.formatCut d r, run.trans (congrArg _ cuts), by rw [closed]; exact kept.1.trans guards.1,
        by rw [closed]; exact kept.2.trans guards.2, fun there => absurd there inside, fun _ short => ?_⟩
      obtain ⟨suspended, whole⟩ := served.formatCut_inhibit normal (by rw [fell]; exact short)
      exact ⟨Q.suspended suspended, Q.whole whole⟩
  · have look {o : OpRecord} (pulses : o.pulses < 2) (wrong : o.wrong < 2) : s.searching r o = true :=
      State.searching_format gate pulses wrong kind check
    have missed (k : Nat) (v' : s.Awaiting d r o k) : s.dataMissing = s.setOp d (some { o with awaiting := none, checkBad := true }) :=
      (v.dataMissing v'.awaiting (look v'.pulses v'.wrong)).trans (State.dataResult_format kind k none)
    refine ⟨fun f c k v' n => ?_, fun f k v' => ⟨fun goodData => ?_, fun bad => ?_⟩, fun k v' => congrArg Host.Outcome.next (missed k v'),
      fun f c k k' v' at_c n => ?_, fun f c v' one accepted fits away => ?_, fun isGood room => ?_, fun bad twice => ?_⟩
    · refine congrArg Host.Outcome.next ((v.idMark v'.awaiting n.accepted.1).trans
        ((v.idField_named (look v'.pulses v'.wrong) v'.cylinder n).trans ?_))
      exact (State.namedId_format (s := s.setOp d (some { o with wrong := 0 })) kind check k).trans (State.setOp_setOp ..)
    · refine congrArg Host.Outcome.next ((v.dataField v'.awaiting (look v'.pulses v'.wrong) goodData.1).trans ?_)
      rw [if_pos goodData.2, State.dataResult_format kind]
    · refine congrArg Host.Outcome.next ((v.dataField v'.awaiting (look v'.pulses v'.wrong) bad.1).trans ?_)
      rw [if_neg (by simp [bad.2]), State.dataResult_format kind]
    · let o1 : OpRecord := { o with awaiting := none, checkBad := true }
      have served : (s.setOp d (some o1)).Serving d r o1 := v.setOp o1
      have taken : s.idMark f = (s.setOp d (some o1)).idField f := by
        rw [← missed k v']
        exact if_pos (decide_eq_true n.accepted.1)
      refine congrArg Host.Outcome.next (taken.trans ((served.idField_named (State.searching_format gate v'.pulses v'.wrong kind check)
        at_c n).trans ?_))
      exact (State.namedId_format (s := (s.setOp d (some o1)).setOp d _) kind check k').trans
        ((State.setOp_setOp ..).trans (State.setOp_setOp ..))
    · refine congrArg Host.Outcome.next ((v'.idMark_stray (look v'.pulses v'.wrong) one accepted fits away).trans ?_)
      have bad : (s.setOp d (some { o with wrong := 2 })).seekFault d r { o with wrong := 2 }
          = ((s.setOp d (some { o with wrong := 2 })).modChannel fun c => { c with seekFaults := bump c.seekFaults }).setOp d
              (some { o with wrong := 2, checkBad := true }) := by
        unfold State.seekFault
        rw [kind]
        rfl
      rw [bad]
      exact State.setOp_setOp (s.modChannel fun c => { c with seekFaults := bump c.seekFaults }) d _ _
    · obtain ⟨done, -⟩ := w.formatSucceeded kind profile (by rw [P.left]; exact room)
      exact ⟨_, pulse (State.formatPulse_good check isGood), succeeded done P⟩
    · exact ⟨_, pulse (State.formatPulse_bad check bad twice), failed⟩

end Sys2Proof.Machine
end

section
/-! PREPARE VOLUME: the region given up (R107), what the request leaves, and the steps on sectors that end well or fail (R125, R126);
and the settlement of the statement. -/
namespace Sys2Proof.Machine

/-! ### The reads of the cache withdrawn (R107) -/

section
variable {d : DriveId} {c : Cause}

theorem State.failCacheRead_rest (s : State) (d : DriveId) (c : Cause) (r : Request) : s.failCacheRead d c r
    = { s with lines := (s.failCacheRead d c r).lines, regions := (s.failCacheRead d c r).regions } := by
  unfold State.failCacheRead
  split
  · exact State.foldl_keeps (fun t => t = { s with lines := t.lines, regions := t.regions })
      (fun s (rd : Reader) => s.answer rd.line rd.buf (.failed c)) (fun t _ k => by rw [k]; rfl) _ _ rfl
  · rfl
  · rfl

theorem State.failCacheRead_region (s : State) (d : DriveId) (c : Cause) (r : Request) : (s.failCacheRead d c r).region d
    = match r.fillFrame with
      | some i => { s.region d with frames := (s.region d).frames.set i .empty }
      | none => s.region d := by
  unfold State.failCacheRead Request.fillFrame
  cases kind : r.kind <;> cases r.origin <;> simp only [State.failReaders_region, State.region_modRegion_self] <;> rfl

theorem State.failCacheReads_rest (xs : List Request) (s : State) : xs.foldl (fun s r => s.failCacheRead d c r) s
    = { s with lines := (xs.foldl (fun s r => s.failCacheRead d c r) s).lines,
               regions := (xs.foldl (fun s r => s.failCacheRead d c r) s).regions } :=
  State.foldl_keeps (fun t => t = { s with lines := t.lines, regions := t.regions }) (fun s r => s.failCacheRead d c r)
    (fun t r k => by rw [State.failCacheRead_rest t, k]) xs s rfl

/-- The frames of the fills withdrawn become EMPTY, and no other frame changes. -/
structure Region.Emptied (g g' : Region) (xs : List Request) : Prop where
  rest   : g' = { g with frames := g'.frames }
  length : g'.frames.length = g.frames.length
  gone   : ∀ x j, x ∈ xs → x.kind = .fill j → g'.frame j = .empty
  kept   : ∀ j, (∀ x ∈ xs, x.kind ≠ .fill j) → g'.frame j = g.frame j

theorem Request.fillFrame_iff (r : Request) (i : Nat) : r.fillFrame = some i ↔ r.kind = .fill i := by
  unfold Request.fillFrame
  split <;> simp_all

/-- A frame that has been set EMPTY reads EMPTY, in the region or past its end. -/
theorem Region.frame_set_empty (g : Region) (i j : Nat) :
    ({ g with frames := g.frames.set i .empty } : Region).frame j = if i = j then .empty else g.frame j := by
  simp only [Region.frame, List.getD_eq_getElem?_getD, List.getElem?_set]
  by_cases e : i = j
  · subst e
    by_cases lt : i < g.frames.length <;> simp [lt]
  · simp [e]

theorem State.failCacheReads_region (xs : List Request) (s : State) :
    (s.region d).Emptied ((xs.foldl (fun s r => s.failCacheRead d c r) s).region d) xs := by
  induction xs generalizing s with
  | nil => exact ⟨rfl, rfl, fun _ _ no => (by cases no), fun _ _ => rfl⟩
  | cons x xs ih =>
    obtain ⟨rest, length, gone, kept⟩ := ih (s.failCacheRead d c x)
    have own := s.failCacheRead_region (d := d) (c := c) x
    cases fill : x.fillFrame with
    | none =>
      rw [fill] at own
      have plain (j : Nat) : x.kind ≠ .fill j := fun kind => by simp [(x.fillFrame_iff j).mpr kind] at fill
      simp only [own] at rest length kept
      refine ⟨rest, length, fun y j mem kind => ?_, fun j no => kept j fun y mem => no y (List.mem_cons_of_mem _ mem)⟩
      obtain rfl | mem := List.mem_cons.mp mem
      · exact absurd kind (plain j)
      · exact gone y j mem kind
    | some i =>
      rw [fill] at own
      have kind := (x.fillFrame_iff i).mp fill
      simp only [own, List.length_set, Region.frame_set_empty] at rest length kept
      refine ⟨rest, length, fun y j mem at_j => ?_, fun j no => ?_⟩
      · by_cases later : ∃ z ∈ xs, z.kind = .fill j
        · obtain ⟨z, mem, at_j⟩ := later
          exact gone z j mem at_j
        · obtain rfl | mem := List.mem_cons.mp mem
          · obtain rfl : i = j := by simpa [kind] using at_j
            exact (kept i fun z mem e => later ⟨z, mem, e⟩).trans (if_pos rfl)
          · exact absurd ⟨y, mem, at_j⟩ later
      · have ne : i ≠ j := fun e => no x (List.mem_cons_self ..) (e ▸ kind)
        exact (kept j fun y mem => no y (List.mem_cons_of_mem _ mem)).trans (if_neg ne)

/-! ### Whom the withdrawal answers -/

theorem Lasting.failCacheRead {P : State → Prop} (L : Lasting (.failed c) P) {s : State} (r : Request) (h : P s) :
    P (s.failCacheRead d c r) := by
  unfold State.failCacheRead
  split
  · exact L.failReaders _ (L.lines h rfl)
  · exact L.answer _ _ h
  · exact h

/-- The readers of a fill are answered when it is withdrawn. -/
theorem State.failCacheReads_readers {s : State} {xs : List Request} {x : Request} {j : Nat} {rd : Reader} {h : Held} (mem : x ∈ xs)
    (kind : x.kind = .fill j) (reads : rd ∈ ((s.region d).frame j).readers) (waits : s.Open rd.line rd.buf h) :
    (xs.foldl (fun s r => s.failCacheRead d c r) s).hasReply rd.line rd.buf (.failed c) := by
  have L := Lasting.settling rd.line rd.buf h (.failed c)
  have K := Lasting.hasReply (.failed c) rd.line rd.buf (.failed c)
  let P (t : State) : Prop := t.Settling rd.line rd.buf h (.failed c) ∧ rd ∈ ((t.region d).frame j).readers
    ∨ t.hasReply rd.line rd.buf (.failed c)
  have answers (t : State) (y : Request) (own : y.kind = .fill j) (p : P t) :
      (t.failCacheRead d c y).hasReply rd.line rd.buf (.failed c) := by
    obtain ⟨settling, reads⟩ | has := p
    · unfold State.failCacheRead
      rw [own]
      exact State.failReaders_answers reads rfl rfl (L.lines settling rfl)
    · exact K.failCacheRead y has
  refine State.foldl_reaches (P := P) (Q := fun t => t.hasReply rd.line rd.buf (.failed c)) (fun t y p => ?_) (fun t y p => K.failCacheRead y p) mem (fun t p => answers t x kind p)
    (.inl ⟨.inl waits, reads⟩)
  by_cases own : y.kind = .fill j
  · exact .inr (answers t y own p)
  · refine p.imp (fun ⟨settling, reads⟩ => ⟨L.failCacheRead y settling, ?_⟩) (K.failCacheRead y)
    have same := (State.failCacheReads_region (d := d) (c := c) [y] t).kept j
      fun z mem => by rw [List.mem_singleton.mp mem]; exact own
    exact same ▸ reads

/-- A DIRECT-READ that is withdrawn is answered. -/
theorem State.failCacheReads_direct {s : State} {xs : List Request} {x : Request} {m : Line} {n : BufId} {h : Held} (mem : x ∈ xs)
    (origin : x.origin = .desk m) (kind : x.kind = .directRead n) (waits : s.Open m n h) :
    (xs.foldl (fun s r => s.failCacheRead d c r) s).hasReply m n (.failed c) := by
  have L := Lasting.settling m n h (.failed c)
  have K := Lasting.hasReply (.failed c) m n (.failed c)
  refine State.foldl_reaches (P := fun t => t.Settling m n h (.failed c)) (Q := fun t => t.hasReply m n (.failed c))
    (fun t y p => L.failCacheRead y p)
    (fun t y p => K.failCacheRead y p) mem (fun t p => ?_) (.inl waits)
  unfold State.failCacheRead
  rw [origin, kind]
  exact p.answer

end

/-! ### The region given up (R107) -/

/-- A read of the cache that no positioner has begun on. -/
def Request.waitingRead (r : Request) : Bool := r.isCacheRead && r.state == .queued

theorem Request.waitingRead_queued {r : Request} (reads : r.waitingRead = true) : r.state = .queued := by
  simpa using (Bool.and_eq_true _ _ ▸ reads : r.isCacheRead = true ∧ (r.state == .queued) = true).2

theorem Request.waitingRead_fill {r : Request} {i : Nat} (kind : r.kind = .fill i) (state : r.state = .queued) :
    r.waitingRead = true := by
  simp [Request.waitingRead, Request.isCacheRead, kind, state]

theorem Request.waitingRead_direct {r : Request} {b : BufId} (kind : r.kind = .directRead b) (state : r.state = .queued) :
    r.waitingRead = true := by
  simp [Request.waitingRead, Request.isCacheRead, kind, state]

/-- The VALID frames dropped and the QUEUED reads of the cache out of the queue, none of them answered yet. -/
def State.unread (s : State) (d : DriveId) : State :=
  (s.modRegion d Region.dropValid).modQueue d fun q => q.filter fun r => !r.waitingRead

theorem Region.dropValid_frame (g : Region) (i : Nat) :
    g.dropValid.frame i = if (g.frame i).isValid then .empty else g.frame i := by
  simp only [Region.dropValid, Region.frame, List.getD_eq_getElem?_getD, List.getElem?_map]
  cases g.frames[i]? <;> rfl

theorem State.unread_selected (s : State) (d : DriveId) : ((s.unread d).drive d).selected = (s.drive d).selected := by
  rw [State.unread, State.modQueue, State.drive_modDrive_self]
  show List.find? _ (List.filter _ (s.drive d).queue) = List.find? _ _
  rw [List.find?_filter]
  congr 1
  funext r
  cases state : r.state <;> simp [Request.waitingRead, state]

/-- What an OPEN region that is given up leaves. -/
structure State.RegionGivenUp (s t : State) (d : DriveId) (xs : List Request) : Prop where
  only    : t = { s with lines := t.lines, drives := t.drives, regions := t.regions }
  drive   : t.drive d = { s.drive d with queue := (s.drive d).queue.filter fun r => !r.waitingRead }
  region  : t.region d = { s.region d with state := (t.region d).state, frames := (t.region d).frames }
  lines   : t.lines = (xs.foldl (fun s r => s.failCacheRead d .removed r) (s.unread d)).lines
  shut    : (∀ r i, (s.drive d).selected = some r → r.kind ≠ .fill i) → (t.region d).state = .shut ∧ (t.region d).frames = []
  closing : ∀ r i, (s.drive d).selected = some r → r.kind = .fill i →
    (t.region d).state = .closing ∧ (s.region d).dropValid.Emptied { t.region d with state := (s.region d).state } xs

theorem State.prepareRegion_open {s : State} {d : DriveId} (opened : (s.region d).state = .opened) :
    s.RegionGivenUp (s.prepareRegion d) d ((s.drive d).queue.filter Request.waitingRead) := by
  obtain ⟨f, ran, shuts, closes⟩ : ∃ f : Region → Region, s.prepareRegion d = (((s.drive d).queue.filter Request.waitingRead).foldl
        (fun s r => s.failCacheRead d .removed r) (s.unread d)).modRegion d f
      ∧ ((s.drive d).selected.bind Request.fillFrame = none → f = Region.close)
      ∧ (∀ i, (s.drive d).selected.bind Request.fillFrame = some i → f = fun g => { g with state := .closing }) := by
    have selected : ((((s.drive d).queue.filter Request.waitingRead).foldl (fun s r => s.failCacheRead d .removed r)
        (s.unread d)).drive d).selected = (s.drive d).selected := by
      rw [State.drive, State.failCacheReads_rest]
      exact s.unread_selected d
    cases found : (s.drive d).selected.bind Request.fillFrame with
    | none =>
      refine ⟨Region.close, ?_, fun _ => rfl, fun _ no => by cases no⟩
      refine (if_pos opened).trans ?_
      show (match ((((s.drive d).queue.filter Request.waitingRead).foldl (fun s r => s.failCacheRead d .removed r)
        (s.unread d)).drive d).selected.bind Request.fillFrame with
      | some _ => _
      | none => _) = _
      rw [selected, found] <;> rfl
    | some i =>
      refine ⟨fun g => { g with state := .closing }, ?_, fun no => (by cases no), fun _ _ => rfl⟩
      refine (if_pos opened).trans ?_
      show (match ((((s.drive d).queue.filter Request.waitingRead).foldl (fun s r => s.failCacheRead d .removed r)
        (s.unread d)).drive d).selected.bind Request.fillFrame with
      | some _ => _
      | none => _) = _
      rw [selected, found] <;> rfl
  generalize (s.drive d).queue.filter Request.waitingRead = xs at ran ⊢
  have rest := State.failCacheReads_rest (d := d) (c := .removed) xs (s.unread d)
  have emptied := State.failCacheReads_region (d := d) (c := .removed) xs (s.unread d)
  generalize run : xs.foldl (fun s r => s.failCacheRead d .removed r) (s.unread d) = u at ran rest emptied
  have drives : u.drives = (s.unread d).drives := by rw [rest]
  have before : (s.unread d).region d = (s.region d).dropValid := State.region_modRegion_self ..
  rw [before] at emptied
  have region : (s.prepareRegion d).region d = f (u.region d) := by rw [ran, State.region_modRegion_self]
  have shut (none : (s.drive d).selected.bind Request.fillFrame = none) := region.trans (congrFun (shuts none) _)
  have closing (i : Nat) (found : (s.drive d).selected.bind Request.fillFrame = some i) := region.trans (congrFun (closes i found) _)
  have sameRegion : u.region d = { s.region d with frames := (u.region d).frames } := emptied.rest
  refine ⟨?_, ?_, ?_, (congrArg State.lines ran).trans (congrArg State.lines run).symm, fun no => ?_, fun r i sel kind => ?_⟩
  · rw [ran]
    rw [rest]
    rfl
  · rw [ran]
    show u.drive d = _
    rw [State.drive, drives]
    exact State.drive_modDrive_self ..
  · cases found : (s.drive d).selected.bind Request.fillFrame with
    | none => rw [shut found, sameRegion]; rfl
    | some i => rw [closing i found, sameRegion]
  · have found : (s.drive d).selected.bind Request.fillFrame = none := by
      cases sel : (s.drive d).selected with
      | none => rfl
      | some r =>
        cases fill : r.fillFrame with
        | none => exact fill
        | some i => exact absurd ((r.fillFrame_iff i).mp fill) (no r i sel)
    exact ⟨congrArg Region.state (shut found), congrArg Region.frames (shut found)⟩
  · have found : (s.drive d).selected.bind Request.fillFrame = some i := by
      rw [sel]
      exact (r.fillFrame_iff i).mpr kind
    refine ⟨congrArg Region.state (closing i found), ?_⟩
    have same : ({ (s.prepareRegion d).region d with state := (s.region d).state } : Region) = u.region d := by
      rw [closing i found, sameRegion]
    rw [same]
    exact emptied

/-! ### PREPARE VOLUME is taken (R124, R125) -/

section
variable {s : State} {l : Line} {b : BufId} {h : Held} {d : DriveId}

theorem State.Waiting.prepareAt (w : s.Waiting l b codePrepareVolume h) (drive : driveOf (byteAt h.body 0) = some d)
    (gate : s.gateReason d .prepare true = none) :
    exec (.prepareVolume l b) s = .next ((s.takenBy l b h).prepareAt l b d h.body) :=
  congrArg Host.Outcome.next ((w.onRequest _).trans
    (State.gated_admitted drive ((s.takenBy_gateReason l b h d _ _).trans gate)))

theorem State.prepareAt_passed {body : List Byte} (bare : (s.drive d).levels.writeProtect = false) (safe : s.unsafeToPrepare d = false)
    (none : quantize (prepareFields body) (s.drive d).levels.twoSided = none) :
    s.prepareAt l b d body = s.answer l b (.refuse .outOfRange) := by
  unfold State.prepareAt
  simp only [bare, safe, none, Bool.false_eq_true, if_false]

theorem State.prepareAt_begins {body : List Byte} {z : Quantized} (bare : (s.drive d).levels.writeProtect = false)
    (safe : s.unsafeToPrepare d = false) (some_ : quantize (prepareFields body) (s.drive d).levels.twoSided = some z) :
    s.prepareAt l b d body = s.beginPrepare d l b (prepareFields body).info z := by
  unfold State.prepareAt
  simp only [bare, safe, some_, Bool.false_eq_true, if_false]

/-- A request in progress waits on when an owner takes another, or that one. -/
theorem State.Waiting.takenBy_open {code : Byte} (w : s.Waiting l b code h) {m : Line} {n : BufId} {y : Held}
    (there : s.InProgress m n y) (unanswered : y.reply = none) : ∃ z, (s.takenBy l b h).Open m n z := by
  obtain ⟨held, stage, owned⟩ := there
  by_cases own : l = m ∧ b = n
  · obtain ⟨rfl, rfl⟩ := own
    obtain rfl : h = y := Option.some.inj (w.held.symm.trans held)
    refine ⟨{ h with taken := true }, ?_, stage, owned, unanswered⟩
    show ((s.takenBy l b h).line l).bufs.get b = _
    rw [State.takenBy, State.line_modLine_self, LineUnit.setBuf_get_self]
  · refine ⟨y, Eq.trans ?_ held, stage, owned, unanswered⟩
    show ((s.modLine l _).line m).bufs.get n = (s.line m).bufs.get n
    rw [State.line_modLine]
    by_cases line : l = m
    · subst line
      simp only [if_true, LineUnit.setBuf_get, if_neg fun e : b = n => own ⟨rfl, e⟩]
    · rw [if_neg line]

/-- The volume of a preparation that begins. -/
def preparingVolume (l : Line) (b : BufId) (i : LabelInfo) (z : Quantized) : Volume :=
  { freshVolume with
    state := .preparing, profile := some z.profile, pendingReq := some (.prepare l b z.changed), newLabel := some i }

/-- What follows once the region is given up: the volume is gone for claims and watches, and the first FORMAT-TRACK joins the
queue. -/
theorem State.firstFormat {u : State} {q : List Request} (drive : u.drive d = { s.drive d with queue := q })
    (shorter : (q.filter fun x => x.origin == .volume).length ≤ (s.drive d).volumePlaces) (room : (s.drive d).volumePlaces < 2)
    (z : Quantized) :
    ∃ r t, (u.modClaims fun c => c.volumeGone d).placeVolume d (formatRequest z.profile 0 0) = t
      ∧ r.VolumePlaced .formatTrack 0 0 labelProfile u.arrival ∧ t.drive d = { s.drive d with queue := q ++ [r] }
      ∧ t = { u with drives := t.drives, cw := u.cw.volumeGone d, arrival := nextNumber u.arrival } := by
  have free : ((u.modClaims fun c => c.volumeGone d).drive d).volumeFree = true := by
    show decide ((u.drive d).volumePlaces < 2) = true
    rw [drive]
    exact decide_eq_true (lt_of_le_of_lt shorter room)
  refine ⟨{ formatRequest z.profile 0 0 with arrival := u.arrival }, _, if_pos free, ⟨rfl, rfl, rfl, rfl, rfl, rfl, rfl, rfl⟩, ?_, rfl⟩
  rw [State.place_drive, show (u.modClaims fun c => c.volumeGone d).drive d = _ from drive]
  rfl

end

/-! ### The steps of a preparation on sectors (R125 steps 2 and 3, R126) -/

section
variable {s u : State} {d : DriveId} {r : Request} {o : OpRecord} {k : Nat} {st : PrepStep} {p : Profile}

/-- The data field that a step's check reads. -/
theorem State.dataResult_step (kind : r.kind = .prepWrite st) (k : Nat) (f : Option DataField) :
    s.dataResult ⟨d, r, o⟩ k f = if f.isSome then (s.setOp d (some { o with awaiting := none })).writeSucceeded d r { o with awaiting := none }
      else (s.setOp d (some { o with awaiting := none })).checkFailed d r { o with awaiting := none } := by
  cases f <;> simp only [State.dataResult, kind] <;> rfl

/-- A step's WRITE ends well by its check or, with the write-check item off, with its field (R57). -/
theorem State.WritesGood.succeeds (kind : r.kind = .prepWrite st) {c : Instr} (good : s.WritesGood d r o k c) :
    ∃ u o' now, s.Pulsed u d ∧ u.Serving d r now ∧ exec c s = .next (u.writeSucceeded d r o') := by
  obtain ⟨f, rfl, waits, -, sync, whole⟩ | ⟨rfl, v, write, gate, off, drain⟩ := good
  · obtain ⟨v, shut, awaiting, pulses, wrong⟩ := waits
    refine ⟨s.setOp d (some { o with awaiting := none }), { o with awaiting := none }, _, (State.Pulsed.refl s d).modChannel _, v.setOp _, ?_⟩
    have look := State.searching_of_plain (r := r) shut pulses wrong (by rw [kind]; rfl) (by rw [kind]; rfl)
    refine congrArg Host.Outcome.next ((v.dataField awaiting look sync).trans ?_)
    rw [if_pos whole, State.dataResult_step kind]
    rfl
  · have counted := s.closeGate_countWrite o
    refine ⟨s.closeGate.countWrite o, { o with writes := o.writes + 1 }, o, ?_, ?_, ?_⟩
    · rw [counted]
      exact (State.Pulsed.refl s d).modChannel _
    · rw [counted]
      exact v.modChannel rfl rfl
    · have written : s.sectorWritten d r o = (s.closeGate.countWrite o).writeSucceeded d r { o with writes := o.writes + 1 } := by
        unfold State.sectorWritten
        rw [drain, off]
        rfl
      refine congrArg Host.Outcome.next (Eq.trans ?_ written)
      rw [v.service]
      exact if_pos ⟨write, Option.isSome_iff_ne_none.mpr gate⟩

/-- Nothing but the region's frames and the buffer memory changes by a write-through. -/
theorem State.writeThrough_only (s : State) (d : DriveId) (r : Request) (data : List Byte) : s.writeThrough d r data
    = { s with regions := (s.writeThrough d r data).regions, mem := (s.writeThrough d r data).mem } := by
  unfold State.writeThrough
  split <;> rfl

/-- The index sector that the WRITE after a step initialises, one past the last of them when there is none (R125). -/
def PrepStep.next : PrepStep → Nat
  | .label => 0
  | .index j => j + 1

/-- The state in which the next step is offered. -/
theorem State.Serving.stepWritten (v : u.Serving d r o) (kind : r.kind = .prepWrite st) (profile : (u.vol d).profile = some p)
    (o' : OpRecord) : ∃ z, u.writeSucceeded d r o' = z.nextIndexInit d p st.next
      ∧ u.EndedTo z d ∧ z.vol d = u.vol d ∧ z.lines = u.lines ∧ z.cw = u.cw ∧ z.cfg = u.cfg ∧ z.arrival = u.arrival := by
  let w := u.writeThrough d r (u.sectorData d r o')
  have only : w = { u with regions := w.regions, mem := w.mem } := u.writeThrough_only d r _
  have within : u.Within (w.opEnd d) d := ((State.Within.refl u d).writeThrough r _).opEnd
  have served : w.Serving d r o := by
    rw [only]
    exact ⟨v.granted, v.selected, v.record⟩
  have plain : r.isDeskWrite = false := by simp [Request.isDeskWrite, kind]
  have vols : (w.opEnd d).vols = u.vols := (served.opEnd_vols plain).trans (by rw [only])
  have vol : (w.opEnd d).vol d = u.vol d := congrArg (fun x : Vector Volume 4 => x.get d) vols
  have left : w.left d = u.left d := by rw [only]; rfl
  have ran : u.writeSucceeded d r o' = (w.opEnd d).prepareNext d r := by
    unfold State.writeSucceeded
    rw [kind]
    cases r.origin <;> rfl
  have rest := served.opEnd_rest
  obtain ⟨granted, idle, gate, cleared, queue, -⟩ := served.opEnd_ended
  refine ⟨w.opEnd d, ran.trans ?_, ⟨granted, idle, gate, cleared, queue.trans left, within.others⟩, vol, ?_, ?_, ?_, ?_⟩
  · unfold State.prepareNext
    rw [vol, profile]
    cases st <;> simp only [kind, PrepStep.next]
  all_goals rw [rest, only]

end

/-! ### The settlement -/

/-- What a PREPARE VOLUME that is taken leaves of the region, and whom it answers (R107). -/
theorem State.beginPrepare_answers {s v : State} {l : Line} {b : BufId} {h : Held} {d : DriveId} (w : s.Waiting l b codePrepareVolume h)
    (lines : v.lines = (s.takenBy l b h).lines) (regions : v.regions = s.regions) {xs : List Request} {u : State}
    (given : v.RegionGivenUp u d xs) :
    (∀ x j c hd rs rd y, x ∈ xs → x.kind = .fill j → (s.region d).frame j = .filling c hd rs → rd ∈ rs →
        s.InProgress rd.line rd.buf y → y.reply = none → u.hasReply rd.line rd.buf (.failed .removed))
      ∧ ∀ x m n y, x ∈ xs → x.origin = .desk m → x.kind = .directRead n → s.InProgress m n y → y.reply = none →
        u.hasReply m n (.failed .removed) := by
  have waits {m : Line} {n : BufId} {y : Held} (there : s.InProgress m n y) (unanswered : y.reply = none) : ∃ z, (v.unread d).Open m n z := by
    obtain ⟨z, held, rest⟩ := w.takenBy_open there unanswered
    exact ⟨z, (State.buffer_of_lines (show (v.unread d).lines = _ from lines) m n).trans held, rest⟩
  refine ⟨fun x j c hd rs rd y mem kind filling reads there unanswered => ?_, fun x m n y mem origin kind there unanswered => ?_⟩
  · obtain ⟨z, waiting⟩ := waits there unanswered
    have frame : ((v.unread d).region d).frame j = .filling c hd rs := by
      rw [show (v.unread d).region d = (s.region d).dropValid from
        (State.region_modRegion_self v d _).trans (congrArg (fun x : Vector Region 4 => (x.get d).dropValid) regions),
        Region.dropValid_frame, filling]
      rfl
    exact (Lasting.hasReply (.failed .removed) rd.line rd.buf _).lines
      (State.failCacheReads_readers mem kind (by rw [frame]; exact reads) waiting) given.lines
  · obtain ⟨z, waiting⟩ := waits there unanswered
    exact (Lasting.hasReply (.failed .removed) m n _).lines (State.failCacheReads_direct mem origin kind waiting) given.lines

/-- Settles O13. -/
theorem prepareVolumeBegins : Obligations.PrepareVolumeBegins := by
  unfold Obligations.PrepareVolumeBegins
  refine ⟨fun s l b h d w drive gate => ?_, fun s d r o k st p i l b h clamped v kind profile info pending held room => ?_⟩
  · intro q
    have ran := w.prepareAt drive gate
    refine ⟨fun protect => ?_, fun bare unsafe_ => ?_, fun bare safe none => ?_, fun z bare safe some_ room => ?_⟩
    · rw [ran, ← w.answer]
      exact congrArg Host.Outcome.next (if_pos protect)
    · rw [ran, ← w.answer]
      exact congrArg Host.Outcome.next ((if_neg (by simpa using bare)).trans (if_pos unsafe_))
    · rw [ran, ← w.answer, State.prepareAt_passed (s := s.takenBy l b h) bare safe none]
      rfl
    · have begun := State.prepareAt_begins (s := s.takenBy l b h) (l := l) (b := b) bare safe some_
      have others := (((State.Within.refl s d).modLine l fun u => u.setBuf b (some { h with taken := true })).beginPrepare l b
        (prepareFields h.body).info z).others
      let v := (s.takenBy l b h).modVol d fun _ => preparingVolume l b (prepareFields h.body).info z
      have vol : v.vol d = preparingVolume l b (prepareFields h.body).info z := State.vol_modVol_self ..
      rw [ran, begun]
      intro opened gone
      by_cases open_ : opened
      · have given := v.prepareRegion_open (d := d) open_
        have shorter : (((s.drive d).queue.filter fun r => !r.waitingRead).filter fun x => x.origin == .volume).length
            ≤ (s.drive d).volumePlaces := (List.filter_sublist.filter _).length_le
        obtain ⟨x, t, made, placed, own, only⟩ := State.firstFormat (s := s) (u := v.prepareRegion d) given.drive shorter room z
        obtain ⟨answersFill, answersDirect⟩ := State.beginPrepare_answers (s := s) (v := v) w rfl rfl given
        have lines : t.lines = (v.prepareRegion d).lines := by rw [only]
        have region : t.region d = (v.prepareRegion d).region d := by rw [only]; rfl
        have cw : t.cw = s.cw.volumeGone d := by rw [only, given.only]; rfl
        have arrival : t.arrival = (s.arrival + 1) % 65536 := by rw [only, given.only]; rfl
        have filling := given.region
        have waiting (y : Request) (mem : y ∈ (s.drive d).queue) (reads : y.waitingRead = true) :
            y ∈ (v.drive d).queue.filter Request.waitingRead := List.mem_filter.mpr ⟨mem, reads⟩
        refine ⟨t, congrArg Host.Outcome.next made, ?_, ⟨x, ?_, fun _ => (congrArg DriveSeq.queue own).trans rfl, fun no => absurd open_ no⟩, arrival, fun c => ?_, cw,
          own ▸ rfl, ?_, fun no => absurd open_ no, fun _ => ⟨?_, ?_, fun no => ?_, fun r i c hd rs selected kind frame lone => ?_, ?_, ?_⟩⟩
        · rw [only]
          show (v.prepareRegion d).vol d = _
          rw [given.only]
          exact vol
        · have at_ : (v.prepareRegion d).arrival = s.arrival := by rw [given.only]; rfl
          exact at_ ▸ placed
        · rw [cw]
          exact ClaimUnit.mem_volumeGone ..
        · exact made ▸ others
        · rw [only, given.only] <;> rfl
        · rw [region]
          exact filling
        · rw [region]
          exact given.shut no
        · obtain ⟨state, rest, length, emptied, kept⟩ := given.closing r i selected kind
          have stays (j : Nat) (none : ∀ y ∈ (s.drive d).queue, y.state = .queued → y.kind ≠ .fill j) :
              ((v.prepareRegion d).region d).frame j = if ((s.region d).frame j).isValid then .empty else (s.region d).frame j := by
            refine (kept j fun y mem fill => ?_).trans (Region.dropValid_frame ..)
            obtain ⟨queued, reads⟩ := List.mem_filter.mp mem
            exact none y queued (Request.waitingRead_queued reads) fill
          have goes (y : Request) (j : Nat) (mem : y ∈ (s.drive d).queue) (state : y.state = .queued) (fill : y.kind = .fill j) :=
            emptied y j (waiting y mem (Request.waitingRead_fill fill state)) fill
          rw [region]
          refine ⟨state, ?_, length.trans (List.length_map ..), fun j valid => ?_, fun y j mem state fill => goes y j mem state fill⟩
          · rw [stays i lone, frame]
            rfl
          · by_cases fills : ∃ y ∈ (s.drive d).queue, y.state = .queued ∧ y.kind = .fill j
            · obtain ⟨y, mem, state, fill⟩ := fills
              exact goes y j mem state fill
            · rw [stays j fun y mem state fill => fills ⟨y, mem, state, fill⟩, if_pos valid]
        · intro y j c hd rs rd z mem state kind frame reads there unanswered
          exact (Lasting.hasReply (.failed .removed) _ _ _).lines
            (answersFill y j c hd rs rd z (waiting y mem (Request.waitingRead_fill kind state)) kind frame reads there unanswered) lines
        · intro y m n z mem state origin kind there unanswered
          exact (Lasting.hasReply (.failed .removed) _ _ _).lines
            (answersDirect y m n z (waiting y mem (Request.waitingRead_direct kind state)) origin kind there unanswered) lines
      · have left : v.prepareRegion d = v := if_neg open_
        have drive' : v.drive d = { s.drive d with queue := (s.drive d).queue } := rfl
        obtain ⟨x, t, made, placed, own, only⟩ := State.firstFormat (s := s) (u := v) drive' le_rfl room z
        have made : (s.takenBy l b h).beginPrepare d l b (prepareFields h.body).info z = t := by
          rw [← made]
          show ((v.prepareRegion d).modClaims _).placeVolume d _ = _
          rw [left]
        have cw : t.cw = s.cw.volumeGone d := by rw [only]; rfl
        have arrival : t.arrival = (s.arrival + 1) % 65536 := by rw [only]; rfl
        refine ⟨t, congrArg Host.Outcome.next made, ?_, ⟨x, placed, fun yes => absurd yes open_, fun _ => by rw [own]⟩, arrival, fun c => ?_, cw,
          by rw [own], made ▸ others, fun _ => ⟨?_, ?_⟩, fun yes => absurd yes open_⟩
        · rw [only]
          exact vol
        · rw [cw]
          exact ClaimUnit.mem_volumeGone ..
        · rw [only]; rfl
        · rw [only] <;> rfl
  · intro next
    have step : next = st.next := by cases st <;> rfl
    rw [step]
    clear_value next
    refine ⟨fun c good more => ?_, fun c good last => ?_, fun f waits check bad twice => ?_⟩
    · obtain ⟨u, o', now, P, w, ran⟩ := good.succeeds kind
      obtain ⟨z, written, ended, vol, lines, cw, cfg, arrival⟩ := w.stepWritten kind ((congrArg Volume.profile (P.vol d)).trans profile) o'
      obtain ⟨granted, idle, gate, cleared, queue, others⟩ := P.endedTo ended
      let x : Request := Request.fresh .volume (.prepWrite (.index st.next)) 1 (p.indexPlace st.next).1 (some (p.indexPlace st.next).2)
        (some (p.slot 1 (p.indexPlace st.next).1 (p.indexPlace st.next).2)) p.read
      have free : ((z.modVol d fun v => { v with staging := [(st.next, List.replicate p.bytes 0#8)] }).drive d).volumeFree = true := by
        show decide (((z.drive d).queue.filter fun x => x.origin == .volume).length < 2) = true
        rw [queue]
        exact decide_eq_true room
      have offered : u.writeSucceeded d r o' = (z.modVol d fun v => { v with staging := [(st.next, List.replicate p.bytes 0#8)] }).place d x :=
        written.trans ((if_pos more).trans (if_pos free))
      have kept : s.OthersKept (u.writeSucceeded d r o') d := P.othersKept ((State.Within.refl u d).writeSucceeded r o').others
      refine ⟨_, { x with arrival := z.arrival }, ran.trans (congrArg Host.Outcome.next offered), granted, idle, cleared, ?_,
        ⟨rfl, rfl, rfl, rfl, rfl, rfl, rfl, arrival.trans P.arrival⟩, rfl, rfl, ?_, offered ▸ kept, lines.trans P.lines, cw.trans ?_⟩
      · rw [State.place_drive]
        exact congrArg (· ++ _) queue
      · rw [State.place_vol, State.vol_modVol_self, vol, P.vol]
      · rw [P.rest]
    · obtain ⟨u, o', now, P, w, ran⟩ := good.succeeds kind
      obtain ⟨z, written, ended, vol, lines, cw, cfg, arrival⟩ := w.stepWritten kind ((congrArg Volume.profile (P.vol d)).trans profile) o'
      obtain ⟨granted, idle, gate, cleared, queue, others⟩ := P.endedTo ended
      have vol : z.vol d = s.vol d := vol.trans (P.vol d)
      have result : prepareResult d (z.vol d) p = toByte d.val :: (encodeLabel i p).take 22 := by
        rw [vol, prepareResult, info]
      let y := z.answer l b (.done clamped false (prepareResult d (z.vol d) p))
      have ends : u.writeSucceeded d r o' = y.beginMount d := by
        refine written.trans ((if_neg (by omega)).trans ?_)
        unfold State.prepareEnd
        rw [show (z.vol d).pendingReq = _ from (congrArg Volume.pendingReq vol).trans pending]
      have free : (y.drive d).volumeFree = true := by
        show decide (((z.drive d).queue.filter fun x => x.origin == .volume).length < 2) = true
        rw [queue]
        exact decide_eq_true room
      have kept : s.OthersKept (u.writeSucceeded d r o') d := P.othersKept ((State.Within.refl u d).writeSucceeded r o').others
      have placed : y.beginMount d = ((y.modVol d fun _ => { freshVolume with state := .mounting }).resetMargins d).place d labelRequest :=
        if_pos free
      have answered : y.hasReply l b (.done clamped false (toByte d.val :: (encodeLabel i p).take 22)) := by
        obtain ⟨buffer, stage, orphan⟩ := held
        rw [← result]
        exact State.hasReply_answer _ ((State.buffer_of_lines (lines.trans P.lines) l b).trans buffer) stage orphan
      refine ⟨_, { labelRequest with arrival := z.arrival }, ran.trans (congrArg Host.Outcome.next ends), ?_, State.beginMount_vol .., fun m => ?_, ?_,
        ⟨rfl, rfl, rfl, rfl, rfl, rfl, rfl, arrival.trans P.arrival⟩, rfl, ?_, ?_, ?_, ends ▸ kept⟩
      · rw [placed]
        exact answered
      · rw [placed]
        show State.margin ((y.modVol d fun _ => { freshVolume with state := .mounting }).resetMargins d) d m = _
        rw [State.resetMargins, State.margin_setMargin, State.margin_setMargin]
        have same : y.cfg = s.cfg := cfg.trans P.cfg
        cases m <;> simp [same]
      · rw [State.beginMount_drive free]
        exact congrArg (· ++ _) queue
      all_goals rw [placed]; assumption
    · obtain ⟨v, shut, awaiting, pulses, wrong⟩ := waits
      have w := v.setOp { o with awaiting := none }
      have look := State.searching_of_plain (r := r) shut pulses wrong (by rw [kind]; rfl) (by rw [kind]; rfl)
      have ran : exec (.dataFieldRead f) s
          = .next ((s.setOp d (some { o with awaiting := none })).opFailed d r .writeCheck) := by
        refine congrArg Host.Outcome.next ((v.dataField awaiting look bad.1).trans ?_)
        rw [State.dataResult_step kind, if_neg (by rw [bad.2]; simp)]
        exact if_pos twice
      obtain ⟨ended, vol, counted, answers⟩ := w.prepareFails (.inr ⟨st, kind⟩) .writeCheck
      exact ⟨_, ran, answers l b h clamped pending held, ((State.Pulsed.refl s d).modChannel _).endedTo ended, vol, counted⟩

end Sys2Proof.Machine
end

section
/-! The supply guard (section 3.8): a write given up for want of supply, alone at the moment when it would come to wait and with
every other one when the long inhibit begins; and the settlement of the statement. -/
namespace Sys2Proof.Machine

/-! ### A write given up (R66) -/

section
variable {s u t : State} {d : DriveId} {r : Request}

theorem Lasting.givenUp {P : State → Prop} (L : Lasting (.failed .powerLow) P) (d : DriveId) (r : Request) (h : P s) :
    P (s.givenUp d r) := by
  unfold State.givenUp
  split
  next j _ =>
    have removed := L.lines (t := s.indexRemoved d j) h rfl
    dsimp only
    split
    · exact L.emptyTrack d _ _ removed
    · exact removed
  · dsimp only
    split
    · exact L.emptyTrack d _ _ (L.prepareFailed d h)
    · exact L.prepareFailed d h
  · exact L.emptyTrack d _ _ (L.prepareFailed d h)
  · exact L.failRequest d r h

theorem State.Aside.givenUp (h : s.Aside t d) (r : Request) : s.Aside (t.givenUp d r) d := by
  unfold State.givenUp
  split
  next j _ =>
    have removed := h.step (u := t.indexRemoved d j) rfl
    dsimp only
    split
    · exact removed.emptyTrack _ _
    · exact removed
  · dsimp only
    split
    · exact (h.prepareFailed _).emptyTrack _ _
    · exact h.prepareFailed _
  · exact (h.prepareFailed _).emptyTrack _ _
  · exact h.failRequest _ r

/-- A desk WRITE given up: it is a write-back waiter no more, and the granule that it held is allocatable. -/
theorem State.givenUp_write {l : Line} {b : BufId} {x : Option WriteBack} (origin : r.origin = .desk l) (kind : r.kind = .write b x) :
    (s.givenUp d r).vol d = { s.vol d with
        heldGranule := if r.state = .queued then (s.vol d).heldGranule else none,
        waiters := (s.vol d).waiters.filter fun w => !(w.line == l && w.buf == b) } := by
  have desk : r.isDeskWrite = true := by simp [Request.isDeskWrite, kind]
  unfold State.givenUp State.failRequest
  simp only [origin, kind]
  have vol : (((s.dropHold d r).dropWaiter d l b).answer l b (.failed .powerLow)).vol d = { s.vol d with
        heldGranule := if r.state = .queued then (s.vol d).heldGranule else none,
        waiters := (s.vol d).waiters.filter fun w => !(w.line == l && w.buf == b) } := by
    show ((s.dropHold d r).dropWaiter d l b).vol d = _
    rw [State.dropWaiter, State.vol_modVol_self, State.dropHold_vol]
    by_cases queued : r.state = .queued <;> simp [desk, queued]
  split
  · rw [State.emptyTrack_vol, vol]
  · exact vol

theorem State.givenUp_index {j : Nat} (kind : r.kind = .indexWrite j) :
    (s.givenUp d r).vol d = (s.vol d).uncovered j ∧ (s.givenUp d r).lines = s.lines := by
  unfold State.givenUp
  simp only [kind]
  split
  · exact ⟨(State.emptyTrack_vol ..).trans (State.indexRemoved_vol ..), by rw [State.emptyTrack_eq]; rfl⟩
  · exact ⟨State.indexRemoved_vol .., rfl⟩

theorem State.givenUp_step (step : r.kind.prepares) : (s.givenUp d r).vol d = (s.vol d).toForeign .incomplete := by
  obtain kind | ⟨st, kind⟩ := step <;> unfold State.givenUp <;> simp only [kind]
  · exact (State.emptyTrack_vol ..).trans (State.prepareFailed_vol ..)
  · split
    · exact (State.emptyTrack_vol ..).trans (State.prepareFailed_vol ..)
    · exact State.prepareFailed_vol ..

/-- The console of a preparation that is given up is answered. -/
theorem State.givenUp_prepare {l : Line} {b : BufId} {h : Held} {clamped : Bool} (step : r.kind.prepares)
    (pending : (s.vol d).pendingReq = some (.prepare l b clamped)) (waits : s.InProgress l b h) :
    (s.givenUp d r).hasReply l b (.failed .powerLow) := by
  have answered := State.prepareFailed_answers .powerLow pending waits
  have K := Lasting.hasReply (.failed .powerLow) l b (.failed .powerLow)
  obtain kind | ⟨st, kind⟩ := step <;> unfold State.givenUp <;> simp only [kind]
  · exact K.emptyTrack d _ _ answered
  · split
    · exact K.emptyTrack d _ _ answered
    · exact answered

/-- The desk of a WRITE that is given up is answered. -/
theorem State.givenUp_answers {l : Line} {b : BufId} {x : Option WriteBack} {h : Held} (origin : r.origin = .desk l)
    (kind : r.kind = .write b x) (waits : s.InProgress l b h) : (s.givenUp d r).hasReply l b (.failed .powerLow) := by
  obtain ⟨held, stage, orphan⟩ := waits
  have K := Lasting.hasReply (.failed .powerLow) l b (.failed .powerLow)
  unfold State.givenUp State.failRequest
  simp only [origin, kind]
  have lines : ((s.dropHold d r).dropWaiter d l b).lines = s.lines := by
    show (s.dropHold d r).lines = _
    unfold State.dropHold
    split <;> rfl
  have answered := State.hasReply_answer (.failed .powerLow) ((State.buffer_of_lines lines l b).trans held) stage orphan
  split
  · exact K.emptyTrack d _ _ answered
  · exact answered

/-- The track that the channel had served for a write given up has no VALID frame left (R104). -/
theorem State.givenUp_frames (write : r.WritesSector ∨ r.kind = .formatTrack) (served : r.granted = true ∨ r.kind = .formatTrack)
    (one : (s.region d).frames.countP (Frame.validFor r.cylinder r.head) ≤ 1) :
    ∀ g ∈ ((s.givenUp d r).region d).frames, g.validFor r.cylinder r.head = false := by
  have empties {t : State} (same : t.regions = s.regions) :
      ∀ g ∈ ((t.emptyTrack d r.cylinder r.head).region d).frames, g.validFor r.cylinder r.head = false :=
    State.emptyTrack_frames (by rw [State.region, same]; exact one)
  have prepare : (s.prepareFailed d .powerLow).regions = s.regions := by
    unfold State.prepareFailed State.failPending
    split <;> rfl
  unfold State.givenUp
  obtain (⟨l, b, x, origin, kind⟩ | ⟨-, ⟨j, kind⟩ | ⟨st, kind⟩⟩) | kind := write
  · have granted : r.granted = true := served.resolve_right (by simp [kind])
    simp only [State.failRequest, origin, kind, granted, if_true]
    refine empties ?_
    show (s.dropHold d r).regions = _
    unfold State.dropHold
    split <;> rfl
  · have granted : r.granted = true := served.resolve_right (by simp [kind])
    simp only [kind, granted, if_true]
    exact empties rfl
  · have granted : r.granted = true := served.resolve_right (by simp [kind])
    simp only [kind, granted, if_true]
    exact empties prepare
  · simp only [kind]
    exact empties prepare

/-! ### The selected write withdrawn (R66) -/

theorem Request.isWrite_of_writes (write : r.WritesSector ∨ r.kind = .formatTrack) : r.kind.isWrite = true := by
  obtain (⟨l, b, x, -, kind⟩ | ⟨-, ⟨j, kind⟩ | ⟨st, kind⟩⟩) | kind := write <;> rw [kind] <;> rfl

theorem State.withdrawSelected_channel (write : r.kind.isWrite = true) (s : State) (d : DriveId) : (s.withdrawSelected d r).channel
    = { s.channel with asking := s.channel.asking.set d.val false d.isLt, ops := s.channel.ops.set d.val none d.isLt } := by
  rw [State.withdrawSelected, (State.givenUp_eq _ d r write).2]
  refine (congrArg (fun c : Channel => (({ s with channel := c } : State).setAsking d false |>.setOp d none).channel)
    (State.leave_channel s d)).trans ?_
  rfl

theorem State.withdrawSelected_drive (selected : (s.drive d).selected = some r) (write : r.kind.isWrite = true) :
    (s.withdrawSelected d r).drive d = { s.drive d with queue := s.left d } := by
  rw [State.drive, State.withdrawSelected, (State.givenUp_eq _ d r write).1]
  show (s.leave d).drive d = _
  rw [State.leave, selected]
  exact (State.dropHold_drive ..).trans (State.drive_modDrive_self ..)

theorem State.withdrawSelected_powerLow (selected : (s.drive d).selected = some r) (write : r.WritesSector ∨ r.kind = .formatTrack) :
    s.PowerLow (s.withdrawSelected d r) d r := by
  have isWrite := Request.isWrite_of_writes write
  have waits : r.state ≠ .queued := by
    unfold DriveSeq.selected at selected
    simpa using List.find?_some selected
  let w := ((s.leave d).setAsking d false).setOp d none
  have left : s.leave d = (s.dropSelected d).dropHold d r := by rw [State.leave, selected]
  have lines : w.lines = s.lines := by
    show (s.leave d).lines = _
    rw [left, State.dropHold]
    split <;> rfl
  have regions : w.regions = s.regions := by
    show (s.leave d).regions = _
    rw [left, State.dropHold]
    split <;> rfl
  have vol : w.vol d = if r.isDeskWrite then { s.vol d with heldGranule := none } else s.vol d := by
    show (s.leave d).vol d = _
    rw [left, State.dropHold_vol]
    simp only [waits, ne_eq, not_false_eq_true, and_true]
    rfl
  have inProgress {l : Line} {b : BufId} {h : Held} : s.InProgress l b h → w.InProgress l b h := fun ⟨held, rest⟩ =>
    ⟨(State.buffer_of_lines lines l b).trans held, rest⟩
  have gone := State.withdrawSelected_gone selected isWrite
  refine ⟨⟨gone.2.1, gone.2.2, ((State.Within.refl s d).withdrawSelected r).others⟩, fun l b x origin kind => ⟨?_, fun h waits => ?_⟩,
    fun j kind => ?_, fun step => ⟨?_, fun l b h clamped pending waits => ?_⟩, fun served one => ?_, by simp⟩
  · refine (State.givenUp_write (s := w) origin kind).trans ?_
    rw [vol, if_pos (by simp [Request.isDeskWrite, kind]), if_neg waits]
  · exact State.givenUp_answers (s := w) origin kind (inProgress waits)
  · obtain ⟨v, l⟩ := State.givenUp_index (s := w) (d := d) kind
    rw [vol, if_neg (by simp [Request.isDeskWrite, kind])] at v
    exact ⟨l.trans lines, v⟩
  · refine (State.givenUp_step (s := w) step).trans ?_
    rw [vol, if_neg (by simp [ReqKind.prepares.notDesk step])]
    rfl
  · refine State.givenUp_prepare (s := w) step (clamped := clamped) ?_ (inProgress waits)
    rw [vol, if_neg (by simp [ReqKind.prepares.notDesk step])]
    exact pending
  · exact State.givenUp_frames (s := w) write served (by rw [State.region, regions]; exact one)

/-- What came before on the drive and in the channel does not matter to that. -/
theorem State.PowerLow.of_later {q : ReqState} (k : u.PowerLow t d { r with state := q })
    (only : u = { s with drives := u.drives, channel := u.channel }) (others : ∀ e, e ≠ d → u.drive e = s.drive e) : s.PowerLow t d r := by
  obtain ⟨⟨op, asks, odrives, oregions, ovols⟩, desk, index, prepare, frames, memory⟩ := k
  have lines : u.lines = s.lines := by rw [only]
  have vol (e : DriveId) : u.vol e = s.vol e := by rw [only]; rfl
  have region (e : DriveId) : u.region e = s.region e := by rw [only]; rfl
  have inProgress {l : Line} {b : BufId} {h : Held} : s.InProgress l b h → u.InProgress l b h := fun ⟨held, rest⟩ =>
    ⟨(State.buffer_of_lines lines l b).trans held, rest⟩
  rw [vol] at desk index prepare
  rw [region] at frames
  refine ⟨⟨op, asks, fun e ne => (odrives e ne).trans (others e ne), fun e ne => (oregions e ne).trans (region e),
      fun e ne => (ovols e ne).trans (vol e)⟩,
    fun l b x origin kind => (desk l b x origin kind).imp id fun has h waits => has h (inProgress waits),
    fun j kind => (index j kind).imp (fun same => same.trans lines) id,
    fun step => (prepare step).imp id fun has l b h clamped pending waits => has l b h clamped pending (inProgress waits),
    frames, memory.trans (by rw [only])⟩

end

/-! ### The moments at which a write would come to wait (R65, R66) -/

section
variable {s u : State} {d : DriveId} {r : Request} {o : OpRecord}

/-- A suspension during the long inhibit. -/
theorem State.Pulsed.withdrawn (P : s.Pulsed u d) (v : u.Serving d r o) (long : u.channel.longInhibit = true)
    (write : r.WritesSector ∨ r.kind = .formatTrack) : s.PowerLow (u.suspend d r) d r ∧ s.EndedTo (u.suspend d r) d := by
  have isWrite := Request.isWrite_of_writes write
  let w := u.endGrant d
  have suspends : u.suspend d r = w.withdrawSelected d r := if_pos long
  have drive : w.drive d = { u.drive d with pos := { (u.drive d).pos with unload := 0 } } :=
    State.drive_modPos_self (u.modChannel _) d fun p => { p with unload := 0 }
  have selected : (w.drive d).selected = some r := by
    rw [drive]
    exact v.selected
  have others := (((State.Within.refl u d).endGrant).withdrawSelected r).others
  have low := State.withdrawSelected_powerLow selected write
  have channel := State.withdrawSelected_channel isWrite w d
  rw [suspends]
  refine ⟨State.PowerLow.of_later (q := r.state) low (P.whole rfl) fun e ne => (State.drive_modDrive_ne _ ne.symm _).trans (P.others e ne),
    P.endedTo ⟨?_, ?_, ?_, low.gone.1, ?_, others⟩⟩
  · rw [channel]
    rfl
  · rw [channel]
    rfl
  · rw [channel]
    rfl
  · rw [State.withdrawSelected_drive selected isWrite]
    show w.left d = _
    rw [State.left, drive]
    rfl

theorem Request.WritesSector.seeksOne (write : r.WritesSector) : r.kind.isSectorWrite = true ∧ r.kind.seeksOne = true
    ∧ r.kind.isSingleRead = false := by
  obtain ⟨l, b, x, -, kind⟩ | ⟨-, ⟨j, kind⟩ | ⟨st, kind⟩⟩ := write <;> rw [kind] <;> exact ⟨rfl, rfl, rfl⟩

/-- A data field that a write's check finds bad or missing. -/
theorem State.dataResult_unwritten (write : r.WritesSector) (k : Nat) : s.dataResult ⟨d, r, o⟩ k none
    = (s.setOp d (some { o with awaiting := none })).checkFailed d r { o with awaiting := none } := by
  obtain ⟨l, b, x, -, kind⟩ | ⟨-, ⟨j, kind⟩ | ⟨st, kind⟩⟩ := write <;> simp only [State.dataResult, kind]

theorem State.checkFailed_waits (few : o.writes < 2) (inhibit : s.channel.inhibit = true) : s.checkFailed d r o = s.suspend d r :=
  (if_neg (Nat.not_le.mpr few)).trans (if_pos inhibit)

/-- After a suspension the channel serves nothing. -/
theorem State.EndedTo.service (h : s.EndedTo u d) : u.service = none := by
  simp [State.service, h.1]

/-- Under INHIBIT a failed check with one write made suspends the write (R57, R65), with the long inhibit for good. -/
theorem State.CheckFails.withdraws {i : Instr} (fails : s.CheckFails d r o i) (inhibit : s.channel.inhibit = true)
    (few : o.writes < 2) (write : r.WritesSector) (long : s.channel.longInhibit = true) :
    ∃ t, exec i s = .next t ∧ s.PowerLow t d r ∧ s.EndedTo t d := by
  have ends {u : State} {x : OpRecord} (P : s.Pulsed u d) (v : u.Serving d r x) (same : u.channel.longInhibit = true) :=
    P.withdrawn v same (.inl write)
  have missing {x : OpRecord} (v : s.Serving d r x) : s.Pulsed (s.setOp d (some { x with awaiting := none })) d
      ∧ (s.setOp d (some { x with awaiting := none })).Serving d r { x with awaiting := none } :=
    ⟨(State.Pulsed.refl s d).modChannel _, v.setOp _⟩
  have plain := ReqKind.seeksOne_plain write.seeksOne.2.1
  obtain ⟨k, waits, check, which⟩ | ⟨again, ⟨v, shut, pulses, rfl⟩ | ⟨c, f, seeks, one, accepted, fits, away, rfl⟩⟩ := fails
  · obtain ⟨v, shut, awaiting, pulses, wrong⟩ := waits
    have look := State.searching_of_plain (r := r) shut pulses wrong plain.1 plain.2.1
    have failed : s.dataResult ⟨d, r, o⟩ k none = (s.setOp d (some { o with awaiting := none })).suspend d r :=
      (State.dataResult_unwritten write k).trans (State.checkFailed_waits few inhibit)
    obtain ⟨P, w⟩ := missing v
    refine ⟨_, ?_, ends P w long⟩
    obtain ⟨f, rfl, sync, bad⟩ | rfl := which
    · refine congrArg Host.Outcome.next ((v.dataField awaiting look sync).trans (Eq.trans ?_ failed))
      rw [if_neg (by simp [bad])]
    · exact congrArg Host.Outcome.next ((v.dataMissing awaiting look).trans failed)
  · cases awaiting : o.awaiting with
    | some k =>
      obtain ⟨P, w⟩ := missing v
      have done := ends P w long
      have cut : s.cutShort = (s.setOp d (some { o with awaiting := none })).suspend d r := by
        unfold State.cutShort
        rw [v.service]
        dsimp only
        rw [awaiting]
        exact (if_pos pulses).trans ((State.dataResult_unwritten write k).trans (State.checkFailed_waits few inhibit))
      refine ⟨_, congrArg Host.Outcome.next (Eq.trans ?_ cut), done⟩
      unfold State.attemptEnd
      rw [cut]
      dsimp only
      rw [done.2.service]
    | none =>
      have uncut : s.cutShort = s := by
        unfold State.cutShort
        rw [v.service]
        dsimp only
        rw [awaiting]
      refine ⟨_, congrArg Host.Outcome.next ?_, ends (State.Pulsed.refl s d) v long⟩
      unfold State.attemptEnd
      rw [uncut]
      dsimp only
      rw [v.service]
      refine (if_pos ⟨pulses, by rw [shut]; rfl⟩).trans ((if_neg fun h => ?_).trans ((if_pos ⟨write.seeksOne.1, again⟩).trans
        (State.checkFailed_waits few inhibit)))
      simp [plain.2.2] at h
  · have strayed := seeks.idMark_stray (seeks.look write.seeksOne.2.1) one accepted fits away
    let x : OpRecord := { o with wrong := 2 }
    let w := (s.setOp d (some x)).modChannel fun c => { c with seekFaults := bump c.seekFaults }
    have faulted : (s.setOp d (some x)).seekFault d r x = w.suspend d r := by
      unfold State.seekFault
      simp only [plain.1, plain.2.1, Bool.false_eq_true, if_false]
      exact (if_pos again).trans (State.checkFailed_waits few inhibit)
    have P : s.Pulsed w d := ((State.Pulsed.refl s d).modChannel _).modChannel _
    have v : w.Serving d r x := (seeks.toServing.setOp x).modChannel rfl rfl
    exact ⟨_, congrArg Host.Outcome.next (strayed.trans faulted), ends P v long⟩

/-- The gate of a write of one sector, come to its moment under INHIBIT. -/
theorem State.Seeking.gateWaits {c k : Nat} {f : IdField} (v : s.Seeking d r o c) (search : s.channel.state = .search)
    (inhibit : s.channel.inhibit = true) (bare : (s.drive d).levels.writeProtect = false) (drain : s.part.drainOver = false)
    (write : r.WritesSector) (sought : r.sectorId = some k) (fresh : o.acted = false) (n : r.NamedBy f c k) :
    ∃ x, exec (.idFieldAccepted f) s = .next ((s.setOp d (some x)).suspend d r) := by
  have one := write.seeksOne
  have gate (x : OpRecord) : (s.setOp d (some x)).sectorGate d r x = (s.setOp d (some x)).suspend d r := by
    have check : (s.setOp d (some x)).gateCheck d = .inhibited := by
      have same : (s.setOp d (some x)).channel.inhibit = true := inhibit
      simp [State.gateCheck, drain, bare, same]
    rw [State.sectorGate, check]
  have acts : ∃ x, (s.setOp d (some { o with wrong := 0 })).soughtId d r { o with wrong := 0 } k = (s.setOp d (some x)).suspend d r := by
    unfold State.soughtId
    rw [show (s.setOp d (some { o with wrong := 0 })).channel.state = .search from search]
    simp only [one.2.2, Bool.false_eq_true, if_false, State.setOp_setOp]
    exact ⟨_, gate _⟩
  obtain ⟨x, acts⟩ := acts
  exact ⟨x, congrArg Host.Outcome.next ((v.idMark_sought one.2.1 n sought fresh).trans acts)⟩

/-- Arriving ON-TRACK with a write during the long inhibit (R30, R66). -/
theorem State.arrive_withdraws {f : Positioner → Positioner} (selected : (s.drive d).selected = some r)
    (long : s.channel.longInhibit = true) (write : r.WritesSector ∨ r.kind = .formatTrack) :
    s.PowerLow ((s.modPos d f).arrive d) d r ∧ (((s.modPos d f).arrive d).drive d).queue = s.left d
      ∧ (((s.modPos d f).arrive d).drive d).pos.state = .onTrack ∧ ((s.modPos d f).arrive d).channel.granted = s.channel.granted
      ∧ ((s.modPos d f).arrive d).channel.gate = s.channel.gate := by
  have isWrite := Request.isWrite_of_writes write
  let g : Positioner → Positioner := fun p => { f p with state := .onTrack, target := none }
  have drive : (s.modPos d g).drive d = { s.drive d with pos := g (s.drive d).pos } := State.drive_modPos_self ..
  have selected' : ((s.modPos d g).drive d).selected = some r := by
    rw [drive]
    exact selected
  have arrives : (s.modPos d f).arrive d = (s.modPos d g).withdrawSelected d r := by
    rw [State.arrive, State.modPos_modPos]
    unfold State.ask
    rw [show ((s.modPos d fun p => { f p with state := .onTrack, target := none }).drive d).selected = some r from selected']
    have same : (s.modPos d g).channel.longInhibit = true := long
    exact if_pos (by rw [same, isWrite]; rfl)
  have channel := State.withdrawSelected_channel isWrite (s.modPos d g) d
  rw [arrives, State.withdrawSelected_drive selected' isWrite, channel]
  refine ⟨State.PowerLow.of_later (q := r.state) (State.withdrawSelected_powerLow selected' write) rfl
    fun e ne => State.drive_modDrive_ne _ ne.symm _, ?_, ?_, rfl, rfl⟩
  · show (s.modPos d g).left d = _
    rw [State.left, drive]
    rfl
  · show ((s.modPos d g).drive d).pos.state = _
    rw [drive]

/-- What is left of a queue when the request that a selection takes leaves it. -/
theorem selectAt_left {limit k : Nat} {q : List Request} {r : Request} (idle : ∀ x ∈ q, x.state = .queued) (here : q[k]? = some r) :
    (selectAt limit k q).filter (fun x => x.state == .queued)
      = (q.take k).map (fun x => if x.passed < limit then { x with passed := x.passed + 1 } else x) ++ q.drop (k + 1) := by
  induction q generalizing k with
  | nil => cases here
  | cons x rest ih =>
    have rest_idle : ∀ y ∈ rest, y.state = .queued := fun y mem => idle y (List.mem_cons_of_mem _ mem)
    have all : rest.filter (fun x => x.state == .queued) = rest := List.filter_eq_self.mpr fun y mem => by simp [rest_idle y mem]
    cases k with
    | zero => simpa [selectAt] using all
    | succ k =>
      have own := idle x (List.mem_cons_self ..)
      have later := ih rest_idle (by simpa using here)
      by_cases few : x.passed < limit <;> simp [selectAt, own, few, later]

end

/-- A selection of a write during the long inhibit, with the head ON-TRACK at its cylinder (R66). -/
theorem State.Chosen.withdrawn {s : State} {d : DriveId} {r : Request} {us k : Nat} (chosen : s.Chosen d us r.cylinder k r)
    (long : s.channel.longInhibit = true) (write : r.WritesSector ∨ r.kind = .formatTrack) (may : (s.drive d).maySelect = true)
    (track : (s.drive d).pos.state = .onTrack) (at_c : (s.drive d).pos.cylinder = some r.cylinder) :
    ∃ t, exec (.selection d us) s = .next t ∧ s.PowerLow t d r
      ∧ (t.drive d).queue = ((s.drive d).queue.take k).map (fun x =>
          if x.passed < s.cfg.bypass then { x with passed := x.passed + 1 } else x) ++ (s.drive d).queue.drop (k + 1)
      ∧ (t.drive d).pos = { (s.drive d).pos with unload := 0 } := by
  have idle : (s.drive d).selected.isNone = true := by
    simp only [DriveSeq.maySelect, Bool.and_eq_true] at may
    exact may.1.1
  have queued : ∀ x ∈ (s.drive d).queue, x.state = .queued := by simpa [DriveSeq.selected] using idle
  have here : (s.drive d).queue[k]? = some r := by
    obtain ⟨⟨⟨here, _⟩, _⟩, _⟩ | ⟨_, ⟨⟨here, _⟩, _⟩, _⟩ | ⟨_, _, ⟨here, _⟩, _⟩ := chosen <;> exact here
  obtain ⟨e, choice, rfl⟩ := choose_index chosen
  have choice : s.choice d us = some e := by
    simp only [State.choice, at_c]
    exact choice
  let u := s.modDrive d fun u => u.took s.cfg.bypass e
  have drive : u.drive d = (s.drive d).took s.cfg.bypass e := State.drive_modDrive_self ..
  have selected : (u.drive d).selected = some { r with state := .selected } := by
    rw [drive]
    exact selected_selectAt queued here
  have isWrite := Request.isWrite_of_writes write
  have run : exec (.selection d us) s = .next (u.withdrawSelected d { r with state := .selected }) := by
    have moves : u.beginMove d = u.ask d := by
      unfold State.beginMove
      dsimp only
      rw [selected, drive]
      dsimp only [DriveSeq.took]
      rw [at_c]
      exact if_pos ⟨track, rfl⟩
    have asks : u.ask d = u.withdrawSelected d { r with state := .selected } := by
      unfold State.ask
      rw [selected]
      exact if_pos (by rw [show u.channel.longInhibit = true from long]; exact isWrite)
    simp only [exec, execSelection, State.select, may, if_true, choice]
    exact congrArg Host.Outcome.next (moves.trans asks)
  have low := State.withdrawSelected_powerLow (s := u) selected write
  refine ⟨_, run, State.PowerLow.of_later low rfl fun x ne => State.drive_modDrive_ne _ ne.symm _, ?_, ?_⟩
  · rw [State.withdrawSelected_drive selected isWrite]
    show u.left d = _
    rw [State.left, drive]
    exact selectAt_left queued here
  · rw [State.withdrawSelected_drive selected isWrite]
    show (u.drive d).pos = _
    rw [drive]
    rfl

/-! ### The long inhibit begins (R66) -/

/-- What the beginning of the long inhibit does to one drive. -/
def State.givesUp (s : State) (d : DriveId) : State := (s.giveUpSelected d).giveUpQueued d

/-- A write that no positioner has begun on. -/
def Request.waitingWrite (r : Request) : Bool := r.kind.isWrite && r.state == .queued

theorem Request.waitingWrite_iff (r : Request) : r.waitingWrite = true ↔ r.kind.isWrite = true ∧ r.state = .queued := by
  simp [Request.waitingWrite]

section
variable {s u t : State} {d : DriveId} {r : Request}

theorem State.giveUpQueued_drive (s : State) (d : DriveId) : (s.giveUpQueued d).channel = s.channel
    ∧ (s.giveUpQueued d).drive d = { s.drive d with queue := (s.drive d).queue.filter fun r => !r.waitingWrite } := by
  have start := State.drive_modDrive_self s d fun u => { u with queue := u.queue.filter fun r => !r.waitingWrite }
  refine State.foldl_keeps_mem (P := fun t => t.channel = s.channel
    ∧ t.drive d = { s.drive d with queue := (s.drive d).queue.filter fun r => !r.waitingWrite }) (fun t r mem k => ?_) ⟨rfl, start⟩
  obtain ⟨-, waiting⟩ := List.mem_filter.mp mem
  obtain ⟨drives, channel⟩ := t.givenUp_eq d r (r.waitingWrite_iff.mp waiting).1
  exact ⟨channel.trans k.1, (congrArg (fun x : Vector DriveSeq 4 => x.get d) drives).trans k.2⟩

/-- With no selected write waiting the drive gives up its QUEUED writes alone. -/
theorem State.givesUp_idle (none : ∀ r, (s.drive d).selected = some r → s.writeWaits d r = false) :
    s.givesUp d = s.giveUpQueued d := by
  unfold State.givesUp State.giveUpSelected
  cases selected : (s.drive d).selected with
  | none => rfl
  | some r =>
    dsimp only
    rw [none r selected]
    rfl

theorem State.givesUp_waits (selected : (s.drive d).selected = some r) (waits : s.writeWaits d r = true) :
    s.givesUp d = (s.withdrawSelected d r).giveUpQueued d := by
  unfold State.givesUp State.giveUpSelected
  rw [selected]
  dsimp only
  rw [if_pos waits]

theorem State.HeldBack.waits (held : s.HeldBack d r) (inhibit : s.channel.inhibit = true) (begun : r.state ≠ .queued) :
    (s.drive d).selected = some r ∧ s.writeWaits d r = true := by
  obtain ⟨-, write, queued | ⟨selected, asks⟩⟩ := held
  · exact absurd queued begun
  · exact ⟨selected, by simp [State.writeWaits, asks, inhibit, write]⟩

/-! ### What the requests given up leave, and what they make -/

theorem DriveSeq.selected_mem {x : DriveSeq} {r : Request} (selected : x.selected = some r) : r ∈ x.queue :=
  List.mem_of_find?_eq_some selected

/-- A fact about the lines and the volume of drive `d` that giving up any write of the list `q` leaves. -/
structure State.GivingUp (d : DriveId) (q : List Request) (P : State → Prop) : Prop where
  same : ∀ {s t : State}, P s → t.lines = s.lines → (t.vol d = s.vol d ∨ t.vol d = { s.vol d with heldGranule := none }) → P t
  step : ∀ {s : State} {r : Request}, r ∈ q → r.kind.isWrite = true → P s → P (s.givenUp d r)

section
variable {P Q : State → Prop} {q : List Request} (J : State.GivingUp d q P) (K : State.GivingUp d q Q)
include J

theorem State.GivingUp.queued (mem : ∀ r ∈ (s.drive d).queue, r ∈ q) (start : P s) : P (s.giveUpQueued d) :=
  State.foldl_keeps_mem (P := P) (fun _ r here k => by
    obtain ⟨there, waiting⟩ := List.mem_filter.mp here
    exact J.step (mem r there) (r.waitingWrite_iff.mp waiting).1 k) (J.same start rfl (.inl rfl))

theorem State.GivingUp.leave (start : P s) : P (((s.leave d).setAsking d false).setOp d none) := by
  refine J.same start ?_ ?_
  · show (s.leave d).lines = _
    unfold State.leave State.dropHold
    split
    · split <;> rfl
    · rfl
  · show (s.leave d).vol d = _ ∨ (s.leave d).vol d = _
    unfold State.leave
    split
    · rw [State.dropHold_vol]
      split
      · exact .inr rfl
      · exact .inl rfl
    · exact .inl rfl

theorem State.GivingUp.selected (waits : s.writeWaits d r = true) (mem : r ∈ q) (start : P s) :
    P (s.withdrawSelected d r) := by
  simp only [State.writeWaits, Bool.and_eq_true] at waits
  exact J.step mem waits.2 (J.leave start)

theorem State.GivingUp.keeps (mem : ∀ r ∈ (s.drive d).queue, r ∈ q) (start : P s) : P (s.givesUp d) := by
  by_cases waits : ∃ r, (s.drive d).selected = some r ∧ s.writeWaits d r = true
  · obtain ⟨r, selected, waits⟩ := waits
    rw [State.givesUp_waits selected waits]
    have write : r.kind.isWrite = true := by
      simp only [State.writeWaits, Bool.and_eq_true] at waits
      exact waits.2
    refine J.queued (fun x here => mem x ?_) (J.selected waits (mem r (DriveSeq.selected_mem selected)) start)
    rw [State.withdrawSelected_drive selected write] at here
    exact (List.mem_filter.mp here).1
  · rw [State.givesUp_idle fun r selected => Bool.eq_false_iff.mpr fun w => waits ⟨r, selected, w⟩]
    exact J.queued mem start

include K

/-- A write that the long inhibit gives up makes what it makes. -/
theorem State.GivingUp.reaches (mem : ∀ r ∈ (s.drive d).queue, r ∈ q) (inhibit : s.channel.inhibit = true) (held : s.HeldBack d r)
    (makes : ∀ t, P t → Q (t.givenUp d r)) (start : P s) : Q (s.givesUp d) := by
  have queued {t : State} (sub : ∀ r ∈ (t.drive d).queue, r ∈ q) (here : r ∈ (t.drive d).queue) (state : r.state = .queued)
      (write : r.kind.isWrite = true) (start : P t) : Q (t.giveUpQueued d) := by
    refine State.foldl_reaches_mem (P := P) (Q := Q) (fun _ x here k => ?_) (fun _ x here k => ?_)
      (List.mem_filter.mpr ⟨here, r.waitingWrite_iff.mpr ⟨write, state⟩⟩) makes (J.same start rfl (.inl rfl))
    · obtain ⟨there, waiting⟩ := List.mem_filter.mp here
      exact J.step (sub x there) (x.waitingWrite_iff.mp waiting).1 k
    · obtain ⟨there, waiting⟩ := List.mem_filter.mp here
      exact K.step (sub x there) (x.waitingWrite_iff.mp waiting).1 k
  have later {x : Request} (selected : (s.drive d).selected = some x) (waits : s.writeWaits d x = true) (y : Request)
      (here : y ∈ ((s.withdrawSelected d x).drive d).queue) : y ∈ q := by
    simp only [State.writeWaits, Bool.and_eq_true] at waits
    rw [State.withdrawSelected_drive selected waits.2] at here
    exact mem y (List.mem_filter.mp here).1
  by_cases begun : r.state = .queued
  · by_cases waits : ∃ x, (s.drive d).selected = some x ∧ s.writeWaits d x = true
    · obtain ⟨x, selected, waits⟩ := waits
      have write : x.kind.isWrite = true := by
        simp only [State.writeWaits, Bool.and_eq_true] at waits
        exact waits.2
      rw [State.givesUp_waits selected waits]
      refine queued (later selected waits) ?_ begun held.2.1 (J.selected waits (mem x (DriveSeq.selected_mem selected)) start)
      rw [State.withdrawSelected_drive selected write]
      exact List.mem_filter.mpr ⟨held.1, by simp [begun]⟩
    · rw [State.givesUp_idle fun x selected => Bool.eq_false_iff.mpr fun w => waits ⟨x, selected, w⟩]
      exact queued mem held.1 begun held.2.1 start
  · obtain ⟨selected, waits⟩ := held.waits inhibit begun
    rw [State.givesUp_waits selected waits]
    exact K.queued (later selected waits) (makes _ (J.leave start))

end

/-! ### The queue and the channel after it -/

/-- Whether the selected request of a drive waits, to be given up. -/
def State.selectedWaits (s : State) (d : DriveId) : Prop := ∃ r, (s.drive d).selected = some r ∧ s.writeWaits d r = true

/-- What the drive and the channel keep of the writes given up. -/
theorem State.givesUp_drive (s : State) (d : DriveId) :
    (s.selectedWaits d → (s.givesUp d).drive d = { s.drive d with queue := (s.left d).filter fun r => !r.waitingWrite }
        ∧ (s.givesUp d).channel
          = { s.channel with asking := s.channel.asking.set d.val false d.isLt, ops := s.channel.ops.set d.val none d.isLt })
      ∧ (¬ s.selectedWaits d → (s.givesUp d).drive d = { s.drive d with queue := (s.drive d).queue.filter fun r => !r.waitingWrite }
        ∧ (s.givesUp d).channel = s.channel) := by
  refine ⟨fun ⟨r, selected, waits⟩ => ?_, fun none => ?_⟩
  · have write : r.kind.isWrite = true := by
      simp only [State.writeWaits, Bool.and_eq_true] at waits
      exact waits.2
    obtain ⟨channel, drive⟩ := (s.withdrawSelected d r).giveUpQueued_drive d
    rw [State.withdrawSelected_drive selected write] at drive
    rw [State.givesUp_waits selected waits]
    exact ⟨drive, channel.trans (State.withdrawSelected_channel write s d)⟩
  · obtain ⟨channel, drive⟩ := s.giveUpQueued_drive d
    rw [State.givesUp_idle fun r selected => Bool.eq_false_iff.mpr fun w => none ⟨r, selected, w⟩]
    exact ⟨drive, channel⟩

theorem State.HeldBack.gone (held : s.HeldBack d r) (inhibit : s.channel.inhibit = true) : r ∉ ((s.givesUp d).drive d).queue := by
  intro here
  have waiting : r.state = .queued → r.waitingWrite = true := fun queued => r.waitingWrite_iff.mpr ⟨held.2.1, queued⟩
  by_cases waits : s.selectedWaits d
  · rw [((s.givesUp_drive d).1 waits).1] at here
    obtain ⟨left, kept⟩ := List.mem_filter.mp here
    have queued : r.state = .queued := by simpa using (List.mem_filter.mp left).2
    simp [waiting queued] at kept
  · rw [((s.givesUp_drive d).2 waits).1] at here
    obtain ⟨-, kept⟩ := List.mem_filter.mp here
    by_cases begun : r.state = .queued
    · simp [waiting begun] at kept
    · exact waits ⟨r, held.waits inhibit begun⟩

/-- What is left of the queue was in it and is no QUEUED write. -/
theorem State.givesUp_left (here : r ∈ ((s.givesUp d).drive d).queue) : r ∈ (s.drive d).queue ∧ r.waitingWrite = false := by
  by_cases waits : s.selectedWaits d
  · rw [((s.givesUp_drive d).1 waits).1] at here
    obtain ⟨left, kept⟩ := List.mem_filter.mp here
    exact ⟨(List.mem_filter.mp left).1, by simpa using kept⟩
  · rw [((s.givesUp_drive d).2 waits).1] at here
    obtain ⟨there, kept⟩ := List.mem_filter.mp here
    exact ⟨there, by simpa using kept⟩

/-- No read leaves it that is QUEUED or the one selected. -/
theorem State.givesUp_reads (here : r ∈ (s.drive d).queue) (read : r.kind.isWrite = false)
    (which : r.state = .queued ∨ (s.drive d).selected = some r) : r ∈ ((s.givesUp d).drive d).queue := by
  have kept : (!r.waitingWrite) = true := by simp [Request.waitingWrite, read]
  by_cases waits : s.selectedWaits d
  · rw [((s.givesUp_drive d).1 waits).1]
    obtain queued | selected := which
    · exact List.mem_filter.mpr ⟨List.mem_filter.mpr ⟨here, by simp [queued]⟩, kept⟩
    · obtain ⟨x, other, waits⟩ := waits
      obtain rfl := Option.some.inj (selected.symm.trans other)
      simp [State.writeWaits, read] at waits
  · rw [((s.givesUp_drive d).2 waits).1]
    exact List.mem_filter.mpr ⟨here, kept⟩

theorem State.givesUp_selected (idle : ¬ s.selectedWaits d) : ((s.givesUp d).drive d).selected = (s.drive d).selected := by
  rw [((s.givesUp_drive d).2 idle).1, DriveSeq.selected, DriveSeq.selected, List.find?_filter]
  congr 1
  funext r
  cases state : r.state <;> simp [Request.waitingWrite, state]

/-! ### The volume after it -/

/-- What giving up one write does to its volume. -/
theorem State.givenUp_vol (write : r.kind.isWrite = true) :
    r.kind.prepares ∧ (s.givenUp d r).vol d = (s.vol d).toForeign .incomplete
      ∨ (∃ j, r.kind = .indexWrite j ∧ (s.givenUp d r).vol d = (s.vol d).uncovered j)
      ∨ (∃ l b x, r.origin = .desk l ∧ r.kind = .write b x ∧ (s.givenUp d r).vol d = { s.vol d with
          heldGranule := if r.state = .queued then (s.vol d).heldGranule else none,
          waiters := (s.vol d).waiters.filter fun w => !(w.line == l && w.buf == b) })
      ∨ (s.givenUp d r).vol d = s.vol d := by
  cases kind : r.kind <;> simp only [kind, ReqKind.isWrite, Bool.false_eq_true] at write
  case write b x =>
    cases origin : r.origin with
    | volume =>
      refine .inr (.inr (.inr ?_))
      simp only [State.givenUp, State.failRequest, kind, origin]
    | desk l => exact .inr (.inr (.inl ⟨l, b, x, rfl, rfl, State.givenUp_write origin kind⟩))
  case indexWrite j => exact .inr (.inl ⟨j, rfl, (State.givenUp_index kind).1⟩)
  case prepWrite st => exact .inl ⟨.inr ⟨st, rfl⟩, State.givenUp_step (.inr ⟨st, kind⟩)⟩
  case formatTrack => exact .inl ⟨.inl rfl, State.givenUp_step (.inl kind)⟩

/-! ### What stands while writes are given up -/

section
variable {q : List Request} {l : Line} {b : BufId} {h : Held} {clamped : Bool}

theorem Lasting.givingUp {P : State → Prop} (L : Lasting (.failed .powerLow) P) (d : DriveId) (q : List Request) : State.GivingUp d q P where
  same k lines _ := L.lines k lines
  step _ _ k := L.givenUp d _ k

/-- The volume of a preparation that has ended without success (R126). -/
structure Volume.Abandoned (v : Volume) : Prop where
  state   : v.state = .foreign
  foreign : v.foreign = some .incomplete
  profile : v.profile = none
  pending : v.pendingReq = none
  label   : v.labelArea = []
  staging : v.staging = []

theorem Volume.Abandoned.congr {v w : Volume} (k : v.Abandoned) (same : w = { v with
    sectors := w.sectors, waiters := w.waiters, heldGranule := w.heldGranule }) : w.Abandoned := by
  obtain ⟨state, foreign, profile, pending, label, staging⟩ := k
  rw [same]
  exact ⟨state, foreign, profile, pending, label, staging⟩

/-- A write given up that is no step of a preparation leaves its volume but for index sectors, waiters and the granule held. -/
theorem State.givenUp_vol_rest (write : r.kind.isWrite = true) (other : ¬ r.kind.prepares) : (s.givenUp d r).vol d = { s.vol d with
    sectors := ((s.givenUp d r).vol d).sectors, waiters := ((s.givenUp d r).vol d).waiters,
    heldGranule := ((s.givenUp d r).vol d).heldGranule } := by
  obtain ⟨step, -⟩ | ⟨j, -, vol⟩ | ⟨l, b, x, -, -, vol⟩ | vol := State.givenUp_vol (s := s) (d := d) write
  · exact absurd step other
  all_goals rw [vol]
  rfl

/-- A preparation to be given up, or given up and answered. -/
def State.Abandoning (s : State) (d : DriveId) (l : Line) (b : BufId) (h : Held) (clamped : Bool) : Prop :=
  s.Settling l b h (.failed .powerLow) ∧ (s.vol d).pendingReq = some (.prepare l b clamped)
    ∨ s.hasReply l b (.failed .powerLow) ∧ (s.vol d).Abandoned

theorem State.givingUp_abandoned (d : DriveId) (q : List Request) (l : Line) (b : BufId) :
    State.GivingUp d q fun s => s.hasReply l b (.failed .powerLow) ∧ (s.vol d).Abandoned where
  same k lines vol := ⟨(Lasting.hasReply (.failed .powerLow) l b _).lines k.1 lines, by
    obtain vol | vol := vol <;> exact k.2.congr (by rw [vol])⟩
  step {s r} _ write k := ⟨(Lasting.hasReply _ l b _).givenUp d r k.1, by
    by_cases step : r.kind.prepares
    · rw [State.givenUp_step step]
      exact ⟨rfl, rfl, rfl, rfl, rfl, rfl⟩
    · exact k.2.congr (State.givenUp_vol_rest write step)⟩

/-- A step of the preparation given up ends it. -/
theorem State.Abandoning.ends (k : s.Abandoning d l b h clamped) (write : r.kind.isWrite = true) (step : r.kind.prepares) :
    (s.givenUp d r).hasReply l b (.failed .powerLow) ∧ ((s.givenUp d r).vol d).Abandoned := by
  obtain ⟨waits, pending⟩ | done := k
  · refine ⟨?_, by rw [State.givenUp_step step]; exact ⟨rfl, rfl, rfl, rfl, rfl, rfl⟩⟩
    obtain ⟨held, stage, orphan, -⟩ | has := waits
    · exact State.givenUp_prepare step pending ⟨held, stage, orphan⟩
    · exact (Lasting.hasReply _ l b _).givenUp d r has
  · exact (State.givingUp_abandoned d [r] l b).step (List.mem_singleton.mpr rfl) write done

theorem State.givingUp_abandoning (d : DriveId) (q : List Request) (l : Line) (b : BufId) (h : Held) (clamped : Bool) :
    State.GivingUp d q fun s => s.Abandoning d l b h clamped where
  same k lines vol := by
    refine k.imp (fun ⟨waits, pending⟩ => ⟨(Lasting.settling l b h _).lines waits lines, ?_⟩)
      fun done => (State.givingUp_abandoned d q l b).same done lines vol
    obtain vol | vol := vol <;> rw [vol] <;> exact pending
  step {s r} mem write k := by
    by_cases step : r.kind.prepares
    · exact .inr (k.ends write step)
    · refine k.imp (fun ⟨waits, pending⟩ => ⟨(Lasting.settling l b h _).givenUp d r waits, ?_⟩)
        fun done => (State.givingUp_abandoned d q l b).step mem write done
      rw [State.givenUp_vol_rest write step]
      exact pending

/-- A fact about the volume alone, of a drive with no preparation. -/
theorem State.givingUp_of_volume {V : Volume → Prop} (steps : ∀ r ∈ q, ¬ r.kind.prepares)
    (hold : ∀ v g, V v → V { v with heldGranule := g }) (uncover : ∀ v j, V v → V (v.uncovered j))
    (drop : ∀ (v : Volume) r l b x, r ∈ q → r.origin = .desk l → r.kind = .write b x → V v →
      V { v with waiters := v.waiters.filter fun w => !(w.line == l && w.buf == b) }) :
    State.GivingUp d q fun s => V (s.vol d) where
  same k _ vol := by
    obtain vol | vol := vol <;> rw [vol]
    · exact k
    · exact hold _ _ k
  step {s r} mem write k := by
    obtain ⟨step, -⟩ | ⟨j, -, vol⟩ | ⟨l, b, x, origin, kind, vol⟩ | vol := State.givenUp_vol (s := s) (d := d) write
    · exact absurd step (steps r mem)
    all_goals rw [vol]
    · exact uncover _ j k
    · exact hold _ _ (drop _ r l b x mem origin kind k)
    · exact k

/-- Index sector `j` is to be written again, and no write of it covers a waiter. -/
def Volume.Unwritten (v : Volume) (j : Nat) : Prop :=
  (j < v.sectors.length → v.sector j = .dirty) ∧ ∀ w ∈ v.waiters, w.sector = j → w.covered = false

theorem Volume.unwritten_uncovered (v : Volume) (j : Nat) : (v.uncovered j).Unwritten j := by
  refine ⟨fun lt => ?_, fun w here sector => ?_⟩
  · rw [Volume.sector_uncovered]
    exact if_pos ⟨rfl, by simpa [Volume.uncovered] using lt⟩
  · obtain ⟨x, -, rfl⟩ := List.mem_map.mp here
    split at sector <;> simp_all

theorem Volume.Unwritten.uncovered {v : Volume} {j : Nat} (k : v.Unwritten j) (i : Nat) : (v.uncovered i).Unwritten j := by
  refine ⟨fun lt => ?_, fun w here sector => ?_⟩
  · rw [Volume.sector_uncovered]
    split
    · rfl
    · exact k.1 (by simpa [Volume.uncovered] using lt)
  · obtain ⟨x, there, rfl⟩ := List.mem_map.mp here
    split at sector <;> simp_all [k.2 x there]

theorem State.givingUp_unwritten (steps : ∀ r ∈ q, ¬ r.kind.prepares) (d : DriveId) (j n : Nat) :
    State.GivingUp d q fun s => (s.vol d).sectors.length = n ∧ (s.vol d).Unwritten j :=
  State.givingUp_of_volume (V := fun v => v.sectors.length = n ∧ v.Unwritten j) steps (fun _ _ k => k)
    (fun v i k => ⟨by simpa [Volume.uncovered] using k.1, k.2.uncovered i⟩)
    fun _ _ _ _ _ _ _ _ k => ⟨k.1, k.2.1, fun w here => k.2.2 w (List.mem_filter.mp here).1⟩

theorem State.givingUp_rest (steps : ∀ r ∈ q, ¬ r.kind.prepares) (d : DriveId) (v : Volume) :
    State.GivingUp d q fun s => s.vol d = { v with
      sectors := (s.vol d).sectors, waiters := (s.vol d).waiters, heldGranule := (s.vol d).heldGranule }
        ∧ (s.vol d).sectors.length = v.sectors.length :=
  State.givingUp_of_volume (V := fun x => x = { v with sectors := x.sectors, waiters := x.waiters, heldGranule := x.heldGranule }
      ∧ x.sectors.length = v.sectors.length) steps
    (fun x g k => ⟨by rw [k.1], k.2⟩) (fun x j k => ⟨by rw [k.1]; rfl, by simpa [Volume.uncovered] using k.2⟩)
    fun x _ _ _ _ _ _ _ k => ⟨by rw [k.1], k.2⟩

/-- A waiter whose data WRITE is not in the queue stays, uncovered or not; one that is uncovered stays so. -/
theorem State.givingUp_waiter (steps : ∀ r ∈ q, ¬ r.kind.prepares) (d : DriveId) (w : Waiter)
    (apart : ∀ x y, x ∈ q → x.origin = .desk w.line → x.kind ≠ .write w.buf y) :
    State.GivingUp d q (fun s => (s.vol d).Waits w)
      ∧ State.GivingUp d q fun s => { w with covered := false } ∈ (s.vol d).waiters := by
  have kept (v : Volume) (j : Nat) (z : Waiter) (here : z ∈ v.waiters) (off : z.covered = false) : z ∈ (v.uncovered j).waiters := by
    refine List.mem_map.mpr ⟨z, here, ?_⟩
    split
    · cases z; simp_all
    · rfl
  have stays {v : Volume} {r : Request} {l : Line} {b : BufId} {x : Option WriteBack} (mem : r ∈ q) (origin : r.origin = .desk l)
      (kind : r.kind = .write b x) (z : Waiter) (line : z.line = w.line) (buf : z.buf = w.buf) (here : z ∈ v.waiters) :
      z ∈ v.waiters.filter fun w => !(w.line == l && w.buf == b) := by
    refine List.mem_filter.mpr ⟨here, ?_⟩
    rw [line, buf]
    simp only [Bool.not_eq_true', Bool.and_eq_false_iff, beq_eq_false_iff_ne]
    by_contra both
    obtain ⟨sameLine, sameBuf⟩ := not_or.mp both
    exact apart r x mem (not_not.mp sameLine ▸ origin) (not_not.mp sameBuf ▸ kind)
  refine ⟨State.givingUp_of_volume (V := fun v => v.Waits w) steps (fun _ _ k => k)
      (fun v j k => ?_) fun v r l b x mem origin kind k => k.imp (stays mem origin kind _ rfl rfl) (stays mem origin kind _ rfl rfl),
    State.givingUp_of_volume (V := fun v => { w with covered := false } ∈ v.waiters) steps (fun _ _ k => k)
      (fun v j k => kept v j _ k rfl) fun v r l b x mem origin kind k => stays mem origin kind _ rfl rfl k⟩
  obtain here | here := k
  · by_cases sector : w.sector = j
    · exact .inr (List.mem_map.mpr ⟨w, here, if_pos sector⟩)
    · exact .inl (List.mem_map.mpr ⟨w, here, if_neg sector⟩)
  · exact .inr (kept v j _ here rfl)

/-- The desk of a WRITE given up is answered, or was. -/
theorem State.Settling.givenUp {x : Option WriteBack} (k : s.Settling l b h (.failed .powerLow)) (origin : r.origin = .desk l)
    (kind : r.kind = .write b x) : (s.givenUp d r).hasReply l b (.failed .powerLow) := by
  obtain ⟨held, stage, orphan, -⟩ | has := k
  · exact State.givenUp_answers origin kind ⟨held, stage, orphan⟩
  · exact (Lasting.hasReply _ l b _).givenUp d r has

end

/-! ### The drives in their turns -/

/-- What the turns of the other drives leave of drive `d`, and of the requests that wait to be answered. -/
structure State.Undisturbed (d : DriveId) (s t : State) : Prop where
  drive   : t.drive d = s.drive d
  vol     : t.vol d = s.vol d
  op      : t.op d = s.op d
  asking  : t.channel.asking.get d = s.channel.asking.get d
  inhibit : t.channel.inhibit = s.channel.inhibit
  settles : ∀ l b h, s.Settling l b h (.failed .powerLow) → t.Settling l b h (.failed .powerLow)
  replies : ∀ l b, s.hasReply l b (.failed .powerLow) → t.hasReply l b (.failed .powerLow)

theorem State.Undisturbed.heldBack (k : State.Undisturbed d s u) (r : Request) : u.HeldBack d r ↔ s.HeldBack d r := by
  simp only [State.HeldBack, k.drive, k.asking]

theorem State.Within.givesUp (h : s.Within t d) : s.Within (t.givesUp d) d := by
  have selected : s.Within (t.giveUpSelected d) d := by
    unfold State.giveUpSelected
    split
    · split
      · exact h.withdrawSelected _
      · exact h
    · exact h
  exact State.foldl_keeps (fun x => s.Within x d) _ (fun _ r k => k.givenUp r) _ _ (selected.modQueue _)

theorem State.givesUp_undisturbed (s : State) {d e : DriveId} (ne : d ≠ e) : State.Undisturbed e s (s.givesUp d) := by
  have within : s.Within (s.givesUp d) d := (State.Within.refl s d).givesUp
  have everyone : ∀ r ∈ (s.drive d).queue, r ∈ (s.drive d).queue := fun _ mem => mem
  refine ⟨within.others.drives e ne.symm, within.others.vols e ne.symm, within.ops e ne.symm, within.asking e ne.symm, ?_,
    fun l b h k => ((Lasting.settling l b h _).givingUp d _).keeps everyone k,
    fun l b k => ((Lasting.hasReply _ l b _).givingUp d _).keeps everyone k⟩
  by_cases waits : s.selectedWaits d
  · rw [((s.givesUp_drive d).1 waits).2]
  · rw [((s.givesUp_drive d).2 waits).2]

/-- What the beginning of the long inhibit makes of drive `d`, as its own turn finds it. -/
theorem State.beginLongInhibit_turn (s : State) (d : DriveId) :
    ∃ u, State.Undisturbed d s u ∧ State.Undisturbed d (u.givesUp d) s.beginLongInhibit := by
  obtain ⟨u, before, after⟩ := State.eachDrive_turn (f := State.givesUp) State.Undisturbed
    (fun d s => ⟨rfl, rfl, rfl, rfl, rfl, fun _ _ _ k => k, fun _ _ k => k⟩)
    (fun d s t u a b => ⟨b.drive.trans a.drive, b.vol.trans a.vol, b.op.trans a.op, b.asking.trans a.asking, b.inhibit.trans a.inhibit,
      fun l c h k => b.settles l c h (a.settles l c h k), fun l c k => b.replies l c (a.replies l c k)⟩)
    (fun t d e ne => t.givesUp_undisturbed ne) (s.modChannel fun c => { c with longTimer := false, longInhibit := true }) d
  exact ⟨u, ⟨before.drive, before.vol, before.op, before.asking, before.inhibit, before.settles, before.replies⟩, after⟩

theorem State.givesUp_cw (s : State) (d : DriveId) : (s.givesUp d).cw = s.cw := by
  have queued (t : State) : (t.giveUpQueued d).cw = t.cw :=
    State.foldl_keeps (fun u => u.cw = t.cw) _ (fun u r k => (((State.Aside.refl u d).givenUp r).cw).trans k) _ _ rfl
  refine (queued _).trans ?_
  unfold State.giveUpSelected
  split
  next r _ =>
    split
    · refine (((State.Aside.refl _ d).givenUp r).cw).trans ?_
      show (s.leave d).cw = _
      unfold State.leave State.dropHold
      split
      · split <;> rfl
      · rfl
    · rfl
  · rfl

/-- Nothing outside the drives' business changes when the long inhibit begins. -/
theorem State.beginLongInhibit_rest (s : State) : s.beginLongInhibit.cfg = s.cfg ∧ s.beginLongInhibit.cw = s.cw
    ∧ s.beginLongInhibit.mem = s.mem ∧ s.beginLongInhibit.part = s.part ∧ s.beginLongInhibit.channel.longInhibit = true
    ∧ s.beginLongInhibit.channel.longTimer = false ∧ s.beginLongInhibit.channel.inhibit = s.channel.inhibit := by
  have run : s.beginLongInhibit = (s.modChannel fun c => { c with longTimer := false, longInhibit := true }).eachDrive State.givesUp := rfl
  rw [run]
  refine State.eachDrive_keeps (fun t => t.cfg = s.cfg ∧ t.cw = s.cw ∧ t.mem = s.mem ∧ t.part = s.part ∧ t.channel.longInhibit = true
    ∧ t.channel.longTimer = false ∧ t.channel.inhibit = s.channel.inhibit) State.givesUp (fun t d k => ?_) _ ⟨rfl, rfl, rfl, rfl, rfl, rfl, rfl⟩
  obtain ⟨cfg, cw, mem, part, long, timer, inhibit⟩ := k
  have within : t.Within (t.givesUp d) d := (State.Within.refl t d).givesUp
  have bytes : (t.givesUp d).mem = t.mem := by simp [State.givesUp]
  have channel : (t.givesUp d).channel.longInhibit = t.channel.longInhibit ∧ (t.givesUp d).channel.longTimer = t.channel.longTimer
      ∧ (t.givesUp d).channel.inhibit = t.channel.inhibit := by
    by_cases waits : t.selectedWaits d
    · rw [((t.givesUp_drive d).1 waits).2]
      exact ⟨rfl, rfl, rfl⟩
    · rw [((t.givesUp_drive d).2 waits).2]
      exact ⟨rfl, rfl, rfl⟩
  exact ⟨within.cfg.trans cfg, (t.givesUp_cw d).trans cw, bytes.trans mem, within.part.trans part, channel.1.trans long, channel.2.1.trans timer,
    channel.2.2.trans inhibit⟩

end

/-! ### The write-backs offered again (R67, R149) -/

/-- What the turns of the other drives leave of drive `d` when write-backs are offered. -/
def State.Unoffered (d : DriveId) (s t : State) : Prop := t.drive d = s.drive d ∧ t.vol d = s.vol d

theorem State.offers_turns (s : State) : (∀ d, ∃ q, (s.eachDrive fun s d => s.offers d).drive d
      = { s.drive d with queue := (s.drive d).queue ++ q } ∧ q.length ≤ 2
        ∧ ((s.vol d).dirtySet = [] → q = []) ∧ ∀ r ∈ q, ∃ j, r.kind = .indexWrite j)
    ∧ ∃ drives vols arrival, (s.eachDrive fun s d => s.offers d) = { s with drives := drives, vols := vols, arrival := arrival } := by
  refine ⟨fun d => ?_, State.eachDrive_keeps (fun t => ∃ drives vols arrival, t = { s with drives := drives, vols := vols, arrival := arrival })
    _ (fun t d k => ?_) s ⟨_, _, _, rfl⟩⟩
  · obtain ⟨u, before, after⟩ := State.eachDrive_turn (f := fun s d => s.offers d) State.Unoffered (fun _ _ => ⟨rfl, rfl⟩)
      (fun _ _ _ _ a b => ⟨b.1.trans a.1, b.2.trans a.2⟩)
      (fun t d e ne => ⟨(t.offers_offered d).drives e ne.symm, (t.offers_offered d).vols e ne.symm⟩) s d
    obtain ⟨q, drive, few, kinds, clean⟩ := (u.offers_offered d).queue
    rw [before.1] at drive
    rw [before.2] at clean
    refine ⟨q, after.1.trans drive, few, clean, fun r mem => ?_⟩
    obtain ⟨j, kind, -⟩ := kinds r mem
    exact ⟨j, kind⟩
  · obtain ⟨drives, vols, arrival, rfl⟩ := k
    exact ⟨_, _, _, (State.offers_offered _ d).rest⟩

/-! ### The settlement -/

/-- Settles O51. -/
theorem theSupplyGuardsWrites : Obligations.TheSupplyGuardsWrites := by
  unfold Obligations.TheSupplyGuardsWrites
  refine ⟨fun s live => ⟨fun us normal fields => ?_, fun us inhibit => ?_, fun low => ?_, fun high => ?_, fun inhibit timer => ?_,
    fun inhibit timer => ?_⟩, fun s d r long write => ⟨fun selected => ?_, fun us k may track at_c chosen => ?_,
    fun o c k f v search inhibit bare drain sector sought fresh n => ?_, fun o i fails inhibit few sector => ?_,
    fun o us v format live ready inhibit drain => ?_⟩⟩
  · have fell : s.modChannel Channel.fallBelow = s.modChannel fun c => { c with
        supply := .belowInhibit, restoreTimer := false, inhibit := true, longTimer := true, inhibits := bump c.inhibits } :=
      congrArg (fun c => ({ s with channel := c } : State)) (if_neg (by simp [normal]))
    refine congrArg Host.Outcome.next ((if_neg (by simp [live])).trans ((if_neg (by simp [normal])).trans ?_))
    rw [fell]
    exact State.cutInGap_keeps fun d r o g v formats gate => fields d r o g ⟨v.granted, v.selected, v.record⟩ formats gate
  · refine congrArg Host.Outcome.next ((if_neg (by simp [live])).trans ((if_pos inhibit).trans ?_))
    exact congrArg (fun c => ({ s with channel := c } : State)) (if_pos inhibit)
  · refine congrArg Host.Outcome.next ((if_neg low).trans ?_)
    simp [live]
  · exact congrArg Host.Outcome.next (if_pos high)
  · obtain ⟨own, drives, vols, arrival, rest⟩ := (s.modChannel Channel.restored).offers_turns
    refine ⟨_, congrArg Host.Outcome.next (if_pos ⟨inhibit, timer⟩), ?_, own, ?_⟩
    · rw [rest]
      rfl
    · rw [rest]
      rfl
  · have ran : exec .longInhibitTimerExpiry s = .next s.beginLongInhibit := congrArg Host.Outcome.next (if_pos ⟨live, inhibit, timer⟩)
    obtain ⟨cfg, cw, mem, part, long, off, same⟩ := s.beginLongInhibit_rest
    refine ⟨_, ran, long, off, same.trans inhibit, fun d r here write => ?_, fun d r here read which => ?_,
      fun d r l b x h here queued origin kind held stage orphan unanswered => ?_, fun d r held => ⟨?_, ?_, ?_⟩, fun d idle => ?_,
      fun d none => ?_, fun d r l b h clamped held step pending waits unanswered => ?_, cfg, cw, mem, part⟩
    all_goals obtain ⟨u, before, after⟩ := s.beginLongInhibit_turn d
    all_goals have guard : u.channel.inhibit = true := before.inhibit.trans inhibit
    all_goals have back (r : Request) : u.HeldBack d r ↔ s.HeldBack d r := before.heldBack r
    all_goals have everyone : ∀ r ∈ (u.drive d).queue, r ∈ (s.drive d).queue := fun r mem => before.drive ▸ mem
    · rw [after.drive] at here
      obtain ⟨there, begun⟩ := State.givesUp_left here
      exact ⟨fun queued => by simp [Request.waitingWrite, write, queued] at begun, everyone r there⟩
    · rw [after.drive]
      exact State.givesUp_reads (before.drive ▸ here) read (by rw [before.drive]; exact which)
    · exact after.replies l b (((Lasting.settling l b h _).givingUp d _).reaches ((Lasting.hasReply _ l b _).givingUp d _) everyone guard
        ((back r).mpr ⟨here, by rw [kind]; rfl, .inl queued⟩) (fun t k => State.Settling.givenUp k origin kind)
        (before.settles l b h (.inl ⟨held, stage, orphan, unanswered⟩)))
    · rw [after.drive]
      exact ((back r).mpr held).gone guard
    · intro l b x h origin kind waits unanswered
      obtain ⟨buffer, stage, orphan⟩ := waits
      exact after.replies l b (((Lasting.settling l b h _).givingUp d _).reaches ((Lasting.hasReply _ l b _).givingUp d _) everyone guard
        ((back r).mpr held) (fun t k => State.Settling.givenUp k origin kind)
        (before.settles l b h (.inl ⟨buffer, stage, orphan, unanswered⟩)))
    · intro begun
      have channel := ((u.givesUp_drive d).1 ⟨r, ((back r).mpr held).waits guard begun⟩).2
      rw [after.op, after.asking, State.op, channel]
      exact ⟨(vector_get_set ..).trans (if_pos rfl), (vector_get_set ..).trans (if_pos rfl)⟩
    · have rests : ¬ u.selectedWaits d := by
        rintro ⟨r, selected, waits⟩
        simp only [State.writeWaits, Bool.and_eq_true] at waits
        rw [before.drive] at selected
        rw [before.asking] at waits
        exact idle r selected ⟨DriveSeq.selected_mem selected, waits.2, .inr ⟨selected, waits.1.1⟩⟩
      have channel := ((u.givesUp_drive d).2 rests).2
      rw [after.op, after.asking, after.drive, State.givesUp_selected rests, before.drive, State.op, channel]
      exact ⟨before.op, before.asking, rfl⟩
    · have steps : ∀ r ∈ (s.drive d).queue, ¬ r.kind.prepares := fun r mem step =>
        step.elim (none r mem).1 fun ⟨st, kind⟩ => (none r mem).2 st kind
      rw [after.vol]
      refine ⟨((State.givingUp_rest steps d (s.vol d)).keeps everyone (by rw [before.vol]; exact ⟨rfl, rfl⟩)).1, fun r j held kind => ?_⟩
      have unwritten := (State.givingUp_rest steps d (s.vol d)).reaches (State.givingUp_unwritten steps d j (s.vol d).sectors.length) everyone
        guard ((back r).mpr held) (fun t k => by
          rw [(State.givenUp_index kind).1]
          exact ⟨by simpa [Volume.uncovered] using k.2, Volume.unwritten_uncovered _ j⟩) (by rw [before.vol]; exact ⟨rfl, rfl⟩)
      refine ⟨fun lt => unwritten.2.1 (by rw [unwritten.1]; exact lt), unwritten.2.2, fun w here sector apart => ?_⟩
      obtain ⟨P, Q⟩ := State.givingUp_waiter steps d w apart
      refine P.reaches Q everyone guard ((back r).mpr held) (fun t k => ?_) (by rw [before.vol]; exact .inl here)
      rw [(State.givenUp_index kind).1]
      exact k.elim (fun there => Volume.uncovered_waiter there sector) fun there => Volume.uncovered_waiter (w := { w with covered := false }) there sector
    · obtain ⟨buffer, stage, orphan⟩ := waits
      obtain ⟨has, ⟨state, foreign, profile, gone, label, staging⟩⟩ := (State.givingUp_abandoning d _ l b h clamped).reaches
        (State.givingUp_abandoned d _ l b) everyone guard ((back r).mpr held) (fun t k => k.ends held.2.1 step)
        (.inl ⟨before.settles l b h (.inl ⟨buffer, stage, orphan, unanswered⟩), by rw [before.vol]; exact pending⟩)
      rw [after.vol]
      exact ⟨after.replies l b has, state, foreign, profile, gone, label, staging⟩
  · intro p arrived
    refine ⟨fun settling timer loaded => ?_, fun timer still => ?_⟩
    · refine ⟨_, congrArg Host.Outcome.next ((if_pos ⟨settling, Option.isSome_iff_ne_none.mpr timer⟩).trans
        (if_pos (Option.isNone_iff_eq_none.mpr loaded))), State.arrive_withdraws selected long write⟩
    · exact ⟨_, congrArg Host.Outcome.next ((if_pos (Option.isSome_iff_ne_none.mpr timer)).trans (if_pos still)),
        State.arrive_withdraws selected long write⟩
  · exact chosen.withdrawn long write may track at_c
  · obtain ⟨x, ran⟩ := v.gateWaits search inhibit bare drain sector sought fresh n
    exact ⟨_, ran, ((State.Pulsed.refl s d).modChannel _).withdrawn (v.toServing.setOp x) long write⟩
  · exact fails.withdraws inhibit few sector long
  · intro ends
    obtain ⟨index, step, run⟩ := v.indexPulse live ready us
    have w := v.timed index step
    have P := State.Pulsed.timed s d index step
    have levels : ((s.timed d index step).drive d).levels = (s.drive d).levels := by rw [State.timed_drive]; rfl
    have pulse : exec (.indexPulse d us) s = .next ((s.timed d index step).formatPulse d r o) := by
      rw [run, w.formatPulse format]
    refine ⟨fun shut bare due => ⟨_, pulse.trans (congrArg _ ?_), P.withdrawn w long write⟩, fun formats gate => ⟨?_, ?_⟩⟩
    · exact (State.formatPulse_due (s := s.timed d index step) due).trans
        (State.formatGate_inhibited (s := s.timed d index step) drain (levels ▸ bare) inhibit)
    · have cut : (s.timed d index step).formatPulse d r o = (s.timed d index step).closeGate.suspend d r := by
        unfold State.formatPulse
        rw [show (s.timed d index step).channel.state = .format from formats]
        exact (if_pos (.inr inhibit)).trans (if_neg (by simp [show (s.timed d index step).part.drainOver = false from drain]))
      exact ⟨_, pulse.trans (congrArg _ cut), (P.modChannel _).withdrawn (w.modChannel rfl rfl) long write⟩
    · have cut : s.formatCut d r = s.closeGate.suspend d r := if_neg (by simp [drain])
      refine ⟨_, congrArg Host.Outcome.next (Eq.trans ?_ cut), ((State.Pulsed.refl s d).modChannel _).withdrawn (v.modChannel rfl rfl) long write⟩
      rw [v.service]
      exact if_pos ⟨formats, Option.isSome_iff_ne_none.mpr gate, .inr inhibit⟩

end Sys2Proof.Machine
end

section
/-! How a fill ends (R52, R53, R100, R101): its frame VALID and its readers answered, or the next step of the ladder. -/
namespace Sys2Proof.Machine

/-! ### The readers of a fill (R100) -/

/-- The answer to a reader with the body of its request, by the condition and the bytes of its sector. -/
def readerAnswer (body data : List Byte) (recovered : Bool) : SectorCond → Reply
  | .good => .done false recovered (body.take 4 ++ be2 data.length ++ data)
  | .bad => .failed .readCheck
  | .absent => .failed .notFound

theorem State.answerReader_eq (s : State) (d : DriveId) (i : Nat) (p : ReadProfile) (c : SectorCond) (recovered : Bool) (r : Reader) :
    s.answerReader d i p c recovered r
      = s.answer r.line r.buf (readerAnswer (s.bodyOf r.line r.buf) (s.frameData d i p r.sector) recovered c) := by
  cases c <;> rfl

/-- The condition that a FILL records for a sector, ABSENT past the track. -/
def noteAt (notes : List SectorNote) (k : Nat) : SectorNote := (notes[k - 1]?).getD .absent

theorem conds_getD (notes : List SectorNote) (k : Nat) :
    (notes.map SectorNote.cond).getD (k - 1) .absent = (noteAt notes k).cond := by
  rw [List.getD_eq_getElem?_getD, List.getElem?_map, noteAt]
  cases notes[k - 1]? <;> rfl

section
variable {s u t : State} {d : DriveId} {r : Request} {o x : OpRecord} {i : Nat}

/-- Answers to readers change the lines alone. -/
theorem State.answerReaders_rest (f : Reader → SectorCond) (rec : Reader → Bool) (p : ReadProfile) (rs : List Reader) (s : State) :
    rs.foldl (fun s rd => s.answerReader d i p (f rd) (rec rd) rd) s
      = { s with lines := (rs.foldl (fun s rd => s.answerReader d i p (f rd) (rec rd) rd) s).lines } :=
  State.foldl_keeps (fun t => t = { s with lines := t.lines }) _ (fun t rd k => by
    rw [State.answerReader_eq, k]
    rfl) rs s rfl

/-- A reader with a buffer of its own is answered by the condition of its sector. -/
theorem State.answerReaders_answer (f : Reader → SectorCond) (rec : Reader → Bool) (p : ReadProfile) {rs : List Reader} {rd : Reader}
    {h : Held} (here : rd ∈ rs) (waits : s.Open rd.line rd.buf h)
    (alone : ∀ x ∈ rs, x.line = rd.line → x.buf = rd.buf → x = rd) :
    (rs.foldl (fun s rd => s.answerReader d i p (f rd) (rec rd) rd) s).hasReply rd.line rd.buf
      (readerAnswer h.body (s.frameData d i p rd.sector) (rec rd) (f rd)) := by
  have own (t : State) (k : t.mem = s.mem ∧ t.Open rd.line rd.buf h) : (t.answerReader d i p (f rd) (rec rd) rd).hasReply rd.line rd.buf
      (readerAnswer h.body (s.frameData d i p rd.sector) (rec rd) (f rd)) := by
    obtain ⟨mem, held, stage, orphan, -⟩ := k
    rw [State.answerReader_eq, State.bodyOf_held held, State.frameData, State.frameData, mem]
    exact State.hasReply_answer _ held stage orphan
  let Q (t : State) : Prop := t.hasReply rd.line rd.buf (readerAnswer h.body (s.frameData d i p rd.sector) (rec rd) (f rd))
  have kept (t : State) (y : Reader) (k : Q t) : Q (t.answerReader d i p (f y) (rec y) y) := by
    rw [State.answerReader_eq]
    exact State.hasReply.answer k ..
  refine State.foldl_reaches_mem (P := fun t => (t.mem = s.mem ∧ t.Open rd.line rd.buf h) ∨ Q t) (Q := Q) (fun t y there k => ?_)
    (fun t y _ k => kept t y k) here (fun t k => k.elim (own t) (kept t rd)) (.inl ⟨rfl, waits⟩)
  by_cases same : y.line = rd.line ∧ y.buf = rd.buf
  · obtain rfl := alone y there same.1 same.2
    exact .inr (k.elim (own t) (kept t y))
  · refine k.imp (fun ⟨mem, waits⟩ => ?_) (kept t y)
    rw [State.answerReader_eq]
    exact ⟨mem, (waits.answer y.line y.buf _).resolve_right fun ⟨line, buf, _⟩ => same ⟨line, buf⟩⟩

/-! ### The end of a FILL (R53, R100) -/

/-- Only the buffer memory and the channel differ, and not the count of sectors failed. -/
structure State.Read (s u : State) : Prop where
  rest   : u = { s with mem := u.mem, channel := u.channel }
  failed : u.channel.failed = s.channel.failed

theorem State.Read.of_noted (h : s.Noted u) : s.Read u := by
  obtain ⟨_, _, _, rfl⟩ := h
  exact ⟨rfl, rfl⟩

theorem Region.filled_frame (g : Region) {j c h : Nat} {conds : List SectorCond} (runs : g.state ≠ .closing) (lt : i < g.frames.length) :
    (g.filled i c h conds).frame j = if i = j then .valid c h (g.validCount + 1) conds else g.frame j := by
  have open_ : g.filled i c h conds = { g with frames := g.frames.set i (.valid c h (g.validCount + 1) conds) } := by
    unfold Region.filled
    split
    · contradiction
    · rfl
  rw [open_]
  simp only [Region.frame, List.getD_eq_getElem?_getD, List.getElem?_set]
  by_cases e : i = j
  · subst e
    simp [lt]
  · simp [e]

/-- What the end of a FILL leaves (R53, R69, R100). -/
theorem State.Serving.fillEnds (v : u.Serving d r x) (k : s.Read u) (kind : r.kind = .fill i) (o : OpRecord) :
    s.FillEnds (u.fillEnd d r o) d r i o.notes o.recovered o.failing.length ∧ (u.fillEnd d r o).mem = u.mem
      ∧ (u.fillEnd d r o).channel = { u.channel with
        state := .idle, granted := none, gate := none, ops := u.channel.ops.set d.val none d.isLt,
        failed := min 65535 (s.channel.failed + o.failing.length) } := by
  have w : (u.countFailed o.failing.length).Serving d r x := v.modChannel rfl rfl
  let z := (u.countFailed o.failing.length).opEnd d
  have ran : u.fillEnd d r o = z.fillDone d r i o.notes o.recovered := by
    unfold State.fillEnd
    rw [kind]
  have rest := w.opEnd_rest
  have plain : r.isDeskWrite = false := by simp [Request.isDeskWrite, kind]
  have zlines : z.lines = s.lines := by rw [w.opEnd_lines]; show u.lines = _; rw [k.rest]
  have zregions : z.regions = s.regions := by rw [w.opEnd_regions]; show u.regions = _; rw [k.rest]
  have zmem : z.mem = u.mem := by show State.mem (State.opEnd _ d) = _; rw [rest]; rfl
  have zvols : z.vols = s.vols := (w.opEnd_vols plain).trans (by show u.vols = _; rw [k.rest])
  have zcw : z.cw = s.cw := by rw [w.opEnd_cw]; show u.cw = _; rw [k.rest]
  have zrest : z.cfg = s.cfg ∧ z.part = s.part ∧ z.clock = s.clock := by
    rw [show z = _ from rest]
    show u.cfg = _ ∧ u.part = _ ∧ u.clock = _
    rw [k.rest]
    exact ⟨rfl, rfl, rfl⟩
  obtain ⟨granted, idle, gate, cleared, queue⟩ : z.channel.granted = none ∧ z.channel.state = .idle ∧ z.channel.gate = none ∧ z.op d = none
      ∧ (z.drive d).queue = u.left d := by
    obtain ⟨granted, idle, gate, cleared, queue, -⟩ := w.opEnd_ended
    exact ⟨granted, idle, gate, cleared, queue⟩
  have left : u.left d = s.left d := by
    rw [k.rest]
    rfl
  have others : s.OthersKept (u.fillEnd d r o) d := by
    have within : u.Within (u.fillEnd d r o) d := (State.Within.refl u d).fillEnd r o
    obtain ⟨drives, regions, vols⟩ := within.others
    refine ⟨fun e ne => (drives e ne).trans ?_, fun e ne => (regions e ne).trans ?_, fun e ne => (vols e ne).trans ?_⟩ <;>
      rw [k.rest] <;> rfl
  have channel : z.channel = { u.channel with
        state := .idle, granted := none, gate := none, ops := u.channel.ops.set d.val none d.isLt,
        failed := min 65535 (s.channel.failed + o.failing.length) } := by
    refine w.opEnd_channel.trans ?_
    rw [← k.failed]
    rfl
  rw [ran] at others ⊢
  clear_value z
  have region : z.region d = s.region d := congrArg (fun x : Vector Region 4 => x.get d) zregions
  let y := z.modRegion d fun g => g.filled i r.cylinder r.head (o.notes.map SectorNote.cond)
  have only := State.answerReaders_rest (d := d) (i := i) (fun rd => (o.notes.map SectorNote.cond).getD (rd.sector - 1) .absent)
    (fun rd => o.recovered.contains rd.sector) r.profile ((z.region d).frame i).readers y
  have same : z.fillDone d r i o.notes o.recovered = _ := only
  have own : (z.fillDone d r i o.notes o.recovered).region d = (s.region d).filled i r.cylinder r.head (o.notes.map SectorNote.cond) := by
    rw [same, ← region]
    show y.region d = _
    exact State.region_modRegion_self ..
  have mem : (z.fillDone d r i o.notes o.recovered).mem = u.mem := by
    rw [same]
    exact zmem
  have chan : (z.fillDone d r i o.notes o.recovered).channel = z.channel := by rw [same]; rfl
  refine ⟨⟨⟨?_, ?_, ?_, ?_, ?_, others⟩, ?_, fun runs lt => ⟨?_, fun j ne => ?_⟩, fun closing => ?_, fun rd h here waits unanswered alone => ?_,
    ?_⟩, mem, chan.trans channel⟩
  · rw [chan]
    exact granted
  · rw [chan]
    exact idle
  · rw [chan]
    exact gate
  · rw [State.op, chan]
    exact cleared
  · rw [same]
    exact queue.trans left
  · rw [chan, channel]
  · rw [own, Region.filled_frame _ runs lt, if_pos rfl]
    exact congrArg _ (List.map_congr_left fun n _ => by cases n <;> rfl)
  · rw [own, Region.filled_frame _ runs lt, if_neg ne.symm]
  · rw [own, Region.filled, closing]
    exact ⟨rfl, rfl⟩
  · obtain ⟨held, stage, orphan⟩ := waits
    have answered := State.answerReaders_answer (s := y) (d := d) (i := i) (rs := ((z.region d).frame i).readers)
      (fun rd => (o.notes.map SectorNote.cond).getD (rd.sector - 1) .absent) (fun rd => o.recovered.contains rd.sector) r.profile
      (by rw [region]; exact here) ⟨(State.buffer_of_lines zlines rd.line rd.buf).trans held, stage, orphan, unanswered⟩
      (by rw [region]; exact alone)
    have data : (z.fillDone d r i o.notes o.recovered).frameData d i r.profile rd.sector = y.frameData d i r.profile rd.sector := by
      rw [State.frameData, State.frameData, mem, show y.mem = u.mem from zmem]
    rw [data]
    refine Eq.subst (motive := fun q => State.hasReply _ rd.line rd.buf q) ?_ answered
    rw [conds_getD, noteAt]
    cases (o.notes[rd.sector - 1]?).getD .absent <;> rfl
  · rw [same]
    exact ⟨zvols, zcw, zrest⟩

/-! ### The record of a pass (R52, R53) -/

/-- The conditions with that of sector `k` a data-field failure, unless it was read good before. -/
def failedNotes (notes : List SectorNote) (k : Nat) : List SectorNote :=
  if notes[k - 1]? = some .good then notes else notes.set (k - 1) .bad

theorem note_good_iff (notes : List SectorNote) (k : Nat) (x : SectorNote) (other : x ≠ .good) :
    notes.getD (k - 1) x = .good ↔ notes[k - 1]? = some .good := by
  rw [List.getD_eq_getElem?_getD]
  cases notes[k - 1]? <;> simp [other]

theorem failedNotes_set (notes : List SectorNote) (k : Nat) :
    notes.set (k - 1) (if notes.getD (k - 1) .unrecorded = .good then .good else .bad) = failedNotes notes k := by
  unfold failedNotes
  by_cases good : notes[k - 1]? = some .good
  · rw [if_pos good, if_pos ((note_good_iff notes k .unrecorded (by decide)).mpr good)]
    obtain ⟨lt, e⟩ := List.getElem?_eq_some_iff.mp good
    rw [← e, List.set_getElem_self]
  · rw [if_neg good, if_neg (mt (note_good_iff notes k .unrecorded (by decide)).mp good)]

theorem failedNotes_good (notes : List SectorNote) (k j : Nat) : (failedNotes notes k)[j]? = some .good ↔ notes[j]? = some .good := by
  unfold failedNotes
  split
  · exact Iff.rfl
  next bad =>
    rw [List.getElem?_set]
    by_cases e : k - 1 = j
    · subst e
      by_cases lt : k - 1 < notes.length
      · simpa [lt] using fun e : notes[k - 1] = .good => bad (by rw [List.getElem?_eq_getElem lt, e])
      · simp [lt]
    · simp [e]

/-- The record after a pass, its failing set read off the conditions. -/
theorem OpRecord.closePass_eq (o : OpRecord) (wanted : List Nat) : o.closePass wanted = { o with
    notes := o.notes.map fun n => if n = .unrecorded then .absent else n, inPass := false, awaiting := none,
    failing := wanted.filter fun w => (o.notes.map fun n => if n = .unrecorded then .absent else n)[w - 1]? != some .good } := by
  unfold OpRecord.closePass
  dsimp only
  congr 1
  refine List.filter_congr fun w _ => ?_
  have iff := note_good_iff (o.notes.map fun n => if n = .unrecorded then .absent else n) w .absent (by decide)
  rw [Bool.eq_iff_iff]
  simpa only [bne_iff_ne, ne_eq] using not_congr iff

/-- With every wanted sector read good none is failing. -/
theorem OpRecord.closePass_clear {o : OpRecord} {wanted : List Nat} (good : ∀ w ∈ wanted, o.notes[w - 1]? = some .good) :
    (o.closePass wanted).failing = [] := by
  rw [OpRecord.closePass_eq]
  refine List.filter_eq_nil_iff.mpr fun w mem => ?_
  rw [List.getElem?_map, good w mem]
  decide

section
variable (fill : r.kind.isFill = true)
include fill

theorem State.dataResult_bad (k : Nat) : s.dataResult ⟨d, r, o⟩ k none
    = (s.setOp d (some { o with awaiting := none })).fillBad d { o with awaiting := none } k := by
  cases kind : r.kind <;> simp [kind, ReqKind.isFill] at fill <;> simp only [State.dataResult, kind]

theorem State.dataResult_good (k : Nat) (f : DataField) : s.dataResult ⟨d, r, o⟩ k (some f)
    = (s.setOp d (some { o with awaiting := none })).fillGood d r { o with awaiting := none } k f.bytes := by
  cases kind : r.kind <;> simp [kind, ReqKind.isFill] at fill <;> simp only [State.dataResult, kind]

theorem State.namedId_fill (k : Nat) : s.namedId d r o k
    = if o.inPass then s.passId d r o k
      else if o.failing.contains k then (s.setOp d (some { o with awaiting := some k })).chanState .read else s := by
  cases kind : r.kind <;> simp [kind, ReqKind.isFill] at fill <;> simp only [State.namedId, kind]

theorem Request.fill_plain : r.kind.isFormat = false ∧ r.kind.isSweep = false ∧ r.kind.isSectorWrite = false := by
  cases kind : r.kind <;> simp [kind, ReqKind.isFill] at fill <;> exact ⟨rfl, rfl, rfl⟩

end

/-- The record of an operation and the state of its channel set anew. -/
structure State.Alike (s u : State) (d : DriveId) : Prop where
  noted   : s.Noted u
  attempt : ∀ x z, (u.setOp d x).chanState z = (s.setOp d x).chanState z

namespace State.Alike

theorem refl (s : State) (d : DriveId) : s.Alike s d := ⟨.refl s, fun _ _ => rfl⟩

variable (a : s.Alike u d)
include a

theorem setOp (x : Option OpRecord) : s.Alike (u.setOp d x) d :=
  ⟨a.noted.setOp d x, fun y z => (by rw [State.setOp_setOp] : ((u.setOp d x).setOp d y).chanState z = (u.setOp d y).chanState z).trans
    (a.attempt y z)⟩

theorem chanState (x : ChanState) : s.Alike (u.chanState x) d := ⟨a.noted.chanState x, fun y z => a.attempt y z⟩

theorem startAttempt (r : Request) (o : OpRecord) (x : ChanState) (q : Option Strobe) :
    u.startAttempt d r o x q = s.startAttempt d r o x q := by
  unfold State.startAttempt
  have cfg : u.cfg = s.cfg := by
    obtain ⟨_, _, _, rfl⟩ := a.noted
    rfl
  dsimp only
  rw [a.attempt, cfg, a.noted.margin]

end State.Alike

/-! ### The steps of the pass and the ladder (R47, R49, R52, R53) -/

/-- A data-field failure, noted; after the pass the channel searches again (R52, R53). -/
def State.missed (s : State) (d : DriveId) (o : OpRecord) (k : Nat) : State :=
  if o.inPass then s.setOp d (some { o with awaiting := none, notes := failedNotes o.notes k })
  else (s.setOp d (some { o with awaiting := none, notes := failedNotes o.notes k })).chanState .search

theorem State.dataResult_missed (fill : r.kind.isFill = true) (k : Nat) : s.dataResult ⟨d, r, o⟩ k none = s.missed d o k := by
  rw [State.dataResult_bad fill, State.fillBad, State.missed]
  simp only [State.setOp_setOp, failedNotes_set]

theorem State.missed_alike (s : State) (d : DriveId) (o : OpRecord) (k : Nat) : s.Alike (s.missed d o k) d := by
  unfold State.missed
  split
  · exact (State.Alike.refl s d).setOp _
  · exact ((State.Alike.refl s d).setOp _).chanState _

theorem State.Serving.missed (v : s.Serving d r o) (k : Nat) :
    (s.missed d o k).Serving d r { o with awaiting := none, notes := failedNotes o.notes k } := by
  unfold State.missed
  split
  · exact v.setOp _
  · exact (v.setOp _).modChannel rfl rfl

/-- A pass that has left something failing goes up the ladder. -/
theorem State.endPass_retries (failing : (o.closePass r.wanted).failing ≠ []) (first : o.step = .initial) :
    s.endPass d r o = s.startAttempt d r { o.closePass r.wanted with step := .one } .search none := by
  have step : (o.closePass r.wanted).step = .initial := by
    rw [OpRecord.closePass_eq]
    exact first
  unfold State.endPass
  rw [if_neg (by simpa using failing), State.ladderNext, step]

theorem State.endPass_ends (clear : (o.closePass r.wanted).failing = []) : s.endPass d r o = s.fillEnd d r (o.closePass r.wanted) :=
  if_pos (by simpa using clear)

theorem State.passId_begins {k : Nat} (first : o.passStart = none) :
    s.passId d r o k = (s.setOp d (some { o with passStart := some k, awaiting := some k })).chanState .read := by
  unfold State.passId
  rw [first]

theorem State.passId_closes {k : Nat} (first : o.passStart = some k) : s.passId d r o k = s.endPass d r o := by
  unfold State.passId
  rw [first]
  exact if_pos rfl

theorem State.passId_runs {j k : Nat} (first : o.passStart = some j) (ne : j ≠ k) : s.passId d r o k
    = if o.notes[k - 1]? = some .good then s else s.setOp d (some { o with awaiting := some k }) := by
  unfold State.passId
  rw [first]
  refine (if_neg ne.symm).trans ?_
  simp only [note_good_iff o.notes k .unrecorded (by decide)]

/-- The second index pulse of a fill ends its attempt, a field awaited being a failure (R9, R47). -/
theorem State.Serving.attemptEnd_fill (v : s.Serving d r o) (fill : r.kind.isFill = true) (shut : s.channel.gate = none)
    (pulses : o.pulses = 2) {cut : OpRecord} (whole : o.awaiting = none → cut = o)
    (cutShort : ∀ k, o.awaiting = some k → cut = { o with awaiting := none, notes := failedNotes o.notes k }) :
    ∃ u, s.attemptEnd = (if cut.inPass then u.endPass d r cut else u.ladderNext d r cut) ∧ s.Alike u d ∧ u.Serving d r cut
      ∧ u.mem = s.mem := by
  have ending {u : State} (cuts : s.cutShort = u) (w : u.Serving d r cut) (gate : u.channel.gate = none) (two : cut.pulses = 2) :
      s.attemptEnd = if cut.inPass then u.endPass d r cut else u.ladderNext d r cut := by
    unfold State.attemptEnd
    rw [cuts]
    dsimp only
    rw [w.service]
    refine (if_pos ⟨two, by rw [gate]; rfl⟩).trans ?_
    unfold State.attemptOver
    dsimp only
    by_cases pass : cut.inPass = true
    · rw [if_pos ⟨fill, pass⟩, if_pos pass]
    · rw [if_neg fun h => pass h.2, if_neg pass, if_neg fun h => by simp [(Request.fill_plain fill).2.2] at h]
  cases awaiting : o.awaiting with
  | none =>
    obtain rfl := whole awaiting
    have uncut : s.cutShort = s := by
      unfold State.cutShort
      rw [v.service]
      dsimp only
      rw [awaiting]
    exact ⟨s, ending uncut v shut pulses, .refl s d, v, rfl⟩
  | some k =>
    obtain rfl := cutShort k awaiting
    have cut : s.cutShort = s.missed d o k := by
      unfold State.cutShort
      rw [v.service]
      dsimp only
      rw [awaiting]
      exact (if_pos pulses).trans (State.dataResult_missed fill k)
    have alike := s.missed_alike d o k
    obtain ⟨_, _, _, noted⟩ := alike.noted
    exact ⟨_, ending cut (v.missed k) (by rw [noted]; exact shut) pulses, alike, v.missed k, by rw [noted]⟩

/-! ### The strobes of step 2 (R49) -/

theorem find?_between {α : Type} {p : α → Bool} {before later : List α} {x : α} (passed : ∀ y ∈ before, p y = false) (here : p x = true) :
    (before ++ x :: later).find? p = some x := by
  rw [List.find?_append, List.find?_eq_none.mpr fun y mem => by simp [passed y mem], Option.none_or, List.find?_cons_of_pos here]

/-- The strobes after one of the order. -/
theorem strobesAfter_some {tried later : List Strobe} {x : Strobe} (order : [Strobe.normal, .early, .late] = tried ++ x :: later) :
    strobesAfter (some x) = later := by
  have fresh : x ∉ tried := by
    have distinct : (tried ++ x :: later).Nodup := order ▸ (by decide : [Strobe.normal, .early, .late].Nodup)
    exact fun mem => (List.nodup_append.mp distinct).2.2 x mem x (List.mem_cons_self ..) rfl
  have drops : (tried ++ x :: later).dropWhile (· != x) = x :: later := by
    rw [List.dropWhile_append_of_pos fun y mem => by simpa using fun e : y = x => fresh (e ▸ mem)]
    simp
  show (strobeOrder.dropWhile (· != x)).drop 1 = later
  rw [show strobeOrder = tried ++ x :: later from order, drops]
  rfl

theorem State.nextStrobe_some {tried : Option Strobe} {before later : List Strobe} {y : Strobe} (order : strobesAfter tried = before ++ y :: later)
    (passed : ∀ z ∈ before, z = o.basePref ∨ s.cfg.allows z = false) (new : y ≠ o.basePref) (may : s.cfg.allows y = true) :
    s.nextStrobe o tried = some y := by
  unfold State.nextStrobe
  rw [order]
  refine find?_between (fun z mem => ?_) (by simp [new, may])
  obtain e | e := passed z mem <;> simp [e]

theorem State.nextStrobe_none {tried : Option Strobe} (passed : ∀ z ∈ strobesAfter tried, z = o.basePref ∨ s.cfg.allows z = false) :
    s.nextStrobe o tried = none := by
  refine List.find?_eq_none.mpr fun z mem => ?_
  obtain e | e := passed z mem <;> simp [e]

theorem State.step2_tries {tried : Option Strobe} {y : Strobe} (next : s.nextStrobe o tried = some y) :
    s.step2 d r o tried = s.startAttempt d r { o with step := .two } .search (some y) := by
  unfold State.step2
  rw [next]

theorem State.step2_gives {tried : Option Strobe} (next : s.nextStrobe o tried = none) : s.step2 d r o tried = s.releaseStep3 d o := by
  unfold State.step2
  rw [next]

theorem State.ladderNext_three (fill : r.kind.isFill = true) (three : o.step = .three) : s.ladderNext d r o = s.fillEnd d r o := by
  unfold State.ladderNext
  rw [three]
  exact if_pos fill

/-! ### A seek fault in a fill (R48, R53) -/

section
variable (fill : r.kind.isFill = true) (reads : ¬ (s.channel.state = .writeCheck ∨ 1 ≤ o.writes))
include fill reads

theorem State.seekFault_fill : s.seekFault d r o = (let w := s.modChannel fun c => { c with seekFaults := bump c.seekFaults }
    if o.step = .three then w.seekFailed d r
    else if o.inPass then
      if (o.closePass r.wanted).failing.isEmpty then w.fillEnd d r (o.closePass r.wanted) else w.releaseStep3 d (o.closePass r.wanted)
    else w.releaseStep3 d o) := by
  obtain ⟨format, sweep, -⟩ := Request.fill_plain fill
  unfold State.seekFault
  simp only [format, sweep, Bool.false_eq_true, if_false, if_neg reads, fill, true_and]

end

end

end Sys2Proof.Machine
end

section
/-! The fills of a mount (R114 to R118): what the LABEL-READ and the index-load FILLs leave of their volume. -/
namespace Sys2Proof.Machine

section
variable {s u y z t : State} {d : DriveId} {r : Request} {o x : OpRecord} {p : Profile}

/-! ### After the operation (R44) -/

theorem State.EndedTo.modVol (k : s.EndedTo z d) (f : Volume → Volume) : s.EndedTo (z.modVol d f) d := by
  obtain ⟨granted, idle, gate, cleared, queue, others⟩ := k
  exact ⟨granted, idle, gate, cleared, queue, others.drives, others.regions,
    fun e ne => (State.vol_modVol_ne _ ne.symm _).trans (others.vols e ne)⟩

theorem State.EndedTo.modRegion (k : s.EndedTo z d) (f : Region → Region) : s.EndedTo (z.modRegion d f) d := by
  obtain ⟨granted, idle, gate, cleared, queue, others⟩ := k
  exact ⟨granted, idle, gate, cleared, queue, others.drives,
    fun e ne => (State.region_modRegion_ne _ ne.symm _).trans (others.regions e ne), others.vols⟩

/-- Only the channel and the buffer memory came before. -/
theorem State.Read.endedTo (k : s.Read u) (e : u.EndedTo t d) : s.EndedTo t d := by
  obtain ⟨granted, idle, gate, cleared, queue, others⟩ := e
  have left : u.left d = s.left d := by rw [k.rest]; rfl
  refine ⟨granted, idle, gate, cleared, queue.trans left, fun e ne => (others.drives e ne).trans ?_, fun e ne => (others.regions e ne).trans ?_,
    fun e ne => (others.vols e ne).trans ?_⟩ <;> rw [k.rest] <;> rfl

/-- What the end of an operation of a mount leaves. -/
structure State.Over (s z : State) (d : DriveId) : Prop where
  ended   : s.EndedTo z d
  vols    : z.vols = s.vols
  lines   : z.lines = s.lines
  regions : z.regions = s.regions
  levels  : (z.drive d).levels = (s.drive d).levels
  arrival : z.arrival = s.arrival

theorem State.Serving.overEnd (v : u.Serving d r x) (plain : r.isDeskWrite = false)
    (k : u = { s with mem := u.mem, channel := u.channel }) : s.Over (u.opEnd d) d ∧ (u.opEnd d).mem = u.mem := by
  have drive : u.drive d = s.drive d := by
    rw [k]
    rfl
  have left : u.left d = s.left d := by rw [State.left, drive, ← State.left]
  obtain ⟨granted, idle, gate, cleared, queue, others⟩ := v.opEnd_ended
  refine ⟨⟨⟨granted, idle, gate, cleared, queue.trans left, ?_, ?_, ?_⟩, ?_, ?_, ?_, ?_, ?_⟩, by rw [v.opEnd_rest]⟩
  · exact fun e ne => (others.drives e ne).trans (by rw [k]; rfl)
  · exact fun e ne => (others.regions e ne).trans (by rw [k]; rfl)
  · exact fun e ne => (others.vols e ne).trans (by rw [k]; rfl)
  · exact (v.opEnd_vols plain).trans (by rw [k])
  · exact v.opEnd_lines.trans (by rw [k])
  · exact v.opEnd_regions.trans (by rw [k])
  · rw [v.opEnd_drive]
    show (u.drive d).levels = _
    rw [drive]
  · rw [v.opEnd_rest]
    show u.arrival = _
    rw [k]

theorem State.Serving.over (v : u.Serving d r x) (plain : r.isDeskWrite = false) (k : s.Read u) (n : Nat) :
    s.Over ((u.countFailed n).opEnd d) d ∧ ((u.countFailed n).opEnd d).mem = u.mem
      ∧ ((u.countFailed n).opEnd d).channel.failed = min 65535 (s.channel.failed + n) := by
  have w : (u.countFailed n).Serving d r x := v.modChannel rfl rfl
  have rest : u.countFailed n = { s with mem := (u.countFailed n).mem, channel := (u.countFailed n).channel } := by
    rw [State.countFailed, State.modChannel, k.rest]
  obtain ⟨ended, mem⟩ := w.overEnd plain rest
  refine ⟨ended, mem, ?_⟩
  rw [w.opEnd_channel, ← k.failed]
  rfl

theorem State.Over.vol (k : s.Over z d) : z.vol d = s.vol d := congrArg (fun x : Vector Volume 4 => x.get d) k.vols

/-! ### The label (R114, R115) -/

/-- A label that was not read, or is not supported, makes the volume FOREIGN. -/
theorem State.Over.foreign (k : s.Over z d) (f : Volume → Volume) : s.EndedTo (z.modVol d f) d ∧ (z.modVol d f).vol d = f (s.vol d)
    ∧ (z.modVol d f).regions = s.regions ∧ (z.modVol d f).lines = s.lines ∧ (z.modVol d f).mem = z.mem :=
  ⟨k.ended.modVol f, by rw [State.vol_modVol_self, k.vol], k.regions, k.lines, rfl⟩

/-- A supported label: its profile stands and the index-load FILLs are offered (R115, R116). -/
theorem State.Over.labelled (k : s.Over z d) (none : ∀ x ∈ s.left d, x.origin ≠ .volume) (f : Volume → Volume) (p : Profile) :
    ∃ x t, (z.modVol d f).offerLoads d p = t
      ∧ t.channel.granted = Option.none ∧ t.channel.state = .idle ∧ t.op d = Option.none ∧ t.vol d = f (s.vol d)
      ∧ x.VolumePlaced .indexLoad 1 0 p.read s.arrival ∧ x.wanted = (List.range (min p.spt p.used)).map (· + 1)
      ∧ (p.used ≤ p.spt → (t.drive d).queue = s.left d ++ [x])
      ∧ (p.spt < p.used → ∃ y, (t.drive d).queue = s.left d ++ [x, y]
          ∧ y.VolumePlaced .indexLoad 1 1 p.read ((s.arrival + 1) % 65536)
          ∧ y.wanted = (List.range (min p.spt (p.used - p.spt))).map (· + 1))
      ∧ s.OthersKept t d ∧ t.regions = s.regions ∧ t.lines = s.lines ∧ t.mem = z.mem := by
  obtain ⟨granted, idle, gate, cleared, queue, others⟩ := k.ended
  have places : ((s.left d).filter fun x => x.origin == .volume) = [] :=
    List.filter_eq_nil_iff.mpr fun x mem => by simpa using none x mem
  let a : Request := { loadRequest p 0 with arrival := z.arrival }
  let v := (z.modVol d f).place d (loadRequest p 0)
  have vdrive : v.drive d = { z.drive d with queue := s.left d ++ [a] } := by
    rw [State.place_drive]
    show { z.drive d with queue := (z.drive d).queue ++ [a] } = _
    rw [queue]
  have placed : (z.modVol d f).placeVolume d (loadRequest p 0) = v := if_pos (by
    show decide (((z.drive d).queue.filter fun x => x.origin == .volume).length < 2) = true
    rw [queue, places]
    rfl)
  have free : (v.drive d).volumeFree = true := by
    show decide (((v.drive d).queue.filter fun x => x.origin == .volume).length < 2) = true
    rw [vdrive, List.filter_append, places]
    rfl
  have within : z.Within ((z.modVol d f).offerLoads d p) d := ((State.Within.refl z d).modVol f).offerLoads p
  have kept : s.OthersKept ((z.modVol d f).offerLoads d p) d :=
    ⟨fun e ne => (within.others.drives e ne).trans (others.drives e ne), fun e ne => (within.others.regions e ne).trans (others.regions e ne),
      fun e ne => (within.others.vols e ne).trans (others.vols e ne)⟩
  have wanted : a.wanted = (List.range (min p.spt p.used)).map (· + 1) := by
    show (List.range (min p.spt (p.used - 0 * p.spt))).map (· + 1) = _
    rw [Nat.zero_mul, Nat.sub_zero]
  have named : a.VolumePlaced .indexLoad 1 0 p.read s.arrival := ⟨rfl, rfl, rfl, rfl, rfl, rfl, rfl, k.arrival⟩
  have vol : v.vol d = f (s.vol d) := by rw [State.place_vol, State.vol_modVol_self, k.vol]
  by_cases one : p.used ≤ p.spt
  · have ran : (z.modVol d f).offerLoads d p = v := (if_pos one).trans placed
    rw [ran] at kept
    exact ⟨a, v, ran, granted, idle, cleared, vol, named, wanted, fun _ => by rw [vdrive], fun more => absurd one (by omega), kept,
      k.regions, k.lines, rfl⟩
  · let b : Request := { loadRequest p 1 with arrival := v.arrival }
    have ran : (z.modVol d f).offerLoads d p = v.place d (loadRequest p 1) := by
      refine (if_neg one).trans ?_
      rw [placed]
      exact if_pos free
    rw [ran] at kept
    refine ⟨a, _, ran, granted, idle, cleared, vol, named, wanted, fun few => absurd few one, fun _ => ⟨b, ?_, ?_, ?_⟩, kept, k.regions,
      k.lines, rfl⟩
    · rw [State.place_drive, vdrive]
      show (s.left d ++ [a]) ++ [b] = _
      rw [List.append_assoc]
      rfl
    · refine ⟨rfl, rfl, rfl, rfl, rfl, rfl, rfl, ?_⟩
      show nextNumber z.arrival = _
      rw [k.arrival]
      rfl
    · show (List.range (min p.spt (p.used - 1 * p.spt))).map (· + 1) = _
      rw [Nat.one_mul]

/-! ### The index (R116 to R118) -/

/-- The volume with the sectors of an index-load FILL taken, those that `ok` names as read. -/
def Volume.loaded (v : Volume) (p : Profile) (r : Request) (ok : Nat → Bool) : Volume :=
  r.wanted.foldl (fun v w => v.takeSector p (ok w) (r.head * p.spt + (w - 1))) v

theorem Volume.loadSector_rest (v : Volume) (p : Profile) (j : Nat) (f : Nat → Entry) :
    ∃ es, v.loadSector p j f = { v with entries := es } := by
  unfold Volume.loadSector
  exact ⟨_, rfl⟩

theorem Volume.takeSector_rest (v : Volume) (p : Profile) (ok : Bool) (j : Nat) : v.takeSector p ok j
    = { v with entries := (v.takeSector p ok j).entries, inconsistent := (v.takeSector p ok j).inconsistent } := by
  obtain ⟨es, b, e⟩ : ∃ es b, v.takeSector p ok j = { v with entries := es, inconsistent := b } := by
    unfold Volume.takeSector
    split
    next bytes _ =>
      obtain ⟨es, e⟩ := v.loadSector_rest p j fun i => decodeEntry (slice bytes (32 * i) 32)
      exact ⟨es, _, e⟩
    · obtain ⟨es, e⟩ := v.loadSector_rest p j fun _ => unreadableEntry
      exact ⟨es, true, by rw [e]⟩
  rw [e]

theorem Volume.loaded_rest (v : Volume) (p : Profile) (r : Request) (ok : Nat → Bool) : v.loaded p r ok
    = { v with entries := (v.loaded p r ok).entries, inconsistent := (v.loaded p r ok).inconsistent } := by
  refine List.foldlRecOn (motive := fun x : Volume => x = { v with entries := x.entries, inconsistent := x.inconsistent }) r.wanted _ rfl
    fun x k w _ => ?_
  refine (x.takeSector_rest ..).trans ?_
  rw [k]

theorem Volume.loadSector_entry (v : Volume) (p : Profile) (j : Nat) (f : Nat → Entry) {n : Nat} (few : n < 256) :
    (v.loadSector p j f).entry n = if n / p.perSector = j then f (n % p.perSector) else v.entry n := by
  have at_n : v.entries.get ⟨n, few⟩ = v.entry n := by
    simp [Volume.entry, Vector.getD, Vector.get, few]
  rw [← at_n, Volume.entry, Volume.loadSector]
  simp [Vector.getD, few]

/-- The entry of a sector read, as its staging area holds it (R116 item 1). -/
theorem Volume.takeSector_entry {v : Volume} {p : Profile} {j n : Nat} {bytes : List Byte} (few : n < 256)
    (held : areaGet v.staging (n / p.perSector) = some bytes) : (v.takeSector p true j).entry n
      = if n / p.perSector = j then decodeEntry (slice bytes (32 * (n % p.perSector)) 32) else v.entry n := by
  unfold Volume.takeSector
  by_cases here : n / p.perSector = j
  · rw [if_pos here]
    rw [here] at held
    simp only [held]
    rw [Volume.loadSector_entry _ _ _ _ few, if_pos here]
  · rw [if_neg here]
    cases area : areaGet v.staging j with
    | some bytes =>
      dsimp only
      rw [Volume.loadSector_entry _ _ _ _ few, if_neg here]
    | none =>
      have other := (Volume.loadSector_entry v p j (fun _ => unreadableEntry) few).trans (if_neg here)
      dsimp only
      generalize v.loadSector p j (fun _ => unreadableEntry) = x at other ⊢
      exact other

theorem Volume.loaded_entry {v : Volume} {p : Profile} {r : Request} {n w : Nat} {bytes : List Byte} (few : n < 256) (wanted : w ∈ r.wanted)
    (sector : n / p.perSector = r.head * p.spt + (w - 1)) (held : areaGet v.staging (n / p.perSector) = some bytes) :
    (v.loaded p r fun _ => true).entry n = decodeEntry (slice bytes (32 * (n % p.perSector)) 32) := by
  have staged (x : Volume) (j : Nat) : (x.takeSector p true j).staging = x.staging := by rw [x.takeSector_rest]
  obtain ⟨before, after, split⟩ := List.append_of_mem wanted
  have kept : ((before.foldl (fun v w => v.takeSector p true (r.head * p.spt + (w - 1))) v).staging) = v.staging :=
    List.foldlRecOn (motive := fun x : Volume => x.staging = v.staging) before _ rfl fun x k w _ => (staged x _).trans k
  rw [Volume.loaded, split, List.foldl_append, List.foldl_cons]
  refine (List.foldlRecOn (motive := fun x : Volume => x.staging = v.staging ∧ x.entry n = decodeEntry (slice bytes (32 * (n % p.perSector)) 32)) after _
    ⟨(staged _ _).trans kept, ?_⟩ fun x k w _ => ⟨(staged x _).trans k.1, ?_⟩).2
  · rw [Volume.takeSector_entry few (by rw [kept]; exact held), if_pos sector]
  · rw [Volume.takeSector_entry few (by rw [k.1]; exact held)]
    split
    · rfl
    · exact k.2

/-- The sectors recorded GOOD. -/
theorem goodSectors_contains (notes : List SectorNote) {w : Nat} (low : 1 ≤ w) :
    (goodSectors notes).contains w = decide (notes[w - 1]? = some .good) := by
  rw [Bool.eq_iff_iff, List.contains_iff_mem, decide_eq_true_iff, goodSectors, List.mem_map]
  constructor
  · rintro ⟨i, mem, rfl⟩
    obtain ⟨-, good⟩ := List.mem_filter.mp mem
    rw [Nat.add_sub_cancel]
    have iff := note_good_iff notes (i + 1) .unrecorded (by decide)
    rw [Nat.add_sub_cancel] at iff
    exact iff.mp (by simpa using good)
  · intro good
    obtain ⟨lt, -⟩ := List.getElem?_eq_some_iff.mp good
    refine ⟨w - 1, List.mem_filter.mpr ⟨List.mem_range.mpr lt, ?_⟩, Nat.sub_add_cancel low⟩
    have iff := note_good_iff notes w .unrecorded (by decide)
    simpa using iff.mpr good

/-- An index-load FILL that leaves the queue with another there. -/
theorem State.Over.loads (k : s.Over z d) (profile : (s.vol d).profile = some p) (good : List Nat)
    (more : ∃ x ∈ s.left d, x.kind = .indexLoad) : ∃ t, z.loadDone d r good = t ∧ s.EndedTo t d
      ∧ t.vol d = (s.vol d).loaded p r good.contains ∧ t.lines = s.lines ∧ t.regions = s.regions ∧ t.mem = z.mem
      ∧ t.channel = z.channel := by
  obtain ⟨ended, vol, regions, lines, mem⟩ := k.foreign fun v => v.loaded p r good.contains
  have queue : (z.drive d).queue = s.left d := k.ended.2.2.2.2.1
  refine ⟨z.modVol d fun v => v.loaded p r good.contains, ?_, ended, vol, lines, regions, mem, rfl⟩
  unfold State.loadDone
  rw [k.vol, profile]
  refine if_pos ?_
  obtain ⟨x, mem, kind⟩ := more
  show ((z.drive d).queue.any fun r => r.kind.isIndexLoad) = true
  rw [queue]
  exact List.any_eq_true.mpr ⟨x, mem, by rw [kind]; rfl⟩

/-- The last index-load FILL ends the mount (R117, R118). -/
theorem State.Over.mounts (k : s.Over z d) (profile : (s.vol d).profile = some p) (good : List Nat)
    (last : ¬ ∃ x ∈ s.left d, x.kind = .indexLoad) : ∃ t, z.loadDone d r good = t ∧ s.EndedTo t d
      ∧ t.vol d = ((s.vol d).loaded p r good.contains).mountEnd p ∧ t.region d = (s.region d).openFor p ∧ t.lines = s.lines
      ∧ t.mem = z.mem ∧ t.channel = z.channel := by
  obtain ⟨ended, vol, regions, lines, mem⟩ := k.foreign fun v => v.loaded p r good.contains
  have queue : (z.drive d).queue = s.left d := k.ended.2.2.2.2.1
  refine ⟨((z.modVol d fun v => v.loaded p r good.contains).modVol d fun v => v.mountEnd p).modRegion d fun g => g.openFor p, ?_,
    (ended.modVol _).modRegion _, ?_, ?_, lines, mem, rfl⟩
  · unfold State.loadDone
    rw [k.vol, profile]
    refine (if_neg ?_).trans ?_
    · show ¬ ((z.drive d).queue.any fun r => r.kind.isIndexLoad) = true
      rw [queue, List.any_eq_true]
      rintro ⟨x, mem, load⟩
      refine last ⟨x, mem, ?_⟩
      cases kind : x.kind <;> simp [kind, ReqKind.isIndexLoad] at load
      rfl
    · have same : ((z.modVol d fun v => v.loaded p r good.contains).vol d).profile = some p := by
        rw [vol, Volume.loaded_rest]
        exact profile
      show (match ((z.modVol d fun v => v.loaded p r good.contains).vol d).profile with
        | some p => _
        | none => _) = _
      rw [same] <;> rfl
  · show ((z.modVol d fun v => v.loaded p r good.contains).modVol d fun v => v.mountEnd p).vol d = _
    rw [State.vol_modVol_self, vol]
  · rw [State.region_modRegion_self]
    exact congrArg (fun x : Vector Region 4 => (x.get d).openFor p) k.regions

/-- An index-load FILL leaves the queue (R116 to R118). -/
theorem State.Over.loadDone (k : s.Over z d) (profile : (s.vol d).profile = some p) (good : List Nat) :
    s.EndedTo (z.loadDone d r good) d ∧ (z.loadDone d r good).lines = s.lines ∧ (z.loadDone d r good).mem = z.mem
      ∧ (z.loadDone d r good).channel = z.channel
      ∧ ((∃ x ∈ s.left d, x.kind = .indexLoad) → (z.loadDone d r good).vol d = (s.vol d).loaded p r good.contains
          ∧ (z.loadDone d r good).regions = s.regions)
      ∧ ((¬ ∃ x ∈ s.left d, x.kind = .indexLoad) → (z.loadDone d r good).vol d = ((s.vol d).loaded p r good.contains).mountEnd p
          ∧ (z.loadDone d r good).region d = (s.region d).openFor p) := by
  by_cases more : ∃ x ∈ s.left d, x.kind = .indexLoad
  · obtain ⟨_, rfl, ended, vol, lines, regions, mem, channel⟩ := k.loads (r := r) profile good more
    exact ⟨ended, lines, mem, channel, fun _ => ⟨vol, regions⟩, fun last => absurd more last⟩
  · obtain ⟨_, rfl, ended, vol, region, lines, mem, channel⟩ := k.mounts (r := r) profile good more
    exact ⟨ended, lines, mem, channel, fun on => absurd on more, fun _ => ⟨vol, region⟩⟩

/-- An unsupported label (R115). -/
theorem State.Over.unsupported (k : s.Over z d) {bytes : List Byte}
    (bad : quantize (decodeLabel bytes) (s.drive d).levels.twoSided = none) : z.labelDone d (some bytes) = z.modVol d fun v =>
      ({ v with label := some (decodeLabel bytes).info, wpAtDecode := (s.drive d).levels.writeProtect } : Volume).toForeign .unsupported := by
  unfold State.labelDone
  simp only [k.levels, bad]

/-- A supported label (R115). -/
theorem State.Over.supported (k : s.Over z d) {bytes : List Byte} {q : Quantized}
    (good : quantize (decodeLabel bytes) (s.drive d).levels.twoSided = some q) : z.labelDone d (some bytes) = (z.modVol d fun v =>
      v.labelled (decodeLabel bytes) q (s.drive d).levels.writeProtect).offerLoads d q.profile := by
  unfold State.labelDone
  simp only [k.levels, good]

end

end Sys2Proof.Machine
end

section
/-! The settlement of the statement on the fills (sections 3.3 to 3.5, 5.4 and 6.3). -/
namespace Sys2Proof.Machine

section
variable {s u w : State} {d : DriveId} {r : Request} {o q x : OpRecord} {c i k : Nat} {f : IdField} {p : Profile}

/-! ### What the channel does for a fill -/

theorem State.Alike.read (a : s.Alike u d) : s.Read u := .of_noted a.noted

theorem State.Alike.mem (a : s.Alike u d) : u.mem = s.mem := by
  obtain ⟨_, _, _, rfl⟩ := a.noted
  rfl

theorem State.Alike.vol (a : s.Alike u d) (e : DriveId) : u.vol e = s.vol e := by
  obtain ⟨_, _, _, rfl⟩ := a.noted
  rfl

theorem ReqKind.isFill_of_fill (kind : r.kind = .fill i) : r.kind.isFill = true := by rw [kind]; rfl

theorem State.Seeking.fillId (v : s.Seeking d r o c) (fill : r.kind.isFill = true) (n : r.NamedBy f c k) :
    s.idMark f = (s.setOp d (some { o with wrong := 0 })).namedId d r { o with wrong := 0 } k := by
  obtain ⟨format, sweep, -⟩ := Request.fill_plain fill
  have look := State.searching_of_plain v.gate v.pulses v.wrong format sweep
  rw [v.toServing.idMark v.awaiting n.accepted.1, v.toServing.idField_named look v.cylinder n]

/-- The ID field that began the pass ends it (R52, R53). -/
theorem State.namedId_closes (fill : r.kind.isFill = true) (pass : q.inPass = true) (first : q.passStart = some k) :
    w.namedId d r q k = w.endPass d r q := by
  rw [State.namedId_fill fill, if_pos pass, State.passId_closes first]

/-- A pass that has read every wanted sector good ends the fill. -/
theorem State.Seeking.closes (v : s.Seeking d r o c) (fill : r.kind.isFill = true) (n : r.NamedBy f c k) (pass : o.inPass = true)
    (first : o.passStart = some k) (clear : (o.closePass r.wanted).failing = []) :
    ∃ u x, exec (.idFieldAccepted f) s = .next (u.fillEnd d r { o.closePass r.wanted with wrong := 0 }) ∧ s.Alike u d ∧ u.Serving d r x := by
  refine ⟨s.setOp d (some { o with wrong := 0 }), _, congrArg Host.Outcome.next ?_, (State.Alike.refl s d).setOp _, v.toServing.setOp _⟩
  refine (v.fillId fill n).trans ((State.namedId_closes (q := { o with wrong := 0 }) fill pass first).trans ?_)
  exact State.endPass_ends (o := { o with wrong := 0 }) clear

theorem State.fillEnd_label (kind : r.kind = .labelRead) : u.fillEnd d r o
    = ((u.countFailed o.failing.length).opEnd d).labelDone d
        (if o.notes[0]? = some .good then areaGet (u.vol d).labelArea 1 else none) := by
  unfold State.fillEnd
  rw [kind]
  have iff := note_good_iff o.notes 1 .unrecorded (by decide)
  simp only [Nat.sub_self] at iff
  by_cases good : o.notes[0]? = some .good
  · rw [if_pos good]
    dsimp only
    rw [if_pos (iff.mpr good)]
  · rw [if_neg good]
    dsimp only
    rw [if_neg (mt iff.mp good)]

theorem State.fillEnd_load (kind : r.kind = .indexLoad) : u.fillEnd d r o
    = ((u.countFailed o.failing.length).opEnd d).loadDone d r (goodSectors o.notes) := by
  unfold State.fillEnd
  rw [kind]

theorem Request.fill_notDesk (fill : r.kind.isFill = true) : r.isDeskWrite = false := by
  cases kind : r.kind <;> simp [kind, ReqKind.isFill] at fill <;> simp [Request.isDeskWrite, kind]

/-- Where the operation of a fill of a mount ends. -/
theorem State.Alike.over (a : s.Alike u d) (v : u.Serving d r x) (fill : r.kind.isFill = true) (n : Nat) :
    s.Over ((u.countFailed n).opEnd d) d ∧ ((u.countFailed n).opEnd d).mem = s.mem
      ∧ ((u.countFailed n).opEnd d).channel.failed = min 65535 (s.channel.failed + n) := by
  obtain ⟨ended, mem, failed⟩ := v.over (Request.fill_notDesk fill) a.read n
  exact ⟨ended, mem.trans a.mem, failed⟩

/-- The conditions after a pass. -/
theorem closePass_notes_good (o : OpRecord) (wanted : List Nat) (j : Nat) :
    (o.closePass wanted).notes[j]? = some .good ↔ o.notes[j]? = some .good := by
  rw [OpRecord.closePass_eq, List.getElem?_map]
  cases e : o.notes[j]? with
  | none => simp
  | some n => cases n <;> simp

theorem Volume.loaded_congr (v : Volume) (p : Profile) {ok ok' : Nat → Bool} (same : ∀ w ∈ r.wanted, ok w = ok' w) :
    v.loaded p r ok = v.loaded p r ok' := by
  unfold Volume.loaded
  generalize r.wanted = ws at same
  induction ws generalizing v with
  | nil => rfl
  | cons y ys ih =>
    rw [List.foldl_cons, List.foldl_cons, same y (List.mem_cons_self ..)]
    exact ih _ fun w mem => same w (List.mem_cons_of_mem _ mem)

theorem Volume.mountEnd_state (v : Volume) (p : Profile) : (v.mountEnd p).state = .mounted ∨ (v.mountEnd p).state = .readOnly := by
  unfold Volume.mountEnd
  dsimp only
  split
  · exact .inr rfl
  · exact .inl rfl

/-! ### The margin records (R61) -/

theorem State.margin_congr {t : State} (outer : t.channel.outer = u.channel.outer) (inner : t.channel.inner = u.channel.inner)
    (e : DriveId) (z : Zone) : t.margin e z = u.margin e z := by
  cases z <;> simp only [State.margin, outer, inner]

theorem State.labelDone_channel (s : State) (d : DriveId) (data : Option (List Byte)) : (s.labelDone d data).channel = s.channel := by
  unfold State.labelDone State.offerLoads State.placeVolume
  dsimp only
  (repeat' split) <;> rfl

theorem State.loadDone_channel (s : State) (d : DriveId) (r : Request) (good : List Nat) : (s.loadDone d r good).channel = s.channel := by
  unfold State.loadDone State.tryMountEnd
  (repeat' split) <;> rfl

theorem State.Serving.fillEnd_margin (v : u.Serving d r x) (fill : r.kind.isFill = true) (o : OpRecord) (e : DriveId) (z : Zone) :
    (u.fillEnd d r o).margin e z = u.margin e z := by
  have over_ : ((u.countFailed o.failing.length).opEnd d).margin e z = u.margin e z := by
    have w : (u.countFailed o.failing.length).Serving d r x := v.modChannel rfl rfl
    exact State.margin_congr (by rw [w.opEnd_channel]; rfl) (by rw [w.opEnd_channel]; rfl) e z
  cases kind : r.kind <;> simp [kind, ReqKind.isFill] at fill
  case fill i =>
    have channel := (v.fillEnds (.of_noted (.refl u)) kind o).2.2
    exact State.margin_congr (by rw [channel]) (by rw [channel]) e z
  case labelRead =>
    rw [State.fillEnd_label kind]
    exact (State.margin_congr (by rw [State.labelDone_channel]) (by rw [State.labelDone_channel]) e z).trans over_
  case indexLoad =>
    rw [State.fillEnd_load kind]
    exact (State.margin_congr (by rw [State.loadDone_channel]) (by rw [State.loadDone_channel]) e z).trans over_

/-- The record of a fill with sector `k` read good. -/
def OpRecord.readGood (o : OpRecord) (k : Nat) : OpRecord :=
  { o with awaiting := none, notes := o.notes.set (k - 1) .good, failing := o.failing.filter (· != k),
           recovered := if o.step.recovers then o.recovered ++ [k] else o.recovered }

/-- The state in which the good data of sector `k` stand, before what they teach. -/
def State.filled (s : State) (d : DriveId) (r : Request) (o : OpRecord) (k : Nat) (data : List Byte) : State :=
  (s.putFill d r k data).setOp d (some (o.readGood k))

theorem State.putFill_rest (s : State) (d : DriveId) (r : Request) (k : Nat) (data : List Byte) :
    s.putFill d r k data = { s with mem := (s.putFill d r k data).mem, vols := (s.putFill d r k data).vols } := by
  unfold State.putFill
  split <;> rfl

theorem State.putFill_setOp (s : State) (d : DriveId) (r : Request) (k : Nat) (data : List Byte) (x : Option OpRecord) :
    (s.setOp d x).putFill d r k data = (s.putFill d r k data).setOp d x := by
  unfold State.putFill
  split <;> rfl

theorem State.Serving.filled (v : s.Serving d r o) (k : Nat) (data : List Byte) : (s.filled d r o k data).Serving d r (o.readGood k) := by
  have rest := s.putFill_rest d r k data
  refine State.Serving.setOp (o := o) ?_ _
  rw [rest]
  exact ⟨v.granted, v.selected, v.record⟩

theorem State.filled_margin (s : State) (d : DriveId) (r : Request) (o : OpRecord) (k : Nat) (data : List Byte) (e : DriveId) (z : Zone) :
    (s.filled d r o k data).margin e z = s.margin e z := by
  have rest := s.putFill_rest d r k data
  unfold State.filled
  rw [rest]
  rfl

/-- A good data field of a fill: stored, and after the pass counted and taught (R52, R53, R61). -/
theorem State.Awaiting.readGood (v : s.Awaiting d r o k) (fill : r.kind.isFill = true) {f : DataField} (good : r.GoodData f) :
    exec (.dataFieldRead f) s = .next (if o.inPass then s.filled d r o k f.bytes
      else if (o.readGood k).failing.isEmpty then ((s.filled d r o k f.bytes).lesson d r (o.readGood k)).fillEnd d r (o.readGood k)
      else ((s.filled d r o k f.bytes).lesson d r (o.readGood k)).chanState .search) := by
  have look := State.searching_of_plain v.gate v.pulses v.wrong (Request.fill_plain fill).1 (Request.fill_plain fill).2.1
  refine congrArg Host.Outcome.next ?_
  rw [v.toServing.dataField v.awaiting look good.1, if_pos good.2, State.dataResult_good fill]
  have stored : ((s.setOp d (some { o with awaiting := none })).putFill d r k f.bytes).setOp d (some (o.readGood k))
      = s.filled d r o k f.bytes := by
    rw [State.putFill_setOp, State.setOp_setOp, State.filled]
  show (if o.inPass then ((s.setOp d (some { o with awaiting := none })).putFill d r k f.bytes).setOp d (some (o.readGood k))
    else if (o.readGood k).failing.isEmpty then
      ((((s.setOp d (some { o with awaiting := none })).putFill d r k f.bytes).setOp d (some (o.readGood k))).lesson d r (o.readGood k)).fillEnd
        d r (o.readGood k)
    else ((((s.setOp d (some { o with awaiting := none })).putFill d r k f.bytes).setOp d (some (o.readGood k))).lesson d r
      (o.readGood k)).chanState .search) = _
  rw [stored]

/-- What a good data field at step 2 teaches. -/
theorem State.lesson_taught (fill : r.kind.isFill = true) (two : o.step = .two) (k : Nat) (data : List Byte) :
    s.Taught ((s.filled d r o k data).lesson d r (o.readGood k)) d o := by
  have teaches : r.kind.teaches = true := by
    cases kind : r.kind <;> simp [kind, ReqKind.isFill] at fill <;> rfl
  obtain ⟨kept, rises, wins⟩ := State.learn_taught (s := s.filled d r o k data) (d := d) (o := o.readGood k) two teaches
  have before := s.filled_margin d r o k data
  refine ⟨fun e z other => ?_, fun new other few => ?_, fun new other many => ?_⟩
  · rw [State.lesson_margin, ← before]
    exact kept e z (by rw [before]; exact other)
  · rw [State.lesson_margin, ← before]
    exact rises new (by rw [before]; exact other) (by rw [before]; exact few)
  · rw [State.lesson_margin]
    exact wins new (by rw [before]; exact other) (by rw [before]; exact many)

theorem State.Taught.of_margins {t : State} (k : s.Taught u d o) (same : ∀ e z, t.margin e z = u.margin e z) : s.Taught t d o := by
  obtain ⟨kept, rises, wins⟩ := k
  refine ⟨fun e z other => (same e z).trans (kept e z other), fun new other few => ?_, fun new other many => ?_⟩
  · rw [same]
    exact rises new other few
  · rw [same]
    exact wins new other many

/-- The record when the second pulse ends the attempt: a field awaited has failed (R9). -/
theorem OpRecord.afterCut (o : OpRecord) : ∃ cut : OpRecord, (o.awaiting = none → cut = o)
    ∧ (∀ k, o.awaiting = some k → cut = { o with awaiting := none, notes := failedNotes o.notes k })
    ∧ cut.inPass = o.inPass ∧ cut.step = o.step ∧ cut.failing = o.failing
    ∧ ∀ j : Nat, cut.notes[j]? = some SectorNote.good ↔ o.notes[j]? = some SectorNote.good := by
  cases awaiting : o.awaiting with
  | none => exact ⟨o, fun _ => rfl, nofun, rfl, rfl, rfl, fun _ => Iff.rfl⟩
  | some k => exact ⟨{ o with awaiting := none, notes := failedNotes o.notes k }, nofun, fun _ same => Option.some.inj same ▸ rfl, rfl, rfl,
      rfl, failedNotes_good o.notes k⟩

section
variable (v : s.Seeking d r o c) (fill : r.kind.isFill = true) (one : o.wrong = 1) (accepted : IdAccepted f) (fits : r.FitsId f)
  (away : f.cylinder.toNat ≠ c) (writes : o.writes = 0) (state : s.channel.state ≠ .writeCheck)
include v fill one accepted fits away writes state

/-- The second accepted ID field of another cylinder (R48, R53, R69). -/
theorem State.Seeking.strays : ∃ u, u.Serving d r { o with wrong := 2 } ∧ s.Noted u
    ∧ u.channel.seekFaults = min 65535 (s.channel.seekFaults + 1)
    ∧ s.idMark f = if o.step = .three then u.seekFailed d r
        else if o.inPass then
          if (o.closePass r.wanted).failing.isEmpty then u.fillEnd d r { o.closePass r.wanted with wrong := 2 }
          else u.releaseStep3 d { o.closePass r.wanted with wrong := 2 }
        else u.releaseStep3 d { o with wrong := 2 } := by
  have look := State.searching_of_plain v.gate v.pulses v.wrong (Request.fill_plain fill).1 (Request.fill_plain fill).2.1
  refine ⟨(s.setOp d (some { o with wrong := 2 })).modChannel fun c => { c with seekFaults := bump c.seekFaults },
    (v.toServing.setOp _).modChannel rfl rfl, (State.Noted.refl s).setOp d _ |>.seekFaults _, rfl, ?_⟩
  refine (v.idMark_stray look one accepted fits away).trans (State.seekFault_fill (o := { o with wrong := 2 }) fill ?_)
  rintro (check | written)
  exacts [state check, by simp [writes] at written]

/-- A fill ends by a seek fault in step 3 (R53, R69). -/
theorem State.Seeking.seekFails (three : o.step = .three) :
    ∃ u, exec (.idFieldAccepted f) s = .next (u.seekFailed d r) ∧ u.Serving d r { o with wrong := 2 } ∧ s.Noted u
      ∧ u.channel.seekFaults = min 65535 (s.channel.seekFaults + 1) := by
  obtain ⟨u, served, noted, counted, ran⟩ := v.strays fill one accepted fits away writes state
  exact ⟨u, congrArg Host.Outcome.next (ran.trans (if_pos three)), served, noted, counted⟩

end

end

end Sys2Proof.Machine
end

section
/-! The statement on the fills (sections 3.3 to 3.5, 5.4 and 6.3): a FILL of a frame, step by step, and the settlement. -/
namespace Sys2Proof.Machine

section
variable {s u w : State} {d : DriveId} {r : Request} {o q x : OpRecord} {c i k : Nat} {f : IdField}

/-! ### The end of the pass (R52, R53) -/

theorem State.Alike.passRetried (a : s.Alike w d) (first : q.step = .initial) (failing : (q.closePass r.wanted).failing ≠ []) :
    w.endPass d r q = s.startAttempt d r { q.closePass r.wanted with step := .one } .search none :=
  (State.endPass_retries failing first).trans (a.startAttempt ..)

theorem State.Alike.passEnded (a : s.Alike w d) (v : w.Serving d r x) (kind : r.kind = .fill i)
    (clear : (q.closePass r.wanted).failing = []) :
    s.FillEnds (w.endPass d r q) d r i (q.closePass r.wanted).notes q.recovered 0 ∧ (w.endPass d r q).mem = s.mem := by
  obtain ⟨ends, mem, -⟩ := v.fillEnds a.read kind (q.closePass r.wanted)
  have kept : (q.closePass r.wanted).recovered = q.recovered := by rw [OpRecord.closePass_eq]
  rw [clear, kept] at ends
  rw [State.endPass_ends clear]
  exact ⟨ends, mem.trans a.mem⟩

/-! ### An ID field that follows a data field awaited (R5) -/

theorem State.Awaiting.idMark_next (v : s.Awaiting d r o k) (fill : r.kind.isFill = true) (at_c : (s.drive d).pos.cylinder = some c) {j : Nat}
    (n : r.NamedBy f c j) : s.idMark f
      = ((s.missed d o k).setOp d (some { o with awaiting := none, notes := failedNotes o.notes k, wrong := 0 })).namedId d r
          { o with awaiting := none, notes := failedNotes o.notes k, wrong := 0 } j := by
  obtain ⟨format, sweep, -⟩ := Request.fill_plain fill
  have noted := (s.missed_alike d o k).noted
  have gate : (s.missed d o k).channel.gate = none := by
    obtain ⟨_, _, _, e⟩ := noted
    rw [e]
    exact v.gate
  have look := State.searching_of_plain (o := { o with awaiting := none, notes := failedNotes o.notes k }) gate v.pulses v.wrong format sweep
  have before : s.dataMissing = s.missed d o k :=
    (v.toServing.dataMissing v.awaiting (State.searching_of_plain v.gate v.pulses v.wrong format sweep)).trans (State.dataResult_missed fill k)
  have cylinder : ((s.missed d o k).drive d).pos.cylinder = some c := by
    rw [noted.drive]
    exact at_c
  have sync : afterSync f.sync = true := decide_eq_true n.accepted.1
  rw [State.idMark, if_pos sync, before,
    (v.toServing.missed k).idField_named look cylinder n]

/-! ### A good data field after the pass -/

theorem State.lesson_op (fill : r.kind.isFill = true) (k : Nat) (data : List Byte) :
    ((s.filled d r o k data).lesson d r (o.readGood k)).op d
      = some (if o.step = .two then (o.readGood k).taught (s.margin d o.zone) else o.readGood k) := by
  have own : ((s.filled d r o k data).countRecovered (o.readGood k)).op d = some (o.readGood k) := by
    rw [State.countRecovered_eq]
    exact State.op_setOp_self ..
  have margin : ((s.filled d r o k data).countRecovered (o.readGood k)).margin d o.zone = s.margin d o.zone := by
    rw [← s.filled_margin d r o k data]
    rw [State.countRecovered_eq]
    exact State.margin_congr rfl rfl ..
  have teaches : r.kind.teaches = true := by
    cases kind : r.kind <;> simp [kind, ReqKind.isFill] at fill <;> rfl
  by_cases two : o.step = .two
  · rw [if_pos two, State.lesson, State.learn]
    by_cases old : o.strobe ∈ o.learned
    · rw [if_neg fun h => h.2.2 old, own, OpRecord.taught, if_pos (show (o.readGood k).strobe ∈ (o.readGood k).learned from old)]
    · rw [if_pos ⟨two, teaches, old⟩, OpRecord.taught, if_neg (show (o.readGood k).strobe ∉ (o.readGood k).learned from old),
        show (o.readGood k).zone = o.zone from rfl, margin]
      exact State.op_setOp_self ..
  · rw [if_neg two, State.lesson, State.learn_not (o := o.readGood k) (.inl two), own]

theorem State.lesson_untaught (s : State) {d : DriveId} {r : Request} {o : OpRecord} (other : o.step ≠ .two) (k : Nat) (data : List Byte)
    (e : DriveId) (z : Zone) : ((s.filled d r o k data).lesson d r (o.readGood k)).margin e z = s.margin e z := by
  rw [State.lesson_margin, State.learn_not (o := o.readGood k) (.inl other), s.filled_margin]

theorem Request.GoodData.length {f : DataField} (good : r.GoodData f) : f.bytes.length = r.profile.bytes := by
  have whole := good.2
  unfold dataGood at whole
  simp only [Bool.and_eq_true, beq_iff_eq] at whole
  exact whole.1.2

theorem State.putFill_fill (kind : r.kind = .fill i) (k : Nat) (data : List Byte) :
    s.putFill d r k data = { s with mem := (s.putFill d r k data).mem } := by
  unfold State.putFill
  rw [kind] <;> rfl

/-- A good data field of a FILL changes the buffer memory, its record, the margin records and the count of reads recovered. -/
theorem State.lesson_read (s : State) {d : DriveId} {o : OpRecord} (kind : r.kind = .fill i) (k : Nat) (data : List Byte) :
    s.Read ((s.filled d r o k data).lesson d r (o.readGood k))
      ∧ ((s.filled d r o k data).lesson d r (o.readGood k)).mem = (s.putFill d r k data).mem
      ∧ ((s.filled d r o k data).lesson d r (o.readGood k)).channel.recovered
          = if o.step.recovers then min 65535 (s.channel.recovered + 1) else s.channel.recovered := by
  have base : s.filled d r o k data = { s with
      mem := (s.putFill d r k data).mem, channel := (s.setOp d (some (o.readGood k))).channel } := by
    rw [State.filled, State.putFill_fill kind]
    rfl
  rw [State.lesson_eq, base]
  exact ⟨⟨rfl, rfl⟩, rfl, rfl⟩

/-! ### A FILL that ends by a seek fault (R101) -/

theorem State.failReaders_rest (s : State) (rs : List Reader) (c : Cause) :
    s.failReaders rs c = { s with lines := (s.failReaders rs c).lines } :=
  State.foldl_keeps (fun t => t = { s with lines := t.lines }) (fun s (rd : Reader) => s.answer rd.line rd.buf (.failed c)) (fun t rd k => by
    rw [k]
    rfl) rs s rfl

theorem Region.unfilled_frame (g : Region) (j : Nat) (runs : g.state ≠ .closing) : (g.unfilled i).state = g.state
    ∧ (i < g.frames.length → (g.unfilled i).frame i = .empty) ∧ (j ≠ i → (g.unfilled i).frame j = g.frame j) := by
  have open_ : g.unfilled i = { g with frames := g.frames.set i .empty } := by
    unfold Region.unfilled
    split
    · contradiction
    · rfl
  rw [open_]
  refine ⟨rfl, fun lt => ?_, fun ne => ?_⟩ <;> simp only [Region.frame, List.getD_eq_getElem?_getD, List.getElem?_set]
  · simp [lt]
  · rw [if_neg ne.symm]

theorem State.Over.fillFailed (k : s.Over w d) (cause : Cause) : s.EndedTo (w.fillFailed d i cause) d
      ∧ (w.fillFailed d i cause).region d = (s.region d).unfilled i ∧ (w.fillFailed d i cause).mem = w.mem
      ∧ (w.fillFailed d i cause).channel = w.channel
      ∧ ∀ rd h, rd ∈ ((s.region d).frame i).readers → s.InProgress rd.line rd.buf h → h.reply = none →
          (w.fillFailed d i cause).hasReply rd.line rd.buf (.failed cause) := by
  have region : w.region d = s.region d := congrArg (fun x : Vector Region 4 => x.get d) k.regions
  have rest := (w.modRegion d fun g => g.unfilled i).failReaders_rest ((w.region d).frame i).readers cause
  obtain ⟨granted, idle, gate, cleared, queue, others⟩ := k.ended.modRegion fun g => g.unfilled i
  refine ⟨?_, ?_, ?_, ?_, fun rd h here waits unanswered => ?_⟩
  · rw [State.fillFailed, rest]
    exact ⟨granted, idle, gate, cleared, queue, others.drives, others.regions, others.vols⟩
  · rw [State.fillFailed, State.failReaders_region, State.region_modRegion_self, region]
  · rw [State.fillFailed, rest]
    rfl
  · rw [State.fillFailed, rest]
    rfl
  · obtain ⟨held, stage, orphan⟩ := waits
    exact State.failReaders_answers (by rw [region]; exact here) rfl rfl
      ((Lasting.settling rd.line rd.buf h (.failed cause)).lines (.inl ⟨held, stage, orphan, unanswered⟩) k.lines)

/-! ### The ladder of a FILL (R47 to R51) -/

/-- What the second pulse leaves of the record, the conditions apart. -/
theorem OpRecord.cut_eq {cut : OpRecord} (whole : o.awaiting = none → cut = o)
    (short : ∀ k, o.awaiting = some k → cut = { o with awaiting := none, notes := failedNotes o.notes k }) :
    ∃ notes, cut = { o with awaiting := none, notes := notes } := by
  cases awaiting : o.awaiting with
  | none => exact ⟨o.notes, (whole awaiting).trans (by rw [← awaiting])⟩
  | some k => exact ⟨_, short k awaiting⟩

theorem State.Alike.ladderNext_one (a : s.Alike w d) (one : q.step = .one) : w.ladderNext d r q
    = w.step2 d r { q with basePref := (s.margin d (zoneOf s.cfg.innerStart r.cylinder)).preferred } none := by
  have cfg : w.cfg = s.cfg := by
    obtain ⟨_, _, _, e⟩ := a.noted
    rw [e]
  unfold State.ladderNext
  rw [one]
  dsimp only
  rw [a.noted.margin, cfg]

theorem State.ladderNext_two (two : q.step = .two) : w.ladderNext d r q = w.step2 d r q (some q.strobe) := by
  unfold State.ladderNext
  rw [two]

theorem State.Alike.tries (a : s.Alike w d) {tried : Option Strobe} {y : Strobe} (next : s.nextStrobe q tried = some y) :
    w.step2 d r q tried = s.startAttempt d r { q with step := .two } .search (some y) := by
  refine (State.step2_tries ?_).trans (a.startAttempt ..)
  obtain ⟨_, _, _, e⟩ := a.noted
  rw [e]
  exact next

/-- Ladder step 3 of a fill (R50). -/
theorem State.Alike.gives (a : s.Alike w d) (v : w.Serving d r o) {tried : Option Strobe} (next : s.nextStrobe q tried = none) :
    s.GivenUp (w.step2 d r q tried) d r q := by
  have none' : w.nextStrobe q tried = none := by
    obtain ⟨_, _, _, e⟩ := a.noted
    rw [e]
    exact next
  rw [State.step2_gives none']
  exact (v.releaseStep3 a.noted q).1

end

/-- Settles O50. -/
theorem aFillEndsWithItsFrameValid : Obligations.AFillEndsWithItsFrameValid := by
  unfold Obligations.AFillEndsWithItsFrameValid
  refine ⟨fun s d r o c i k f readers granted selected record kind gate awaiting pass first pulses wrong fresh at_c sync good size sector
      low high head cyl wanted opened lt frame => ?_, fun s d r o c k f v pass first n wanted => ⟨fun bytes kind read held => ?_,
      fun p kind profile => ?_⟩, fun s d r o v gate pass three pulses => ⟨fun kind bad => ?_, fun p kind profile low last => ?_⟩,
    fun s d r o k f v kind pass two good => ?_, fun s d r o c f v three one accepted fits away writes state => ⟨fun kind => ?_, fun p kind profile => ?_⟩,
    fun s d r o i v kind gate writes state => ?_⟩
  · have v : s.Seeking d r o c := ⟨⟨granted, selected, record⟩, gate, awaiting, pulses, wrong, at_c⟩
    have n : r.NamedBy f c k := ⟨⟨sync, good⟩, ⟨size, by rw [sector]; exact low, by rw [sector]; exact high, head⟩, cyl, sector⟩
    have clear := OpRecord.closePass_clear fun w mem => (wanted w mem).2
    obtain ⟨u, x, ran, a, served⟩ := v.closes (ReqKind.isFill_of_fill kind) n pass first clear
    obtain ⟨⟨⟨granted, idle, -, cleared, queue, others⟩, -, valid, -, answers, ⟨vols, cw, cfg, -⟩⟩, mem, -⟩ := served.fillEnds a.read kind
      { o.closePass r.wanted with wrong := 0 }
    have mem := mem.trans a.mem
    obtain ⟨own, frames⟩ := valid (by rw [opened]; decide) lt
    refine ⟨_, ran, own.trans ?_, frames, fun rd h here want held stage orphan unanswered alone => ?_, granted, idle, cleared, queue, others, vols, cw, mem, cfg⟩
    · refine congrArg _ ?_
      show (List.map _ (o.closePass r.wanted).notes) = _
      rw [OpRecord.closePass_eq, List.map_map]
      exact List.map_congr_left fun n _ => by cases n <;> rfl
    · have noted : (o.closePass r.wanted).notes[rd.sector - 1]? = some .good :=
        (closePass_notes_good o r.wanted _).mpr (wanted _ want).2
      have replied := answers rd h (by rw [frame]; exact here) ⟨held, stage, orphan⟩ unanswered (by rw [frame]; exact alone)
      have plain : (({ o.closePass r.wanted with wrong := 0 } : OpRecord).recovered.contains rd.sector) = false := by
        show (o.closePass r.wanted).recovered.contains rd.sector = false
        rw [OpRecord.closePass_eq]
        show o.recovered.contains rd.sector = false
        rw [fresh]
        rfl
      have same : State.frameData (u.fillEnd d r { o.closePass r.wanted with wrong := 0 }) d i r.profile rd.sector
          = s.frameData d i r.profile rd.sector := by rw [State.frameData, mem]; rfl
      rw [plain, same] at replied
      have kind : (({ o.closePass r.wanted with wrong := 0 } : OpRecord).notes[rd.sector - 1]?).getD .absent = .good := by
        show ((o.closePass r.wanted).notes[rd.sector - 1]?).getD .absent = .good
        rw [noted]
        rfl
      rw [kind] at replied
      exact replied
  · have clear := OpRecord.closePass_clear fun w mem => (wanted w mem).2
    obtain ⟨u, x, ran, a, served⟩ := v.closes (by rw [kind]; rfl) n pass first clear
    obtain ⟨over_, mem, -⟩ := a.over served (by rw [kind]; rfl) (o.closePass r.wanted).failing.length
    have done := State.fillEnd_label (u := u) (d := d) (o := { o.closePass r.wanted with wrong := 0 }) kind
    rw [if_pos ((closePass_notes_good o r.wanted 0).mpr read), a.vol, held] at done
    rw [done] at ran
    refine ⟨fun bad => ?_, fun q supported alone => ?_⟩
    · obtain ⟨ended, vol, regions, lines, same⟩ := over_.foreign fun v => ({ v with
        label := some (decodeLabel bytes).info, wpAtDecode := (s.drive d).levels.writeProtect } : Volume).toForeign .unsupported
      refine ⟨_, ran.trans (congrArg _ (over_.unsupported bad)), ended, ?_, ?_, ?_, ?_, regions, lines, same.trans mem⟩ <;> rw [vol] <;> rfl
    · obtain ⟨y, t, offered, granted, idle, cleared, vol, placed, asked, one, two, others, regions, lines, same⟩ := over_.labelled alone
        (fun v => v.labelled (decodeLabel bytes) q (s.drive d).levels.writeProtect) q.profile
      exact ⟨t, ran.trans (congrArg _ ((over_.supported supported).trans offered)), granted, idle, cleared, vol,
        ⟨y, placed, asked, one, two⟩, others, regions, lines, same.trans mem⟩
  · have clear := OpRecord.closePass_clear fun w mem => (wanted w mem).2
    obtain ⟨u, x, ran, a, served⟩ := v.closes (by rw [kind]; rfl) n pass first clear
    obtain ⟨over_, mem, -⟩ := a.over served (by rw [kind]; rfl) (o.closePass r.wanted).failing.length
    have done := State.fillEnd_load (u := u) (d := d) (o := { o.closePass r.wanted with wrong := 0 }) kind
    rw [done] at ran
    obtain ⟨ended, lines, same, -, load, mounts⟩ := over_.loadDone (r := r) profile (goodSectors (o.closePass r.wanted).notes)
    have all : (s.vol d).loaded p r (goodSectors (o.closePass r.wanted).notes).contains = (s.vol d).loaded p r fun _ => true :=
      Volume.loaded_congr _ p fun w mem => by
        rw [goodSectors_contains _ (wanted w mem).1]
        exact decide_eq_true ((closePass_notes_good o r.wanted _).mpr (wanted w mem).2)
    rw [all] at load mounts
    refine ⟨_, ran, ended, lines, same.trans mem, fun more => ?_, fun last => ?_⟩
    · obtain ⟨vol, regions⟩ := load more
      refine ⟨regions, ?_, fun w n bytes mem few sector held => ?_⟩
      · rw [vol, Volume.loaded_rest]
      · rw [vol, Volume.loaded_entry few mem sector held]
    · obtain ⟨vol, region⟩ := mounts last
      refine ⟨vol, ?_, fun shut whole => ?_⟩
      · rw [vol]
        exact Volume.mountEnd_state ..
      · rw [region, Region.openFor, if_pos ⟨shut, whole⟩]
        exact ⟨rfl, rfl⟩
  · obtain ⟨cut, whole, short, same⟩ := o.afterCut
    obtain ⟨u, ran, a, served, -⟩ := v.attemptEnd_fill (by rw [kind]; rfl) gate pulses whole short
    obtain ⟨pass', step, failing, notes⟩ := same
    rw [if_neg (by rw [pass', pass]; decide), State.ladderNext_three (by rw [kind]; rfl) (step.trans three), State.fillEnd_label kind,
      if_neg fun good => bad ((notes _).mp good)] at ran
    obtain ⟨over_, mem, failed⟩ := a.over served (by rw [kind]; rfl) cut.failing.length
    obtain ⟨ended, vol, regions, lines, kept⟩ := over_.foreign fun v => v.toForeign .unreadable
    refine ⟨_, congrArg Host.Outcome.next ran, ended, ?_, ?_, ?_, ?_, regions, lines, kept.trans mem, ?_⟩
    iterate 4 exact (congrArg _ vol).trans rfl
    rw [← failing]
    exact failed
  · obtain ⟨cut, whole, short, same⟩ := o.afterCut
    obtain ⟨u, ran, a, served, -⟩ := v.attemptEnd_fill (by rw [kind]; rfl) gate pulses whole short
    obtain ⟨pass', step, failing, notes⟩ := same
    rw [if_neg (by rw [pass', pass]; decide), State.ladderNext_three (by rw [kind]; rfl) (step.trans three), State.fillEnd_load kind] at ran
    obtain ⟨over_, mem, failed⟩ := a.over served (by rw [kind]; rfl) cut.failing.length
    obtain ⟨ended, lines, same, channel, -, mounts⟩ := over_.loadDone (r := r) profile (goodSectors cut.notes)
    obtain ⟨vol, -⟩ := mounts fun ⟨x, mem, kind⟩ => last x mem kind
    refine ⟨_, congrArg Host.Outcome.next ran, ended, lines, same.trans mem, vol.trans ?_, ?_⟩
    · exact congrArg (Volume.mountEnd · p) (Volume.loaded_congr _ p fun w mem => by
        rw [goodSectors_contains _ (low w mem)]
        exact decide_eq_decide.mpr (notes _))
    · rw [channel, ← failing]
      exact failed
  · have fill : r.kind.isFill = true := by obtain kind | kind := kind <;> rw [kind] <;> rfl
    have plain : ∀ i, r.kind ≠ .fill i := by obtain kind | kind := kind <;> rw [kind] <;> exact fun i => nofun
    have ran := v.readGood fill good
    rw [if_neg (by rw [pass]; decide)] at ran
    have taught : s.Taught ((s.filled d r o k f.bytes).lesson d r (o.readGood k)) d o := State.lesson_taught fill two k f.bytes
    have mem : ((s.filled d r o k f.bytes).lesson d r (o.readGood k)).mem = s.mem := by
      rw [State.lesson_eq]
      exact s.putFill_mem d plain k f.bytes
    obtain ⟨y, served⟩ := (v.toServing.filled k f.bytes).lesson
    refine ⟨_, ran, ?_⟩
    split
    · exact ⟨taught.of_margins (served.fillEnd_margin fill _), (State.fillEnd_mem ..).trans mem⟩
    · exact ⟨taught.of_margins fun e z => State.margin_congr rfl rfl e z, mem⟩
  · obtain ⟨u, ran, served, noted, counted⟩ := v.seekFails (by rw [kind]; rfl) one accepted fits away writes state three
    have ends : u.seekFailed d r = (u.opEnd d).labelDone d none := by rw [State.seekFailed, kind]
    have rest := (State.Read.of_noted noted).rest
    obtain ⟨over_, mem⟩ := served.overEnd (by simp [Request.isDeskWrite, kind]) rest
    obtain ⟨ended, vol, regions, lines, kept⟩ := over_.foreign fun v => v.toForeign .unreadable
    refine ⟨_, ran.trans (congrArg _ ends), ended, ?_, ?_, ?_, ?_, regions, lines, (kept.trans mem).trans noted.mem, ?_⟩
    iterate 4 exact (congrArg _ vol).trans rfl
    show (u.opEnd d).channel.seekFaults = _
    rw [served.opEnd_channel]
    exact counted
  · obtain ⟨u, ran, served, noted, counted⟩ := v.seekFails (by rw [kind]; rfl) one accepted fits away writes state three
    have ends : u.seekFailed d r = (u.opEnd d).loadDone d r [] := by rw [State.seekFailed, kind]
    have rest := (State.Read.of_noted noted).rest
    obtain ⟨over_, mem⟩ := served.overEnd (by simp [Request.isDeskWrite, kind]) rest
    obtain ⟨ended, lines, same, channel, load, mounts⟩ := over_.loadDone (r := r) profile []
    refine ⟨_, ran.trans (congrArg _ ends), ended, lines, (same.trans mem).trans noted.mem, ?_, load, fun last => (mounts last).1⟩
    rw [channel, served.opEnd_channel]
    exact counted
  · intro zone preferred again close closed read failed
    have fill : r.kind.isFill = true := by rw [kind]; rfl
    have reads : ¬ (s.channel.state = .writeCheck ∨ 1 ≤ o.writes) := by
      rintro (check | written)
      exacts [state check, by simp [writes] at written]
    have ended : ∀ x : OpRecord, close x = x.closePass r.wanted := fun x => (OpRecord.closePass_eq x r.wanted).symm
    refine ⟨fun f c k v n => ⟨fun pass first => ?_, fun x pass first ne => ?_, fun pass first step failing => ?_, fun pass first clear => ?_,
        fun pass => ?_⟩, fun f k v low => ⟨fun good => ?_, ?_⟩,
      fun f c k k' v low at_c n => ?_, fun cut pulses whole short => ?_, fun f c v one accepted fits away => ⟨fun o' step is failing => ?_,
        fun pass step clear => ?_, fun three => ?_⟩⟩
    · refine congrArg Host.Outcome.next ((v.fillId fill n).trans ?_)
      rw [State.namedId_fill fill, if_pos pass, State.passId_begins (o := { o with wrong := 0 }) first, State.setOp_setOp]
    · refine congrArg Host.Outcome.next ((v.fillId fill n).trans ?_)
      rw [State.namedId_fill fill, if_pos pass, State.passId_runs (o := { o with wrong := 0 }) first ne, State.setOp_setOp]
      have same : ({ o with wrong := 0 } : OpRecord) = { o with wrong := 0, awaiting := none } := by rw [← v.awaiting]
      by_cases good : o.notes[k - 1]? = some .good
      · rw [if_pos good, if_pos good, same]
      · rw [if_neg good, if_neg good]
    · refine congrArg Host.Outcome.next ((v.fillId fill n).trans ((State.namedId_closes (q := { o with wrong := 0 }) fill pass first).trans ?_))
      have failing : (close o).failing ≠ [] := failing
      show _ = again { close o with step := .one } preferred
      rw [ended] at failing ⊢
      exact ((State.Alike.refl s d).setOp _).passRetried (q := { o with wrong := 0 }) step failing
    · have clear : (close o).failing = [] := clear
      rw [ended] at clear
      refine ⟨_, congrArg Host.Outcome.next ((v.fillId fill n).trans (State.namedId_closes (q := { o with wrong := 0 }) fill pass first)), ?_⟩
      show s.FillEnds _ d r i (close o).notes _ 0 ∧ _
      rw [ended]
      exact ((State.Alike.refl s d).setOp _).passEnded (q := { o with wrong := 0 }) (v.toServing.setOp _) kind clear
    · refine congrArg Host.Outcome.next ((v.fillId fill n).trans ?_)
      rw [State.namedId_fill fill, if_neg (by rw [pass]; decide), State.setOp_setOp]
      simp only [List.contains_iff_mem]
    · have ran := v.readGood fill good
      have stored (t : State) (mem : t.mem = (s.putFill d r k f.bytes).mem) (canonical : s.memoryCanonical) :
          s.StoredAt t d i r.profile k f.bytes := (State.putFill_stored kind k canonical good.length).of_mem mem
      by_cases pass : o.inPass = true
      · rw [if_pos pass] at ran
        refine ⟨_, ran, stored _ rfl, fun _ first nothing => ?_, fun off => absurd pass (by rw [off]; decide)⟩
        have noted : o.readGood k = { o with awaiting := none, notes := o.notes.set (k - 1) .good } := by
          unfold OpRecord.readGood
          rw [nothing, first]
          rfl
        rw [State.filled, noted, State.putFill_fill kind]
        rfl
      · rw [if_neg pass] at ran
        have taught (two : o.step = .two) : s.Taught ((s.filled d r o k f.bytes).lesson d r (o.readGood k)) d o :=
          State.lesson_taught fill two k f.bytes
        have untaught (other : o.step ≠ .two) := s.lesson_untaught (d := d) (r := r) other k f.bytes
        have op := s.lesson_op (d := d) (o := o) fill k f.bytes
        obtain ⟨y, served⟩ := (v.toServing.filled k f.bytes).lesson
        obtain ⟨alike, mem, counted⟩ := s.lesson_read (d := d) (o := o) kind k f.bytes
        by_cases none_ : o.failing.filter (· != k) = []
        · rw [if_pos (by rw [show (o.readGood k).failing = [] from none_]; rfl)] at ran
          obtain ⟨ends, same, channel⟩ := served.fillEnds alike kind (o.readGood k)
          rw [show (o.readGood k).failing = [] from none_] at ends
          refine ⟨_, ran, stored _ (same.trans mem), fun on => absurd on pass, fun _ => ⟨?_, fun other e z => ?_, fun two => ?_, fun more => absurd none_ more,
            fun _ => ends⟩⟩
          · rw [channel]
            exact counted
          · exact (served.fillEnd_margin fill _ e z).trans (untaught other e z)
          · exact (taught two).of_margins (served.fillEnd_margin fill _)
        · rw [if_neg fun nil : (o.readGood k).failing.isEmpty = true => none_ (List.isEmpty_iff.mp nil)] at ran
          refine ⟨_, ran, stored _ mem, fun on => absurd on pass, fun _ => ⟨counted, fun other e z => ?_, fun two => ?_, fun _ => ⟨rfl, served.granted, op, ?_⟩,
            fun nil => absurd nil none_⟩⟩
          · exact (State.margin_congr rfl rfl e z).trans (untaught other e z)
          · exact (taught two).of_margins fun e z => State.margin_congr rfl rfl e z
          · show State.chanState _ _ = _
            rw [alike.rest]
            rfl
    · have look := State.searching_of_plain v.gate v.pulses v.wrong (Request.fill_plain fill).1 (Request.fill_plain fill).2.1
      have missed : s.dataResult ⟨d, r, o⟩ k none = s.missed d o k := State.dataResult_missed fill k
      refine ⟨fun bad => congrArg Host.Outcome.next ?_, congrArg Host.Outcome.next ?_⟩
      · rw [v.toServing.dataField v.awaiting look bad.1, if_neg (by simp [bad.2]), missed]
        rfl
      · exact (v.toServing.dataMissing v.awaiting look).trans missed
    · intro o1 closed
      let q : OpRecord := { o with awaiting := none, notes := failedNotes o.notes k, wrong := 0 }
      have next : s.idMark f = ((s.missed d o k).setOp d (some q)).namedId d r q k' := v.idMark_next fill at_c n
      have alike : s.Alike ((s.missed d o k).setOp d (some q)) d := (s.missed_alike d o k).setOp _
      have shut : close o1 = q.closePass r.wanted := ended o1
      refine ⟨fun x pass first ne => ?_, fun pass first step failing => ?_, fun pass first clear => ?_, fun pass => ?_⟩
      · refine congrArg Host.Outcome.next (next.trans ?_)
        rw [State.namedId_fill fill, if_pos pass, State.passId_runs (o := q) first ne, State.missed, if_pos pass, State.setOp_setOp, State.setOp_setOp]
        by_cases good : (failedNotes o.notes k)[k' - 1]? = some .good
        · exact (if_pos good).trans (congrArg (fun a => s.setOp d (some { q with awaiting := a })) (if_pos good)).symm
        · exact (if_neg good).trans (congrArg (fun a => s.setOp d (some { q with awaiting := a })) (if_neg good)).symm
      · refine congrArg Host.Outcome.next (next.trans ((State.namedId_closes (q := q) fill pass first).trans ?_))
        have failing : (close o1).failing ≠ [] := failing
        show _ = again { close o1 with step := .one } preferred
        rw [shut] at failing ⊢
        exact alike.passRetried step failing
      · have clear : (close o1).failing = [] := clear
        rw [shut] at clear
        refine ⟨_, congrArg Host.Outcome.next (next.trans (State.namedId_closes (q := q) fill pass first)), ?_⟩
        show s.FillEnds _ d r i (close o1).notes _ 0 ∧ _
        rw [shut]
        exact alike.passEnded ((v.toServing.missed k).setOp _) kind clear
      · refine congrArg Host.Outcome.next (next.trans ?_)
        rw [State.namedId_fill fill, if_neg (by rw [show q.inPass = false from pass]; decide)]
        simp only [List.contains_iff_mem]
        by_cases fails : k' ∈ o.failing
        · rw [if_pos fails]
          rw [if_pos fails]
          exact alike.attempt _ _
        · rw [if_neg fails]
          rw [if_neg fails, State.missed, if_neg (by rw [pass]; decide)]
          exact congrArg (fun x : State => x.chanState .search) (State.setOp_setOp s d _ _)
    · obtain ⟨u, ran, a, served, mem⟩ := v.attemptEnd_fill fill gate pulses whole short
      obtain ⟨notes, rfl⟩ := OpRecord.cut_eq whole short
      intro closed
      refine ⟨fun pass step failing => ?_, fun pass clear => ?_, fun x before later pass order may => ⟨fun step new passed => ?_,
        fun tried mid step new first passed => ?_⟩, fun pass ladder => ?_, fun pass three => ?_⟩
      · refine congrArg Host.Outcome.next (ran.trans ((if_pos pass).trans ?_))
        have failing : (close { o with awaiting := none, notes := notes }).failing ≠ [] := failing
        show _ = again { close { o with awaiting := none, notes := notes } with step := .one } preferred
        rw [ended] at failing ⊢
        exact a.passRetried step failing
      · have clear : (close { o with awaiting := none, notes := notes }).failing = [] := clear
        rw [ended] at clear
        refine ⟨_, congrArg Host.Outcome.next (ran.trans (if_pos pass)), ?_⟩
        show s.FillEnds _ d r i (close { o with awaiting := none, notes := notes }).notes _ 0 ∧ _
        rw [ended]
        exact a.passEnded served kind clear
      · refine congrArg Host.Outcome.next (ran.trans ((if_neg (by rw [pass]; decide)).trans ((a.ladderNext_one (q := { o with awaiting := none, notes := notes }) step).trans
          (a.tries (q := { o with awaiting := none, notes := notes, basePref := preferred }) ?_))))
        exact State.nextStrobe_some order passed new may
      · refine congrArg Host.Outcome.next (ran.trans ((if_neg (by rw [pass]; decide)).trans ((State.ladderNext_two (q := { o with awaiting := none, notes := notes }) step).trans
          (a.tries (q := { o with awaiting := none, notes := notes }) ?_))))
        refine State.nextStrobe_some (before := mid) (later := later) (strobesAfter_some (tried := tried) ?_) passed new may
        rw [order, first, List.append_assoc]
        rfl
      · obtain ⟨step, every⟩ | ⟨step, tried, later, order, every⟩ := ladder
        · obtain ⟨granted, idle, op, selected, -, -, others, lines, mem, -⟩ := a.gives served (r := r)
            (q := { o with awaiting := none, notes := notes, basePref := preferred }) (tried := none) (State.nextStrobe_none fun y _ => by
              by_cases may : s.cfg.allows y = true
              · exact .inl (every y may)
              · exact .inr (Bool.eq_false_iff.mpr may))
          exact ⟨_, _, congrArg Host.Outcome.next (ran.trans ((if_neg (by rw [pass]; decide)).trans (a.ladderNext_one step))), op, rfl,
            granted, idle, selected, others, lines, mem⟩
        · obtain ⟨granted, idle, op, selected, -, -, others, lines, mem, -⟩ := a.gives served (r := r)
            (q := { o with awaiting := none, notes := notes }) (tried := some o.strobe) (State.nextStrobe_none fun y mem => by
              rw [strobesAfter_some order] at mem
              exact every y mem)
          exact ⟨_, _, congrArg Host.Outcome.next (ran.trans ((if_neg (by rw [pass]; decide)).trans (State.ladderNext_two step))), op, rfl,
            granted, idle, selected, others, lines, mem⟩
      · obtain ⟨ends, same, -⟩ := served.fillEnds a.read kind { o with awaiting := none, notes := notes }
        exact ⟨_, congrArg Host.Outcome.next (ran.trans ((if_neg (by rw [pass]; decide)).trans (State.ladderNext_three fill three))), ends,
          same.trans mem⟩
    · obtain ⟨w, served, noted, counts, ran⟩ := v.strays fill one accepted fits away writes state
      have gives (x : OpRecord) (e : s.idMark f = w.releaseStep3 d x) (same : ({ x with step := .three } : OpRecord) = { o' with step := .three, wrong := 2 }) :
          ∃ t, exec (.idFieldAccepted f) s = .next t ∧ t.op d = some { o' with step := .three, wrong := 2 }
              ∧ t.channel.granted = none ∧ t.channel.state = .idle
              ∧ (t.drive d).selected = some { r with state := .recalWait } ∧ s.OthersKept t d ∧ t.lines = s.lines
              ∧ t.mem = s.mem ∧ t.channel.seekFaults = min 65535 (s.channel.seekFaults + 1) := by
        obtain ⟨⟨granted, idle, op, selected, -, -, others, lines, mem, -⟩, counted⟩ := served.releaseStep3 noted x
        exact ⟨_, congrArg Host.Outcome.next e, op.trans (congrArg some same), granted, idle, selected, others, lines, mem, counted.trans counts⟩
      have further := ran.trans (if_neg step)
      by_cases pass : o.inPass = true
      · have failing : (close o).failing ≠ [] := failing pass
        have is : o' = close o := is.trans (if_pos pass)
        rw [ended] at failing is
        refine gives _ (further.trans ((if_pos pass).trans (if_neg fun nil => failing (List.isEmpty_iff.mp nil)))) ?_
        rw [is]
      · have is : o' = o := is.trans (if_neg pass)
        refine gives _ (further.trans (if_neg pass)) ?_
        rw [is]
    · obtain ⟨w, served, noted, -, ran⟩ := v.strays fill one accepted fits away writes state
      have clear : (close o).failing = [] := clear
      rw [ended] at clear
      obtain ⟨ends, mem, -⟩ := served.fillEnds (.of_noted noted) kind { o.closePass r.wanted with wrong := 2 }
      have kept : (o.closePass r.wanted).recovered = o.recovered := by rw [OpRecord.closePass_eq]
      refine ⟨_, congrArg Host.Outcome.next (ran.trans ((if_neg step).trans ((if_pos pass).trans (if_pos (List.isEmpty_iff.mpr clear))))), ?_,
        mem.trans noted.mem⟩
      rw [show ({ o.closePass r.wanted with wrong := 2 } : OpRecord).failing = [] from clear,
        show ({ o.closePass r.wanted with wrong := 2 } : OpRecord).recovered = o.recovered from kept] at ends
      show s.FillEnds _ d r i (close o).notes _ 0
      rw [ended]
      exact ends
    · obtain ⟨u, ran, served, noted, counted⟩ := v.seekFails fill one accepted fits away writes state three
      have ends : u.seekFailed d r = (u.opEnd d).fillFailed d i .seekFault := by rw [State.seekFailed, kind]
      obtain ⟨over_, mem⟩ := served.overEnd (by simp [Request.isDeskWrite, kind]) (State.Read.of_noted noted).rest
      obtain ⟨ended, region, same, channel, answered⟩ := over_.fillFailed (i := i) .seekFault
      refine ⟨_, ran.trans (congrArg _ ends), ended, (same.trans mem).trans noted.mem, ?_, fun runs => ?_, fun closing => ?_, answered⟩
      · rw [channel, served.opEnd_channel]
        exact counted
      · rw [region]
        exact ⟨(Region.unfilled_frame _ 0 runs).1, (Region.unfilled_frame _ 0 runs).2.1, fun j ne => (Region.unfilled_frame _ j runs).2.2 ne⟩
      · rw [region, Region.unfilled, closing]
        exact ⟨rfl, rfl⟩

end Sys2Proof.Machine
end

section
/-! Settlement of the statement on RESTART (R190, R191, R185). -/
namespace Sys2Proof.Machine

/-! ### Every line in turn -/

theorem mem_allLines (l : Line) : l ∈ allLines := by
  revert l
  decide

section
variable {s : State} {f : State → Line → State} {g : Line → LineUnit → LineUnit}

/-- A change of each line unit alone leaves the rest and changes each line unit once. -/
theorem State.eachLine_modLine (own : ∀ t l, t = { s with lines := t.lines } → f t l = t.modLine l (g l)) :
    s.eachLine f = { s with lines := (s.eachLine f).lines } ∧ ∀ l, (s.eachLine f).line l = g l (s.line l) := by
  have turns (l : Line) (xs : List Line) (nodup : xs.Nodup) (t : State) (k : t = { s with lines := t.lines }) :
      xs.foldl f t = { s with lines := (xs.foldl f t).lines } ∧ (xs.foldl f t).line l = if l ∈ xs then g l (t.line l) else t.line l := by
    induction xs generalizing t with
    | nil => exact ⟨k, (if_neg List.not_mem_nil).symm⟩
    | cons x xs ih =>
      obtain ⟨fresh, nodup⟩ := List.nodup_cons.mp nodup
      have changed := own t x k
      obtain ⟨rest, lines⟩ := ih nodup (f t x) (by rw [changed, State.modLine, k])
      refine ⟨rest, lines.trans ?_⟩
      rw [changed, State.line_modLine]
      by_cases e : x = l
      · subst e
        rw [if_neg fresh, if_pos rfl, if_pos (List.mem_cons_self ..)]
      · have iff : l ∈ x :: xs ↔ l ∈ xs := List.mem_cons.trans (or_iff_right (Ne.symm e))
        simp only [if_neg e, iff]
  exact ⟨(turns 0 allLines (by decide) s rfl).1, fun l =>
    (turns l allLines (by decide) s rfl).2.trans (if_pos (mem_allLines l))⟩

end

/-! ### The requests that the drain's end answers (R191) -/

theorem LineUnit.pump_counts (u : LineUnit) : u.pump.framesTaken = u.framesTaken ∧ u.pump.checkErrors = u.checkErrors
    ∧ u.pump.abandoned = u.abandoned := by
  unfold LineUnit.pump
  (repeat' split) <;> exact ⟨rfl, rfl, rfl⟩

/-- The level, the receive area and the counts of a line unit. -/
structure LineUnit.Alike (u v : LineUnit) : Prop where
  present : v.present = u.present
  rx      : v.rx = u.rx
  counts  : v.framesTaken = u.framesTaken ∧ v.checkErrors = u.checkErrors ∧ v.abandoned = u.abandoned

theorem LineUnit.Alike.trans {u v w : LineUnit} (h : u.Alike v) (k : v.Alike w) : u.Alike w :=
  ⟨k.present.trans h.present, k.rx.trans h.rx, k.counts.1.trans h.counts.1, k.counts.2.1.trans h.counts.2.1, k.counts.2.2.trans h.counts.2.2⟩

/-- With no frame waiting to be judged again a request completes without more. -/
theorem LineUnit.complete_alike {u : LineUnit} (idle : ∀ bs, u.rx ≠ .held bs true) (ctx : LineCtx) (b : BufId) (r : Reply) :
    u.Alike (u.complete ctx b r) := by
  unfold LineUnit.complete
  cases held : u.bufs.get b with
  | none => exact ⟨rfl, rfl, rfl, rfl, rfl⟩
  | some h =>
    by_cases busy : h.stage = .inProgress
    · by_cases orphan : h.orphan = true
      · have quiet : (u.setBuf b none).rejudge ctx = u.setBuf b none := by
          unfold LineUnit.rejudge
          split
          next bs waits => exact absurd waits (idle bs)
          · rfl
        simp only [busy, ne_eq, not_true_eq_false, if_false, orphan, if_true, quiet]
        exact ⟨rfl, rfl, rfl, rfl, rfl⟩
      · simp only [busy, ne_eq, not_true_eq_false, if_false, orphan]
        exact ⟨LineUnit.pump_present _, LineUnit.pump_rx _, LineUnit.pump_counts _⟩
    · simp only [ne_eq, busy, not_false_eq_true, if_true]
      exact ⟨rfl, rfl, rfl, rfl, rfl⟩

/-- Both buffers of a line at the drain's end (R191). -/
def LineUnit.endRequests (u : LineUnit) (ctx : LineCtx) : LineUnit :=
  (u.complete ctx 0 (.failed .removed)).complete ctx 1 (.failed .removed)

theorem LineUnit.endRequests_alike {u : LineUnit} (idle : ∀ bs, u.rx ≠ .held bs true) (ctx : LineCtx) : u.Alike (u.endRequests ctx) := by
  have first := LineUnit.complete_alike idle ctx 0 (.failed .removed)
  exact first.trans (LineUnit.complete_alike (fun bs => by rw [first.rx]; exact idle bs) ctx 1 _)

theorem State.endRequests_eq (s : State) : s.endRequests = { s with lines := s.endRequests.lines }
    ∧ ∀ l, s.endRequests.line l = (s.line l).endRequests (s.lineCtx l) := by
  unfold State.endRequests
  refine State.eachLine_modLine (g := fun l u => u.endRequests (s.lineCtx l)) fun t l k => ?_
  · have ctx : t.lineCtx l = s.lineCtx l := by
      rw [k]
      rfl
    show ((t.modLine l fun u => u.complete (t.lineCtx l) 0 (.failed .removed)).modLine l fun u => u.complete (t.lineCtx l) 1 (.failed .removed)) = _
    rw [State.modLine_modLine, ctx]
    rfl

theorem zero_or_one (b : BufId) : b = 0 ∨ b = 1 := by
  revert b
  decide

/-- Each request in progress is answered FAILED REMOVED at the drain's end. -/
theorem State.endRequests_answers {s : State} {l : Line} {b : BufId} {h : Held} (start : s.Open l b h) :
    s.endRequests.hasReply l b (.failed .removed) := by
  have L := Lasting.settling l b h (.failed .removed)
  have K := Lasting.hasReply (.failed .removed) l b (.failed .removed)
  unfold State.endRequests State.eachLine
  refine State.foldl_reaches (f := fun s l => (s.endRequest l 0).endRequest l 1) (P := fun s => s.Settling l b h (.failed .removed)) (Q := fun s => s.hasReply l b (.failed .removed))
    (fun _ m p => L.answer m 1 (L.answer m 0 p)) (fun _ m p => K.answer m 1 (K.answer m 0 p)) (mem_allLines l)
    (fun t p => ?_) (.inl start)
  obtain rfl | rfl := zero_or_one b
  · exact K.answer l 1 p.answer
  · exact State.Settling.answer (L.answer l 0 p)

theorem State.endRequests_keeps {s : State} {l : Line} {b : BufId} {r : Reply} (has : s.hasReply l b r) : s.endRequests.hasReply l b r := by
  have K := Lasting.hasReply (.failed .removed) l b r
  unfold State.endRequests
  exact State.eachLine_keeps (fun s => s.hasReply l b r) (fun s l => (s.endRequest l 0).endRequest l 1) (fun _ m p => K.answer m 1 (K.answer m 0 p)) s has

/-! ### The line units at the drain's end (R185) -/

/-- A line unit at the drain's end: in its reset state when its reply order is empty. -/
def LineUnit.afterDrain (u : LineUnit) (silence : Nat) (rate : Rate) : LineUnit :=
  if u.order = [] then u.drained.restartReset silence rate else u.drained

section
variable {u : LineUnit} {silence : Nat} {rate : Rate}

theorem LineUnit.afterDrain_empty (empty : u.order = []) : u.afterDrain silence rate = u.drained.restartReset silence rate := if_pos empty
theorem LineUnit.afterDrain_order (waits : u.order ≠ []) : u.afterDrain silence rate = u.drained := if_neg waits

/-- A reply that waits keeps its line from the reset. -/
theorem LineUnit.Orderly.afterDrain_buffer (orderly : u.Orderly) {b : BufId} {h : Held} (held : u.bufs.get b = some h)
    (stage : h.stage ≠ .inProgress) : (u.afterDrain silence rate).bufs.get b = some h := by
  have listed : ReplySlot.buf b ∈ u.order := (orderly.buffers b).mpr ⟨h, held, stage⟩
  rw [LineUnit.afterDrain_order (List.ne_nil_of_mem listed)]
  exact held

theorem LineUnit.afterDrain_kept (u : LineUnit) : (u.afterDrain silence rate).present = u.present
    ∧ (u.afterDrain silence rate).framesTaken = u.framesTaken ∧ (u.afterDrain silence rate).checkErrors = u.checkErrors
    ∧ (u.afterDrain silence rate).abandoned = u.abandoned := by
  unfold LineUnit.afterDrain
  split <;> exact ⟨rfl, rfl, rfl, rfl⟩

theorem LineUnit.afterDrain_waits (waits : (u.afterDrain silence rate).order ≠ []) : (u.afterDrain silence rate).resetDue = true := by
  by_cases empty : u.order = []
  · rw [LineUnit.afterDrain_empty empty] at waits
    exact absurd rfl waits
  · rw [LineUnit.afterDrain_order empty]
    rfl

theorem LineUnit.afterDrain_resets (done : (u.afterDrain silence rate).order = []) :
    (u.afterDrain silence rate).AtReset u.present silence rate ∧ (u.afterDrain silence rate).resetDue = false := by
  by_cases empty : u.order = []
  · rw [LineUnit.afterDrain_empty empty]
    obtain ⟨port, buffers, replies, receive, silent, speed⟩ := freshLine_atReset u.present silence rate
    exact ⟨⟨port, buffers, replies, receive, silent, speed⟩, rfl⟩
  · rw [LineUnit.afterDrain_order empty] at done
    exact absurd done empty

end

theorem State.lineReset_drained {t : State} {c : ConfigRecord} (cfg : t.cfg = c) (l : Line) :
    (t.modLine l LineUnit.drained).lineReset l = t.modLine l fun u => u.afterDrain c.silence (c.rates.get l) := by
  subst cfg
  unfold State.lineReset
  rw [State.line_modLine_self]
  by_cases empty : (t.line l).order = []
  · rw [if_pos ⟨rfl, empty⟩, State.modLine_modLine]
    exact State.modLine_congr (if_pos empty).symm
  · rw [if_neg fun h => empty h.2]
    exact State.modLine_congr (if_neg empty).symm

theorem State.blocksRestart_cfg (s : State) (straps : Straps) : (s.blocksRestart straps).cfg = s.cfg := rfl
theorem State.blocksRestart_line (s : State) (straps : Straps) (l : Line) : (s.blocksRestart straps).line l = s.line l := rfl

theorem State.drainEnds_eq (s : State) (straps : Straps) : s.drainEnds straps
      = { s.endRequests.blocksRestart straps with lines := (s.drainEnds straps).lines }
    ∧ ∀ l, (s.drainEnds straps).line l
        = ((s.line l).endRequests (s.lineCtx l)).afterDrain s.cfg.silence (s.cfg.rates.get l) := by
  obtain ⟨rest, ended⟩ := s.endRequests_eq
  have cfg : (s.endRequests.blocksRestart straps).cfg = s.cfg :=
    (s.endRequests.blocksRestart_cfg straps).trans (by rw [rest])
  have lines (l : Line) : (s.endRequests.blocksRestart straps).line l = (s.line l).endRequests (s.lineCtx l) :=
    (s.endRequests.blocksRestart_line straps l).trans (ended l)
  unfold State.drainEnds
  generalize s.endRequests.blocksRestart straps = y at cfg lines ⊢
  obtain ⟨kept, turns⟩ := State.eachLine_modLine (s := y) (f := fun s l => (s.modLine l LineUnit.drained).lineReset l)
    (g := fun l u => u.afterDrain s.cfg.silence (s.cfg.rates.get l)) fun t l k => State.lineReset_drained (by rw [k]; exact cfg) l
  exact ⟨kept, fun l => (turns l).trans (congrArg (LineUnit.afterDrain · s.cfg.silence (s.cfg.rates.get l)) (lines l))⟩

/-! ### The blocks after a RESTART (R191) -/

/-- The blocks but the line units after a RESTART, from those of `s`. -/
structure State.Restarted (s t : State) (straps : Straps) : Prop where
  drives  : ∀ d, t.drive d = (s.drive d).restarted (driveInUse straps s.cfg.drivesInUse d)
  channel : t.channel = s.channel.restarted s.cfg
  regions : ∀ d, t.region d = (s.region d).restarted
  vols    : ∀ d, t.vol d = freshVolume
  cw      : t.cw = freshClaimUnit
  part    : t.part = freshPart straps
  kept    : t.cfg = s.cfg ∧ t.clock = s.clock ∧ t.pending = s.pending
  arrival : t.arrival = 0

theorem State.drainEnds_restarted (s : State) (straps : Straps) : s.Restarted (s.drainEnds straps) straps := by
  have rest := s.endRequests_eq.1
  have fresh : s.Restarted (s.endRequests.blocksRestart straps) straps := by
    generalize s.endRequests = y at rest
    rw [rest]
    exact ⟨fun d => vector_get_ofFn _ d, rfl, fun d => vector_get_ofFn _ d, fun d => vector_get_replicate _ d, rfl, rfl, ⟨rfl, rfl, rfl⟩, rfl⟩
  have same := (s.drainEnds_eq straps).1
  generalize s.drainEnds straps = t at same ⊢
  generalize s.endRequests.blocksRestart straps = y at fresh same
  rw [same]
  exact ⟨fresh.drives, fresh.channel, fresh.regions, fresh.vols, fresh.cw, fresh.part, fresh.kept, fresh.arrival⟩

namespace State.Restarted
variable {s t : State} {straps : Straps} (k : s.Restarted t straps)
include k

theorem busyLamp (d : DriveId) : t.busyLamp d = false := by
  rw [State.busyLamp, k.vols, k.drives, freshVolume_dirtySet]
  simp [freshVolume, DriveSeq.restarted, freshDrive]

theorem attention (l : Line) : t.attention l = false :=
  State.attention_of_nothing (k.cw ▸ (freshClaimUnit_without l).watches) (k.cw ▸ (freshClaimUnit_without l).flag)

theorem blocksAtReset : t.BlocksAtReset (s.inputsNow straps) := by
  have cfg := k.kept.1
  have levels (d : DriveId) : (s.inputsNow straps).drives.get d = (s.drive d).levels := vector_get_ofFn _ d
  refine ⟨fun d => ?_, ?_, fun d => ?_, fun d => ?_, fun d => ?_, ?_, k.arrival⟩
  · have busy := k.busyLamp d
    have gate : t.writeGate d = false := by simp [State.writeGate, k.channel, Channel.restarted, freshChannel]
    rw [k.drives, cfg, levels]
    exact ⟨rfl, freshDrive_condition _ _, rfl, freshDrive_noIndexTimer _ _, rfl, rfl, rfl, rfl, rfl, rfl, busy, gate⟩
  · rw [k.channel]
    simp [Channel.restarted, freshChannel, State.inputsNow]
  · have op : t.op d = none := by simp [State.op, k.channel, Channel.restarted, freshChannel]
    refine ⟨by simp [k.channel, Channel.restarted, freshChannel], op, by simp [k.channel, Channel.restarted, freshChannel], fun z => ?_⟩
    cases z <;> simp [State.margin, k.channel, Channel.restarted, freshChannel, freshMargin, cfg]
  · rw [k.regions]
    exact ⟨rfl, rfl⟩
  · rw [k.vols]
    refine ⟨rfl, rfl, rfl, rfl, rfl, fun n => ?_, rfl, rfl, rfl, rfl, rfl⟩
    by_cases lt : n < 256 <;> simp [Volume.entry, freshVolume, Vector.getD, lt]
  · rw [k.cw]
    exact ⟨rfl, rfl, fun l => (freshClaimUnit_without l).watches, fun l => ⟨(freshClaimUnit_without l).flag, k.attention l⟩⟩

/-- The counts and the fault cause stand (R191). -/
theorem counts (d : DriveId) : (t.drive d).selections = (s.drive d).selections ∧ (t.drive d).bypasses = (s.drive d).bypasses
    ∧ (t.drive d).opens = (s.drive d).opens ∧ (t.drive d).refused = (s.drive d).refused
    ∧ ((t.drive d).condition ≠ .faulted → (t.drive d).cause = (s.drive d).cause)
    ∧ (t.region d).hits = (s.region d).hits ∧ (t.region d).fills = (s.region d).fills
    ∧ (t.region d).directs = (s.region d).directs ∧ (t.region d).evicts = (s.region d).evicts := by
  rw [k.drives, k.regions]
  exact ⟨rfl, rfl, rfl, rfl, fun sound => if_neg sound, rfl, rfl, rfl, rfl⟩

end State.Restarted

/-! ### When the drain ends (R190) -/

theorem ReqKind.isWrite_iff (k : ReqKind) : k.isWrite = false ↔
    (∀ b x, k ≠ .write b x) ∧ (∀ st, k ≠ .prepWrite st) ∧ (∀ j, k ≠ .indexWrite j) ∧ k ≠ .formatTrack := by
  cases k <;> simp [ReqKind.isWrite]

theorem Volume.dirtySet_isEmpty_iff (v : Volume) : v.dirtySet.isEmpty = true ↔ ∀ j, v.sector j = .clean := by
  rw [List.isEmpty_iff, Volume.dirtySet, List.filter_eq_nil_iff]
  refine ⟨fun clean j => ?_, fun clean j _ => by simp [clean j]⟩
  by_cases lt : j < v.sectors.length
  · simpa using clean j (List.mem_range.mpr lt)
  · exact List.getD_eq_default _ _ (Nat.le_of_not_lt lt)

theorem State.drainIdle_iff (s : State) : s.drainIdle = true ↔ s.Drained := by
  have reasons (v : Volume) : v.hasReason = true ↔ v.wpReason = true ∨ v.inconsistent = true ∨ v.indexFault = true := by
    simp [Volume.hasReason, or_assoc]
  have quiet (d : DriveId) : ((s.drive d).queue.any fun r => r.kind.isWrite) = false ↔ ∀ r ∈ (s.drive d).queue, (∀ b x, r.kind ≠ .write b x)
      ∧ (∀ st, r.kind ≠ .prepWrite st) ∧ (∀ j, r.kind ≠ .indexWrite j) ∧ r.kind ≠ .formatTrack := by
    rw [List.any_eq_false]
    exact forall₂_congr fun r _ => (Bool.eq_false_iff (b := r.kind.isWrite)).symm.trans r.kind.isWrite_iff
  have every (p : DriveId → Bool) : allDrives.all p = true ↔ ∀ d, p d = true :=
    ⟨fun h d => List.all_eq_true.mp h d (mem_allDrives d), fun h => List.all_eq_true.mpr fun d _ => h d⟩
  have drive (d : DriveId) : (!((s.drive d).queue.any fun r => r.kind.isWrite) && ((s.vol d).dirtySet.isEmpty || (s.vol d).hasReason)
        && (s.vol d).state != .preparing) = true
      ↔ ((∀ r ∈ (s.drive d).queue, (∀ b x, r.kind ≠ .write b x) ∧ (∀ st, r.kind ≠ .prepWrite st) ∧ (∀ j, r.kind ≠ .indexWrite j)
          ∧ r.kind ≠ .formatTrack)
        ∧ ((∀ j, (s.vol d).sector j = .clean) ∨ (s.vol d).wpReason = true ∨ (s.vol d).inconsistent = true ∨ (s.vol d).indexFault = true))
        ∧ (s.vol d).state ≠ .preparing := by
    rw [Bool.and_eq_true, Bool.and_eq_true, Bool.not_eq_true', quiet, Bool.or_eq_true, Volume.dirtySet_isEmpty_iff, reasons, bne_iff_ne]
  rw [State.drainIdle, Bool.and_eq_true, List.isEmpty_iff, every]
  constructor
  · rintro ⟨replies, drives⟩
    exact ⟨replies, fun d => ((drive d).mp (drives d)).1.1, fun d => ((drive d).mp (drives d)).1.2, fun d => ((drive d).mp (drives d)).2⟩
  · rintro ⟨replies, queues, dirty, volumes⟩
    exact ⟨replies, fun d => (drive d).mpr ⟨⟨queues d, dirty d⟩, volumes d⟩⟩

theorem State.drainMayEnd_iff (s : State) : s.drainMayEnd = true ↔
    s.part.state = .draining ∧ (s.part.drainOver = true ∨ s.Drained) ∧ s.channel.gate = none := by
  rw [State.drainMayEnd, Bool.and_eq_true, Bool.and_eq_true, Bool.or_eq_true, State.drainIdle_iff, beq_iff_eq, Option.isNone_iff_eq_none,
    and_assoc]

/-- Settles O37. -/
theorem restartDrainsAndRestartsTheBlocks : Obligations.RestartDrainsAndRestartsTheBlocks := by
  unfold Obligations.RestartDrainsAndRestartsTheBlocks
  refine ⟨fun s l b h => ⟨fun w early => ?_, fun us draining timer => ?_⟩, fun s straps no => ?_,
    fun s straps draining over_ shut idle orderly _ => ?_⟩
  · let g (p : Part) : Part := p.drain l b h.orphan
    have taken : (s.modPart g).Waiting l b codeRestart h := ⟨w.live, w.held, w.named, w.stage, w.untaken, w.owned, w.sending⟩
    refine congrArg Host.Outcome.next ((w.onRequest _).trans ((taken.answer (.ok [])).trans ?_))
    show (s.replied l b h (.done false false [])).modPart g = _
    have part : g s.part = { s.part with state := .draining, drainTimer := true, restarts := s.part.restarts ++ [(l, b)] } := by
      show s.part.drain l b h.orphan = _
      have timer : (!s.part.drainOver) = true := by rw [early]; rfl
      rw [w.owned, Part.drain, timer]
      rfl
    exact congrArg (fun p => ({ s.replied l b h (.done false false []) with part := p } : State)) part
  · intro ended
    have run : exec (.drainTimerExpiry us) s = .next (ended.cutInGap us) := congrArg Host.Outcome.next (if_pos ⟨draining, timer⟩)
    refine ⟨fun inside => run.trans (congrArg _ (State.cutInGap_keeps fun d r o g v formats gate =>
      inside d r o g ⟨v.granted, v.selected, v.record⟩ formats gate)), fun d r o g v formats gate gap => ?_⟩
    have served : ended.Serving d r o := ⟨v.granted, v.selected, v.record⟩
    obtain ⟨cut, op, queue⟩ := State.formatCut_drain (s := ended) (d := d) (r := r) rfl
    exact ⟨_, run.trans (congrArg _ (served.cutInGap formats gate gap)), cut, op, queue⟩
  · refine congrArg Host.Outcome.next (if_neg fun may => ?_)
    obtain ⟨draining, over_, gate⟩ := s.drainMayEnd_iff.mp may
    obtain other | opened | ⟨early, busy⟩ := no
    · exact other draining
    · exact opened gate
    · exact over_.elim (fun late => by simp [early] at late) busy
  · have may := s.drainMayEnd_iff.mpr ⟨draining, over_, shut⟩
    have k := s.drainEnds_restarted straps
    obtain ⟨cfg, clock, pending⟩ := k.kept
    refine ⟨s.drainEnds straps, congrArg Host.Outcome.next (if_pos may), k.part, k.blocksAtReset, cfg, clock, pending, k.counts, ?_⟩
    have line := (s.drainEnds_eq straps).2
    have ended := s.endRequests_eq.2
    have ordered (l : Line) : ((s.line l).endRequests (s.lineCtx l)).Orderly := ((orderly l).complete _ 0 _).complete _ 1 _
    have alike (l : Line) := LineUnit.endRequests_alike (idle l) (s.lineCtx l)
    have replied {l : Line} {b : BufId} {r : Reply} (has : s.endRequests.hasReply l b r) : (s.drainEnds straps).hasReply l b r := by
      obtain ⟨h, held, stage, reply⟩ := has
      have held : (s.endRequests.line l).bufs.get b = some h := held
      rw [ended] at held
      refine ⟨h, ?_, stage, reply⟩
      show ((s.drainEnds straps).line l).bufs.get b = some h
      rw [line]
      exact (ordered l).afterDrain_buffer held stage
    rw [k.channel]
    refine ⟨rfl, rfl, rfl, rfl, rfl, rfl, fun l b h held owned => ⟨fun stage => ?_, fun stage r reply => ?_⟩, fun l => ?_, fun l => ?_, fun l => ?_⟩
    · have unanswered : h.reply = none := Option.not_isSome_iff_eq_none.mp fun some_ => ((orderly l).replies b h held).mpr some_ stage
      exact replied (State.endRequests_answers ⟨held, stage, owned, unanswered⟩)
    · exact replied (State.endRequests_keeps ⟨h, held, stage, reply⟩)
    · obtain ⟨present, -, taken, errors, abandoned⟩ := alike l
      obtain ⟨p, a, b, c⟩ := LineUnit.afterDrain_kept (silence := s.cfg.silence) (rate := s.cfg.rates.get l) ((s.line l).endRequests (s.lineCtx l))
      rw [line]
      exact ⟨p.trans present, a.trans taken, b.trans errors, c.trans abandoned⟩
    · rw [line]
      exact LineUnit.afterDrain_waits
    · rw [line, ← (alike l).present]
      exact LineUnit.afterDrain_resets

end Sys2Proof.Machine
end
